-- ==== Sys2Proof/Word.lean ====
section
/-! DEFINITION. The byte, the fixed-length table that holds numbered records, and the saturating count. -/

namespace Sys2Proof

/-- One byte of a frame. -/
abbrev Byte := BitVec 8

/-- A bank of `n` numbered records: sockets, zones, lanes, table rows. -/
structure Table (n : Nat) (α : Type) where
  cells : List α
  size : cells.length = n
deriving DecidableEq, Repr

namespace Table

variable {n : Nat} {α : Type}

/-- Record number `i`. -/
def get (t : Table n α) (i : Fin n) : α := t.cells[i.val]'(by rw [t.size]; exact i.isLt)

/-- The bank whose record `i` is `f i`. -/
def ofFn (f : Fin n → α) : Table n α := ⟨List.ofFn f, by simp⟩

/-- The bank with every record equal to `a`. -/
def fill (a : α) : Table n α := ⟨List.replicate n a, by simp⟩

/-- The bank with record `i` replaced by `a`. -/
def set (t : Table n α) (i : Fin n) (a : α) : Table n α :=
  ⟨t.cells.set i.val a, by rw [List.length_set, t.size]⟩

/-- The bank with record `i` passed through `f`. -/
def upd (t : Table n α) (i : Fin n) (f : α → α) : Table n α := t.set i (f (t.get i))

@[simp] theorem get_ofFn (f : Fin n → α) (i : Fin n) : (ofFn f).get i = f i := by
  simp [get, ofFn]

@[simp] theorem get_fill (a : α) (i : Fin n) : (fill a : Table n α).get i = a := by
  simp [get, fill]

theorem get_set (t : Table n α) (i j : Fin n) (a : α) :
    (t.set i a).get j = if i = j then a else t.get j := by
  simp only [get, set, List.getElem_set, Fin.ext_iff]

@[simp] theorem get_set_same (t : Table n α) (i : Fin n) (a : α) : (t.set i a).get i = a := by
  simp [get_set]

theorem get_upd (t : Table n α) (i j : Fin n) (f : α → α) :
    (t.upd i f).get j = if i = j then f (t.get i) else t.get j := by
  simp [upd, get_set]

@[simp] theorem get_upd_same (t : Table n α) (i : Fin n) (f : α → α) :
    (t.upd i f).get i = f (t.get i) := by
  simp [get_upd]

/-- Two banks with the same records are the same bank. -/
theorem ext_get {t u : Table n α} (h : ∀ i, t.get i = u.get i) : t = u := by
  cases t with
  | mk a ha =>
    cases u with
    | mk b hb =>
      have : a = b := by
        apply List.ext_getElem (by rw [ha, hb])
        intro i h1 h2
        exact h ⟨i, by rw [← ha]; exact h1⟩
      subst this
      rfl

end Table

/-- One more than `n`, stopping at `top` (00_scope.md, Saturation). -/
def satSucc (top n : Nat) : Nat := min top (n + 1)

end Sys2Proof
end

