-- ==== Sys2Proof/Config.lean ====
section
/-! DEFINITION. The numbers the part fixes (00_scope.md, Numbers used throughout) and the free values: what the spec leaves
open and the machine goes on from. A free value has no body, so nothing can be proved of it. -/

namespace Sys2Proof.Config

/-- Records the Report Queue holds (R51). -/
def reportCapacity : Nat := 64

/-- Replies the Reply Queue holds (R179). -/
def replyCapacity : Nat := 4

/-- Frames the Downstream Forward Queue holds (R175). -/
def downCapacity : Nat := 4

/-- Frames the Upstream Forward Queue holds (R176). -/
def upCapacity : Nat := 8

/-- Vectors the Vector Queue holds (R125). -/
def vectorCapacity : Nat := 512

/-- Scores a socket's history holds (R40). -/
def historyLength : Nat := 8

/-- Top of the link, report and monitor counts and of the scores. -/
def countTop : Nat := 65535

/-- Top of credit, run seconds, the transfer number and a gate's raw count. -/
def longTop : Nat := 4294967295

/-- Top of the step timer (R162). -/
def elapsedTop : Nat := 4000000

/-- Predictions of a PRBS window (R147). -/
def prbsWindow : Nat := 48

/-- Eligible cycles of a toggle window (R148). -/
def toggleWindow : Nat := 1024

/-- DESIGN CHOICE (log 4). The free choice number `k` of an order that no rule gives. -/
opaque freeOrder : Nat → Nat

/-- DESIGN CHOICE (log 5). The free choice number `k` of where the AUTO score transfer of an interval expiry falls (R20):
before the accrual pass, between it and the close, or after the close. -/
opaque transferPlace : Nat → Nat

/-- DESIGN CHOICE (log 6). The command code byte of the reply to a MGMT frame too short to hold a command code (R180 step 1);
the spec states none. -/
opaque missingCode : Nat → Byte

/-- DESIGN CHOICE (log 37). The free choice number `k` of the levels of the sense lanes in the first vector cycle of a start, bit n
being lane Ln: the event that starts the engine carries none. -/
opaque senseLevels : Nat → BitVec 64

end Sys2Proof.Config
end

