-- ==== Sys2Proof/Syntax.lean ====
section
/-! DEFINITION. The commands: one constructor for each row of spec/opcode_table.json. Each docstring names the row and its
rule. The table gives no operands; they are the model's, chosen from the rule (INVENTORY.md, Instructions). -/

namespace Sys2Proof

/-- The three quantities the intake keeps for a zone (R64). -/
inductive Quantity where
  | voltage
  | current
  | temperature
deriving DecidableEq, Repr

/-- A command waiting in the queue. `src` and `tag` of a management command are the SRC and TAG of the MGMT frame that
carries it (R178). -/
inductive Instr where
  /-- POWER_ON_RESET (R170), with the pins it reads: ADDR (R173), whether another slot pulls the HALT line, and the states the
  two ports find (R175, R177). -/
  | powerOnReset (addr : BitVec 6) (othersPull downPartner upReceiver : Bool)
  /-- UP_FRAME_TAKEN (R174): the bytes received at the UP port, header to CRC. -/
  | upFrameTaken (bytes : List Byte)
  /-- DOWN_FRAME_TAKEN (R176): the bytes received at the DOWN port. -/
  | downFrameTaken (bytes : List Byte)
  /-- DOWN_TRANSMIT_END (R175). -/
  | downTransmitEnd
  /-- UP_TRANSMIT_END (R177). -/
  | upTransmitEnd
  /-- DOWN_PARTNER_CHANGE (R175): the partner state the port now holds. -/
  | downPartnerChange (present : Bool)
  /-- UP_RECEIVER_CHANGE (R177): the receiver state the port now holds. -/
  | upReceiverChange (present : Bool)
  /-- TBL_WRITE (R182): any table number; the tables with a row of their own have a constructor of their own below. -/
  | tblWrite (src tag : Byte) (table first count : Byte) (mask : BitVec 64) (values : List Byte)
  /-- SOCKET_TABLE_WRITE (R3): TBL_WRITE to table 2. -/
  | socketTableWrite (src tag : Byte) (first count : Byte) (mask : BitVec 64) (values : List Byte)
  /-- ZONE_TABLE_WRITE (R69): TBL_WRITE to table 3. -/
  | zoneTableWrite (src tag : Byte) (first count : Byte) (mask : BitVec 64) (values : List Byte)
  /-- ORDER_WRITE (R72): TBL_WRITE to table 10. -/
  | orderWrite (src tag : Byte) (first count : Byte) (mask : BitVec 64) (values : List Byte)
  /-- STEP_STAGE_WRITE (R158): TBL_WRITE to table 12. -/
  | stepStageWrite (src tag : Byte) (first count : Byte) (mask : BitVec 64) (values : List Byte)
  /-- SENSE_MODE_WRITE (R142): TBL_WRITE to table 8. -/
  | senseModeWrite (src tag : Byte) (first count : Byte) (mask : BitVec 64) (values : List Byte)
  /-- SETTINGS_WRITE (R169): TBL_WRITE to table 1. -/
  | settingsWrite (src tag : Byte) (first count : Byte) (mask : BitVec 64) (values : List Byte)
  /-- TBL_READ (R184). -/
  | tblRead (src tag : Byte) (table first count : Byte) (mask : BitVec 64)
  /-- LOOP_LOAD (R127): first index, vector count, flags (bit 0 LAST) and the vectors, six bytes each (R190). -/
  | loopLoad (src tag : Byte) (first count flags : Byte) (vectors : List Byte)
  /-- STAGE_SETTLE (R159). -/
  | stageSettle (src tag : Byte)
  /-- STAGE_UNSETTLE (R159). -/
  | stageUnsettle (src tag : Byte)
  /-- STEP_START (R161). -/
  | stepStart (src tag : Byte)
  /-- STEP_STOP (R165). -/
  | stepStop (src tag : Byte)
  /-- STEP_ABORT (R167). -/
  | stepAbort (src tag : Byte)
  /-- STEP_CLEAR (R168). -/
  | stepClear (src tag : Byte)
  /-- ZONE_CLEAR (R85): bit z names zone z. -/
  | zoneClear (src tag : Byte) (zones : Byte)
  /-- SOCKET_ARM (R7): bit s names socket s; bit 0 of the options is CLEAR. -/
  | socketArm (src tag : Byte) (sockets : BitVec 32) (options : Byte)
  /-- SOCKET_RELEASE (R8). -/
  | socketRelease (src tag : Byte) (sockets : BitVec 32)
  /-- SOCKET_HOLD (R9). -/
  | socketHold (src tag : Byte) (sockets : BitVec 32)
  /-- SOCKET_RESTORE (R10). -/
  | socketRestore (src tag : Byte) (sockets : BitVec 32)
  /-- SOCKET_FAIL (R11). -/
  | socketFail (src tag : Byte) (sockets : BitVec 32)
  /-- SNAPSHOT (R39). -/
  | snapshot (src tag : Byte)
  /-- STATUS_READ (R185). -/
  | statusRead (src tag : Byte)
  /-- RUN_RESET (R186). -/
  | runReset (src tag : Byte)
  /-- SAMPLE_WORD (R58, R62): the 17 bits in the order of R193, the parity bit highest. -/
  | sampleWord (word : BitVec 17)
  /-- STALE_TIMER_EXPIRY (R66). -/
  | staleTimerExpiry (zone : Fin 4) (quantity : Quantity)
  /-- INTERVAL_EXPIRY (R20). -/
  | intervalExpiry
  /-- RAMP_STEP_EXPIRY (R75). -/
  | rampStepExpiry (zone : Fin 4)
  /-- CONFIRM_TIMER_EXPIRY (R79). -/
  | confirmTimerExpiry (zone : Fin 4)
  /-- SETTLE_TIMER_EXPIRY (R94). -/
  | settleTimerExpiry (zone : Fin 4)
  /-- SOAK_TIMER_EXPIRY (R110). -/
  | soakTimerExpiry (zone : Fin 4)
  /-- GRACE_TIMER_EXPIRY (R111). -/
  | graceTimerExpiry (zone : Fin 4)
  /-- VECTOR_CYCLE (R129): bit n is the value of sense lane Ln as sampled in the cycle. -/
  | vectorCycle (sense : BitVec 64)
  /-- VECTOR_BOUNDARY (R130). -/
  | vectorBoundary
  /-- PRBS_WINDOW_END (R147). -/
  | prbsWindowEnd (lane : Fin 64)
  /-- TOGGLE_WINDOW_END (R149). -/
  | toggleWindowEnd (lane : Fin 64)
  /-- GATE_EXPIRY (R151), of the gate on the socket's secondary lane. -/
  | gateExpiry (socket : Fin 32)
  /-- HALT_LINE_ASSERTED (R166): `othersPull` says that another slot's output pulls the line. -/
  | haltLineAsserted (othersPull : Bool)
  /-- HALT_LINE_RELEASED (R166): no other slot's output pulls the line. -/
  | haltLineReleased
  /-- FREQ_LANE_RISING_EDGE (R150), at the socket's secondary lane. -/
  | freqLaneRisingEdge (socket : Fin 32)
deriving DecidableEq, Repr

end Sys2Proof
end

