-- ==== Sys2Proof/WellFormed.lean ====
section
/-! DEFINITION. Which terms of the command syntax stand for a command the outside can send. Every check is on the command
alone; `exec` has a meaning for ill-formed terms too. -/

namespace Sys2Proof

/-- The tables whose writes have an opcode row of their own: SETTINGS, SOCKET, ZONE, SENSE, ORDER, STEP (R191 numbers). -/
def tablesWithOwnRow : List Nat := [1, 2, 3, 8, 10, 12]

/-- The longest value list of a TBL_WRITE: a payload of 1024 bytes (R189) less the command code and the eleven bytes of table,
first row, row count and mask (R190). -/
def maxValueBytes : Nat := 1012

/-- The longest vector list of a LOOP_LOAD: 1024 bytes less the code, index, count and flags (R190). -/
def maxLoopBytes : Nat := 1020

/-- Is the command one that can be sent? A frame has at least one byte, a payload fits a frame (R189), and TBL_WRITE names no
table whose writes are another row. -/
def Instr.wellFormed : Instr → Bool
  | .upFrameTaken bytes | .downFrameTaken bytes => !bytes.isEmpty
  | .tblWrite _ _ table _ _ _ values =>
    !tablesWithOwnRow.contains table.toNat && decide (values.length ≤ maxValueBytes)
  | .socketTableWrite _ _ _ _ _ values | .zoneTableWrite _ _ _ _ _ values | .orderWrite _ _ _ _ _ values
  | .stepStageWrite _ _ _ _ _ values | .senseModeWrite _ _ _ _ _ values | .settingsWrite _ _ _ _ _ values =>
    decide (values.length ≤ maxValueBytes)
  | .loopLoad _ _ _ _ _ vectors => decide (vectors.length ≤ maxLoopBytes)
  | .powerOnReset .. | .downTransmitEnd | .upTransmitEnd | .downPartnerChange _ | .upReceiverChange _
  | .tblRead .. | .stageSettle .. | .stageUnsettle .. | .stepStart .. | .stepStop .. | .stepAbort .. | .stepClear ..
  | .zoneClear .. | .socketArm .. | .socketRelease .. | .socketHold .. | .socketRestore .. | .socketFail ..
  | .snapshot .. | .statusRead .. | .runReset .. | .sampleWord _ | .staleTimerExpiry .. | .intervalExpiry
  | .rampStepExpiry _ | .confirmTimerExpiry _ | .settleTimerExpiry _ | .soakTimerExpiry _ | .graceTimerExpiry _
  | .vectorCycle _ | .vectorBoundary | .prbsWindowEnd _ | .toggleWindowEnd _ | .gateExpiry _
  | .haltLineAsserted _ | .haltLineReleased | .freqLaneRisingEdge _ => true

end Sys2Proof
end

