-- ==== Sys2Proof/Decode.lean ====
section
/-! DEFINITION. The command a word spells by the bits of spec/opcode_table.json. The table gives bits to none of its 47 rows
(its "fixed" and "fields" are empty), so no word spells a command (log 24). The bytes of frames, which do spell management
commands, are read in Machine/Link.lean (R180, R190). -/

namespace Sys2Proof

/-- The command that the word `w` of `nbits` bits spells: none, for every word (log 24). -/
def decodeTableWord (_nbits _w : Nat) : Option Instr := none

end Sys2Proof
end

