-- ==== Sys2Proof/Machine/State.lean ====
section
/-! DEFINITION. The state of the 418: every register, table, queue, timer and line the spec gives it, as plain data, and its
values after power-on reset. INVENTORY.md lists each field with the rule that names it. -/

namespace Sys2Proof.Machine

/-- A socket's number, S0 to S31. -/
abbrev SocketId := Fin 32

/-- A zone's number, Z0 to Z3. -/
abbrev ZoneId := Fin 4

/-- A sense lane's number, L0 to L63. -/
abbrev LaneId := Fin 64

/-! ### Sockets (01_sockets.md) -/

/-- The six socket states, in the order of R2. -/
inductive SocketState where
  | vacant
  | ready
  | running
  | suspect
  | failed
  | complete
deriving DecidableEq, Repr

/-- The reasons of a hold, in the order of R2. -/
inductive Hold where
  | forced
  | fail
  | short
  | runaway
  | done
deriving DecidableEq, Repr

/-- The causes of FAILED, in the order of R2. -/
inductive FailCause where
  | score
  | short
  | runaway
  | forced
deriving DecidableEq, Repr

/-- The set of suspect reasons (R12). -/
structure Reasons where
  score : Bool := false
  stuck : Bool := false
  lock : Bool := false
deriving DecidableEq, Repr

/-- The two check kinds of a failing check (R47). -/
inductive CheckKind where
  | compare
  | prbs
deriving DecidableEq, Repr

/-- Where the vector in play came from: a block number and an index in the block, or a loop index (R47, R129). -/
inductive VectorSource where
  | stream (block index : Nat)
  | loop (index : Nat)
deriving DecidableEq, Repr

/-- What the checker hands over with a failing-check notice (R47). -/
structure Failing where
  kind : CheckKind
  lane : LaneId
  source : VectorSource
  repeatCycle : Nat
  expected : Bool
  observed : Bool
deriving DecidableEq, Repr

/-- A first-fail record (R47). -/
structure FirstFail where
  check : Failing
  runSeconds : Nat
  credit : Nat
  temperature : Option Int
deriving DecidableEq, Repr

/-- A row of the SOCKET table (R1, R2), with the qualification flag (R24) and the FAILREC row (R48). -/
structure Socket where
  populated : Bool := false
  zone : ZoneId := 0
  policy : Fin 4 := 0
  target : Nat := 0
  tjOffset : Int := 0
  tjSlope : Int := 0
  state : SocketState := .vacant
  switch : Bool := false
  hold : Option Hold := none
  reasons : Reasons := {}
  credit : Nat := 0
  fraction : Nat := 0
  running : Nat := 0
  last : Nat := 0
  history : List Nat := []
  clean : Nat := 0
  cause : Option FailCause := none
  estimate : Option Int := none
  qualified : Bool := false
  firstFail : Option FirstFail := none
deriving DecidableEq, Repr

/-! ### Zones (04 to 07) -/

/-- The writable fields of a ZONE row: rail fields (R69), then heat fields (R104). -/
structure ZoneCfg where
  fullScaleMv : Nat := 3300
  maxMv : Nat := 0
  rampRate : Nat := 10
  windowMv : Nat := 50
  regCount : Nat := 4
  limitMa : Nat := 10000
  tripMa : Nat := 20000
  settleMs : Nat := 20
  shareMa : Nat := 500
  band : Nat := 6
  soakS : Nat := 300
  graceS : Nat := 10
  hardLimit : Int := 300
  dutyMax : Nat := 0
  kp : Nat := 0
  ki : Nat := 0
deriving DecidableEq, Repr

/-- The rail states, in the order of R70. -/
inductive RailState where
  | off
  | ramping
  | confirming
  | hold
  | searching
  | tripped
deriving DecidableEq, Repr

/-- The trip causes, in the order of R70. -/
inductive TripCause where
  | overcurrent
  | unresolved
  | undervolt
  | overvolt
  | sampleLoss
  | overtemp
  | halt
deriving DecidableEq, Repr

/-- The waiting mark of a rail (R70). -/
inductive Waiting where
  | none
  | powerUp
  | powerDown
deriving DecidableEq, Repr

/-- The side of a sample outside its window or band (R79, R105). -/
inductive Side where
  | low
  | high
deriving DecidableEq, Repr

/-- A zone's rail record (R70, R89). -/
structure Rail where
  state : RailState := .off
  setpoint : Nat := 0
  goal : Option Nat := none
  oowCount : Nat := 0
  tripCause : Option TripCause := none
  waiting : Waiting := .none
  haltSource : Bool := false
  rampTimer : Bool := false
  confirmTimer : Bool := false
  side : Option Side := none
deriving DecidableEq, Repr

/-- The phases of an isolation search (R91). -/
inductive SearchPhase where
  | idle
  | settling
  | measuring
deriving DecidableEq, Repr

/-- A zone's search record (R91). -/
structure Search where
  phase : SearchPhase := .idle
  candidate : Option SocketId := none
  baseline : Option Nat := none
  pending : List SocketId := []
  settleTimer : Bool := false
deriving DecidableEq, Repr

/-- The thermal states, in the order of R105. -/
inductive ThermalState where
  | off
  | heating
  | soaking
  | stable
  | excursion
  | cooling
  | overtemp
  | blind
deriving DecidableEq, Repr

/-- A zone's thermal record (R105, R119). A running soak or grace timer holds the length in seconds it was started with (R104). -/
structure Heat where
  state : ThermalState := .off
  target : Option Int := none
  duty : Nat := 0
  integral : Int := 0
  soak : Option Nat := none
  grace : Option Nat := none
  side : Option Side := none
deriving DecidableEq, Repr

/-- The three latches of a zone (R22). -/
structure Latches where
  rail : Bool := false
  thermal : Bool := false
  exercise : Bool := false
deriving DecidableEq, Repr

/-- The three values the intake holds for a zone (R64) and their stale timers, running or stopped (R65). -/
structure Values where
  voltage : Option Nat := none
  current : Option Nat := none
  temperature : Option Int := none
  voltageTimer : Bool := false
  currentTimer : Bool := false
  temperatureTimer : Bool := false
deriving DecidableEq, Repr

/-- All that is kept for one zone. `driving` says that the zone's drive lanes are not gated (R136). -/
structure Zone where
  cfg : ZoneCfg := {}
  rail : Rail := {}
  search : Search := {}
  heat : Heat := {}
  values : Values := {}
  latches : Latches := {}
  driving : Bool := false
deriving DecidableEq, Repr

/-! ### The plain tables -/

/-- A POLICY row (R42). -/
structure Policy where
  suspectThreshold : Nat := 1
  failThreshold : Nat := 100
  failM : Nat := 3
  failN : Nat := 8
  clearK : Nat := 4
  isolateOnFail : Bool := true
  stopOnComplete : Bool := false
  runawayLimit : Int := 300
deriving DecidableEq, Repr

/-- The ACCEL row (R29). -/
structure Accel where
  tBase : Int := 0
  tWidth : Nat := 10
  tf : Table 16 Nat := Table.fill 256
deriving DecidableEq, Repr

/-- The VOLT row (R31). -/
structure Volt where
  vBase : Nat := 0
  vStep : Nat := 100
  vf : Table 8 Nat := Table.fill 256
deriving DecidableEq, Repr

/-- What a monitor channel measures (R59). -/
inductive ChannelQuantity where
  | none
  | voltage
  | current
  | temperature
deriving DecidableEq, Repr

/-- A CHANNEL row (R59). -/
structure Channel where
  zone : ZoneId := 0
  quantity : ChannelQuantity := .none
  scale : Nat := 4096
  offset : Int := 0
  lastRaw : Option Nat := none
deriving DecidableEq, Repr

/-- The sources of a drive lane, in the order of R133. -/
inductive DriveSource where
  | off
  | low
  | high
  | vector
  | prbsA
  | prbsB
  | clock
deriving DecidableEq, Repr

/-- A DRIVE row (R133). -/
structure DriveRow where
  source : DriveSource := .off
  bit : Fin 16 := 0
  invert : Bool := false
deriving DecidableEq, Repr

/-- The modes of a sense lane, in the order of R140. -/
inductive SenseMode where
  | off
  | compare
  | prbs
  | toggle
  | freq
deriving DecidableEq, Repr

/-- The two PRBS polynomials (R145). -/
inductive Polynomial where
  | a
  | b
deriving DecidableEq, Repr

/-- The edges a toggle watch counts (R140). -/
inductive EdgeKind where
  | rising
  | falling
  | both
deriving DecidableEq, Repr

/-- The writable fields of a SENSE row (R140). -/
structure SenseRow where
  mode : SenseMode := .off
  invert : Bool := false
  expectChannel : Fin 8 := 0
  polynomial : Polynomial := .a
  watch : Bool := false
  edgeKind : EdgeKind := .both
  prescale : Nat := 0
deriving DecidableEq, Repr

/-- The monitor field of a lane (R141). -/
inductive Monitor where
  | none
  | valid
  | lost
deriving DecidableEq, Repr

/-- The PRBS checker of a lane (R145, R147). Bit 0 of the register is the most recent bit. -/
structure PrbsCheck where
  register : BitVec 15 := 0
  fill : Nat := 0
  locked : Bool := false
  lockLost : Bool := false
  predictions : Nat := 0
  errors : Nat := 0
  run : Nat := 0
deriving DecidableEq, Repr

/-- The toggle watch of a lane (R148, R149). -/
structure ToggleWatch where
  cycles : Nat := 0
  edges : Nat := 0
  run : Nat := 0
  previous : Option Bool := none
  stuck : Bool := false
deriving DecidableEq, Repr

/-- The frequency gate of a lane (R150, R151): a running gate holds its raw count. -/
structure FreqGate where
  raw : Option Nat := none
  monitor : Monitor := .none
  lastCount : Option Nat := none
deriving DecidableEq, Repr

/-- A sense lane: its SENSE row and its checker state. -/
structure Lane where
  row : SenseRow := {}
  prbs : PrbsCheck := {}
  watch : ToggleWatch := {}
  gate : FreqGate := {}
deriving DecidableEq, Repr

/-! ### The pattern engine (08_pattern_drive.md) -/

/-- The engine states, in the order of R128. -/
inductive EngineState where
  | stopped
  | streaming
  | looping
  | starved
deriving DecidableEq, Repr

/-- The four words of a vector that are kept (R125, R126). -/
structure Vec where
  drive : BitVec 16 := 0
  expect : Byte := 0
  mask : Byte := 0
  reps : Nat := 1
deriving DecidableEq, Repr

/-- An entry of the Vector Queue (R125). -/
structure QueueEntry where
  block : Nat
  index : Nat
  vec : Vec
deriving DecidableEq, Repr

/-- The pattern engine. `cycle` is how many cycles of the vector in play have begun (R129); `period` is the vector period in
force; `clockPhase` and the newest bit of each generator are what a lane with that source drives (R134, R135). Bit 0 of a
generator is its newest bit. -/
structure Engine where
  state : EngineState := .stopped
  queue : List QueueEntry := []
  store : Table 256 Vec := Table.fill {}
  loopLength : Nat := 1
  loopValid : Bool := false
  loopIndex : Nat := 0
  cycle : Nat := 0
  period : Nat := 100
  expected : Option Nat := none
  lastDrive : BitVec 16 := 0
  prbsA : BitVec 9 := BitVec.allOnes 9
  prbsB : BitVec 15 := BitVec.allOnes 15
  clockPhase : Bool := true
deriving DecidableEq, Repr

/-! ### Step control (10_step_control.md) -/

/-- The step states, in the order of R157. -/
inductive StepState where
  | idle
  | running
  | holding
  | stopping
  | halted
deriving DecidableEq, Repr

/-- How a step ends (R157, R162). -/
inductive EndKind where
  | time
  | credit
  | host
deriving DecidableEq, Repr

/-- What the pattern engine plays, in the order of R157. -/
inductive PatternSource where
  | none
  | stream
  | streamLoop
  | loop
deriving DecidableEq, Repr

/-- A step record (R157), at the defaults of IDLE. -/
structure StepRec where
  number : Nat := 0
  endKind : EndKind := .host
  duration : Nat := 1
  railTarget : Table 4 (Option Nat) := Table.fill none
  tempTarget : Table 4 (Option Int) := Table.fill none
  source : PatternSource := .none
  period : Nat := 100
  advance : Bool := false
deriving DecidableEq, Repr

/-- The staged step: a field is present exactly when its written flag is set (R158). A target written absent is
`some none`. -/
structure Staged where
  endKind : Option EndKind := none
  duration : Option Nat := none
  railTarget : Table 4 (Option (Option Nat)) := Table.fill none
  tempTarget : Table 4 (Option (Option Int)) := Table.fill none
  source : Option PatternSource := none
  period : Option Nat := none
  advance : Option Bool := none
deriving DecidableEq, Repr

/-- The staged state (R157). -/
inductive StagedState where
  | empty
  | opened
  | settled
deriving DecidableEq, Repr

/-- Step control: the step state, row 0 with its elapsed count, and row 1 with its state. -/
structure StepCtl where
  state : StepState := .idle
  cur : StepRec := {}
  elapsed : Nat := 0
  staged : Staged := {}
  stagedState : StagedState := .empty
deriving DecidableEq, Repr

/-- The HALT line at this slot (R166): the slot's own output, whether another slot pulls the line, and whether an assertion of
the line by the own output has still to be taken as an event (log 9). -/
structure Halt where
  own : Bool := false
  others : Bool := false
  edge : Bool := false
deriving DecidableEq, Repr

/-- The report mode (R38). -/
inductive ReportMode where
  | auto
  | manual
deriving DecidableEq, Repr

/-- The vector check settings, in the order of R123. -/
inductive VectorCheck where
  | none
  | oddDrive
  | evenDrive
  | oddAll
  | evenAll
deriving DecidableEq, Repr

/-- The SETTINGS row (R169). -/
structure Settings where
  firstFail : Bool := true
  verdict : Bool := true
  zone : Bool := true
  pattern : Bool := true
  step : Bool := true
  lane : Bool := true
  summary : Bool := true
  laneClear : Bool := true
  reportMode : ReportMode := .auto
  haltIn : Bool := true
  haltOut : Bool := true
  vectorCheck : VectorCheck := .none
deriving DecidableEq, Repr

/-! ### Records and the Report Queue (03_verdicts_and_the_report_queue.md) -/

/-- The events of a ZONE record, in the order of R54. -/
inductive ZoneEvent where
  | railTripped (cause : TripCause)
  | railHold
  | searchBegun
  | searchCulprit (socket : SocketId)
  | searchCleared
  | searchExhausted
  | searchAbandoned
  | thermalStable
  | thermalExcursion
  | overtempSet
  | overtempClear
  | blind
deriving DecidableEq, Repr

/-- The events of a PATTERN record, in the order of R55. -/
inductive PatternEvent where
  | overrun
  | checkError
  | gap
  | starved
  | resumed
  | loopFallback
deriving DecidableEq, Repr

/-- The events of a STEP record, in the order of R55. -/
inductive StepEvent where
  | started
  | advanced
  | ended
  | stopping
  | stopped
  | halted
  | cleared
  | runReset
deriving DecidableEq, Repr

/-- The events of a LANE record, in the order of R56. -/
inductive LaneEvent where
  | stuckSet
  | stuckClear
  | lockGained
  | lockLost
  | monitorLost
  | monitorBack
deriving DecidableEq, Repr

/-- A record of the Report Queue, of one of seven kinds (R17, R46, R49, R54 to R56). -/
inductive Record where
  | firstFail (socket : SocketId) (record : FirstFail)
  | verdict (socket : SocketId) (fromState toState : SocketState) (cause : Option FailCause) (reasons : Reasons)
      (runSeconds credit last : Nat)
  | zone (zone : ZoneId) (event : ZoneEvent) (runSeconds : Nat) (voltage current : Option Nat) (temperature : Option Int)
  | pattern (event : PatternEvent) (block expected : Option Nat)
  | step (event : StepEvent) (number runSeconds : Nat)
  | lane (socket : SocketId) (lane : LaneId) (event : LaneEvent)
  | summary (number : Nat) (entries : List (SocketId × Nat))
deriving DecidableEq, Repr

/-- The Report Queue and the three report counts (R51, R53). -/
structure Reports where
  queue : List Record := []
  created : Nat := 0
  sent : Nat := 0
  dropped : Nat := 0
deriving DecidableEq, Repr

/-! ### The link (11_the_oven_link.md) -/

/-- The statuses of a reply, in the order of R181. -/
inductive Status where
  | ok
  | clamped
  | unknown
  | noTable
  | range
  | length
  | readOnly
  | busy
  | state
  | halted
deriving DecidableEq, Repr

/-- A reply waiting in the Reply Queue: where it goes, its TAG, and its payload (R178). -/
structure Reply where
  dest : Byte
  tag : Byte
  code : Byte
  status : Status
  result : List Byte
deriving DecidableEq, Repr

/-- The kind of traffic the UP arbiter served last (R177). -/
inductive Served where
  | forward
  | locals
deriving DecidableEq, Repr

/-- The six link counts (R187). -/
structure LinkCounts where
  upBad : Nat := 0
  upMalformed : Nat := 0
  downDrop : Nat := 0
  downBad : Nat := 0
  upDrop : Nat := 0
  replyDrop : Nat := 0
deriving DecidableEq, Repr

/-- The link. A frame is its bytes, header to CRC. -/
structure Link where
  address : BitVec 6
  downPartner : Bool
  upReceiver : Bool
  downQueue : List (List Byte) := []
  downSending : Option (List Byte) := none
  upQueue : List (List Byte) := []
  replies : List Reply := []
  upSending : Option (List Byte) := none
  lastServed : Served := .locals
  sequence : Byte := 0
  counts : LinkCounts := {}
deriving DecidableEq, Repr

/-! ### The whole part -/

/-- DRIVE rows after power-on reset: row `16 z + c` feeds from bit `c` (R133). -/
def driveReset : Table 64 DriveRow :=
  Table.ofFn fun n => { bit := ⟨n.val % 16, Nat.mod_lt _ (by decide)⟩ }

/-- The state of the 418, with the model's queue of waiting commands and its counter of free choices (log 4). -/
structure State where
  sockets : Table 32 Socket := Table.fill {}
  zones : Table 4 Zone := Table.fill {}
  order : List ZoneId := []
  policies : Table 4 Policy := Table.fill {}
  accel : Accel := {}
  volt : Volt := {}
  channels : Table 16 Channel := Table.fill {}
  drive : Table 64 DriveRow := driveReset
  driveInEffect : Table 64 DriveRow := driveReset
  lanes : Table 64 Lane := Table.fill {}
  engine : Engine := {}
  step : StepCtl := {}
  halt : Halt := {}
  settings : Settings := {}
  reports : Reports := {}
  link : Link
  runSeconds : Nat := 0
  transferNumber : Nat := 0
  badWords : Nat := 0
  freeIndex : Nat := 0
  pending : List Instr := []
deriving DecidableEq, Repr

/-- Why the part stops with a fault: never. The spec gives every command an effect in every state, so no meaning raises a
fault and the type has no constructor. -/
inductive Fault where
deriving DecidableEq, Repr

/-- Why the model refuses a command. -/
inductive Refusal where
  /-- Raised by an arm of `exec` whose command has no meaning yet, with its mnemonic; safe: the model stops where the part
  goes on. No arm raises it. -/
  | notModelled (mnemonic : String)
deriving DecidableEq, Repr

/-- The machine right after power-on reset (R18, R36, R57, R68, R89, R119, R138, R154, R170, R173 and the link's table).
DESIGN CHOICE (log 3): ADDR pins at 1, no other slot pulling the HALT line, a DOWN partner and an UP receiver present. -/
def State.reset : State := { link := { address := 1, downPartner := true, upReceiver := true } }

end Sys2Proof.Machine
end

