-- ==== Sys2Proof/Machine/Operands.lean ====
section
/-! DEFINITION. The byte forms of 12_frame_and_record_layouts.md: the coding of values (R188), frames and their CRC (R172, R189),
report records (R192), sample words (R193), and the fields a TBL_WRITE carries (R182, R188). -/

namespace Sys2Proof.Machine

/-! ### Values as bytes (R188) -/

/-- `n` in `k` bytes, most significant first. -/
def be : Nat → Nat → List Byte
  | 0, _ => []
  | k + 1, n => BitVec.ofNat 8 (n / 256 ^ k) :: be k n

/-- `v` in `k` bytes of two's complement, most significant first. -/
def beInt (k : Nat) (v : Int) : List Byte := be k (v % (256 ^ k : Nat)).toNat

/-- The number that bytes spell, most significant first. -/
def natOfBytes (bs : List Byte) : Nat := bs.foldl (fun n b => n * 256 + b.toNat) 0

/-- The number that bytes spell in two's complement. -/
def intOfBytes (bs : List Byte) : Int :=
  let n := natOfBytes bs
  if 2 * n < 256 ^ bs.length then (n : Int) else (n : Int) - (256 ^ bs.length : Nat)

/-- yes/no: one byte. -/
def flagByte (b : Bool) : Byte := if b then 1 else 0

/-- An optional value of `size` bytes: its presence byte, then the value's bytes or zeros. -/
def optBytes (size : Nat) : Option (List Byte) → List Byte
  | some bs => 1 :: bs
  | none => 0 :: List.replicate size 0

/-- An optional unsigned value of `size` bytes. -/
def optNat (size : Nat) (o : Option Nat) : List Byte := optBytes size (o.map (be size))

/-- An optional two's complement value of `size` bytes. -/
def optInt (size : Nat) (o : Option Int) : List Byte := optBytes size (o.map (beInt size))

/-- A list: its count byte, then its entries. -/
def listBytes (entries : List (List Byte)) : List Byte := BitVec.ofNat 8 entries.length :: entries.flatten

/-! ### Enumerated values: the position in the list of the rule that defines the field (R188; log 13) -/

def SocketState.code : SocketState → Nat
  | .vacant => 0
  | .ready => 1
  | .running => 2
  | .suspect => 3
  | .failed => 4
  | .complete => 5

def Hold.code : Hold → Nat
  | .forced => 0
  | .fail => 1
  | .short => 2
  | .runaway => 3
  | .done => 4

def FailCause.code : FailCause → Nat
  | .score => 0
  | .short => 1
  | .runaway => 2
  | .forced => 3

/-- The set of suspect reasons: SCORE bit 0, STUCK bit 1, LOCK bit 2. -/
def Reasons.code (r : Reasons) : Nat := r.score.toNat + 2 * r.stuck.toNat + 4 * r.lock.toNat

/-- The switch field lists on, then off (R2; log 13). -/
def switchCode (on : Bool) : Nat := if on then 0 else 1

def RailState.code : RailState → Nat
  | .off => 0
  | .ramping => 1
  | .confirming => 2
  | .hold => 3
  | .searching => 4
  | .tripped => 5

def TripCause.code : TripCause → Nat
  | .overcurrent => 0
  | .unresolved => 1
  | .undervolt => 2
  | .overvolt => 3
  | .sampleLoss => 4
  | .overtemp => 5
  | .halt => 6

def Waiting.code : Waiting → Nat
  | .none => 0
  | .powerUp => 1
  | .powerDown => 2

def Side.code : Side → Nat
  | .low => 0
  | .high => 1

def SearchPhase.code : SearchPhase → Nat
  | .idle => 0
  | .settling => 1
  | .measuring => 2

def ThermalState.code : ThermalState → Nat
  | .off => 0
  | .heating => 1
  | .soaking => 2
  | .stable => 3
  | .excursion => 4
  | .cooling => 5
  | .overtemp => 6
  | .blind => 7

def ChannelQuantity.code : ChannelQuantity → Nat
  | .none => 0
  | .voltage => 1
  | .current => 2
  | .temperature => 3

def ChannelQuantity.ofCode : Nat → ChannelQuantity
  | 0 => .none
  | 1 => .voltage
  | 2 => .current
  | _ => .temperature

def DriveSource.code : DriveSource → Nat
  | .off => 0
  | .low => 1
  | .high => 2
  | .vector => 3
  | .prbsA => 4
  | .prbsB => 5
  | .clock => 6

def DriveSource.ofCode : Nat → DriveSource
  | 0 => .off
  | 1 => .low
  | 2 => .high
  | 3 => .vector
  | 4 => .prbsA
  | 5 => .prbsB
  | _ => .clock

def SenseMode.code : SenseMode → Nat
  | .off => 0
  | .compare => 1
  | .prbs => 2
  | .toggle => 3
  | .freq => 4

def SenseMode.ofCode : Nat → SenseMode
  | 0 => .off
  | 1 => .compare
  | 2 => .prbs
  | 3 => .toggle
  | _ => .freq

def Polynomial.code : Polynomial → Nat
  | .a => 0
  | .b => 1

def Polynomial.ofCode : Nat → Polynomial
  | 0 => .a
  | _ => .b

def EdgeKind.code : EdgeKind → Nat
  | .rising => 0
  | .falling => 1
  | .both => 2

def EdgeKind.ofCode : Nat → EdgeKind
  | 0 => .rising
  | 1 => .falling
  | _ => .both

def Monitor.code : Monitor → Nat
  | .none => 0
  | .valid => 1
  | .lost => 2

def EngineState.code : EngineState → Nat
  | .stopped => 0
  | .streaming => 1
  | .looping => 2
  | .starved => 3

def StepState.code : StepState → Nat
  | .idle => 0
  | .running => 1
  | .holding => 2
  | .stopping => 3
  | .halted => 4

def EndKind.code : EndKind → Nat
  | .time => 0
  | .credit => 1
  | .host => 2

def EndKind.ofCode : Nat → EndKind
  | 0 => .time
  | 1 => .credit
  | _ => .host

def PatternSource.code : PatternSource → Nat
  | .none => 0
  | .stream => 1
  | .streamLoop => 2
  | .loop => 3

def PatternSource.ofCode : Nat → PatternSource
  | 0 => .none
  | 1 => .stream
  | 2 => .streamLoop
  | _ => .loop

def StagedState.code : StagedState → Nat
  | .empty => 0
  | .opened => 1
  | .settled => 2

def ReportMode.code : ReportMode → Nat
  | .auto => 0
  | .manual => 1

def ReportMode.ofCode : Nat → ReportMode
  | 0 => .auto
  | _ => .manual

def VectorCheck.code : VectorCheck → Nat
  | .none => 0
  | .oddDrive => 1
  | .evenDrive => 2
  | .oddAll => 3
  | .evenAll => 4

def VectorCheck.ofCode : Nat → VectorCheck
  | 0 => .none
  | 1 => .oddDrive
  | 2 => .evenDrive
  | 3 => .oddAll
  | _ => .evenAll

/-- Statuses are coded by their order in R181 (R190). -/
def Status.code : Status → Nat
  | .ok => 0
  | .clamped => 1
  | .unknown => 2
  | .noTable => 3
  | .range => 4
  | .length => 5
  | .readOnly => 6
  | .busy => 7
  | .state => 8
  | .halted => 9

def CheckKind.code : CheckKind → Nat
  | .compare => 0
  | .prbs => 1

/-- The event byte of a ZONE record (R192). -/
def ZoneEvent.code : ZoneEvent → Nat
  | .railTripped _ => 0
  | .railHold => 1
  | .searchBegun => 2
  | .searchCulprit _ => 3
  | .searchCleared => 4
  | .searchExhausted => 5
  | .searchAbandoned => 6
  | .thermalStable => 7
  | .thermalExcursion => 8
  | .overtempSet => 9
  | .overtempClear => 10
  | .blind => 11

/-- The argument byte of a ZONE record (R192). -/
def ZoneEvent.argument : ZoneEvent → Nat
  | .railTripped cause => cause.code
  | .searchCulprit socket => socket.val
  | _ => 0

def PatternEvent.code : PatternEvent → Nat
  | .overrun => 0
  | .checkError => 1
  | .gap => 2
  | .starved => 3
  | .resumed => 4
  | .loopFallback => 5

def StepEvent.code : StepEvent → Nat
  | .started => 0
  | .advanced => 1
  | .ended => 2
  | .stopping => 3
  | .stopped => 4
  | .halted => 5
  | .cleared => 6
  | .runReset => 7

def LaneEvent.code : LaneEvent → Nat
  | .stuckSet => 0
  | .stuckClear => 1
  | .lockGained => 2
  | .lockLost => 3
  | .monitorLost => 4
  | .monitorBack => 5

/-! ### Frames (R172, R189) -/

/-- One bit into the CRC register (R172): x^16 + x^12 + x^5 + 1 less its top term is 0x1021. -/
def crcBit (r : BitVec 16) (b : Bool) : BitVec 16 :=
  if r.msb != b then (r <<< 1) ^^^ 0x1021 else r <<< 1

/-- One byte into the CRC register, most significant bit first. -/
def crcByte (r : BitVec 16) (x : Byte) : BitVec 16 :=
  [7, 6, 5, 4, 3, 2, 1, 0].foldl (fun r i => crcBit r (x.getLsbD i)) r

/-- The CRC of bytes in the order in which they are sent (R172). -/
def crc (bs : List Byte) : BitVec 16 := bs.foldl crcByte 0xFFFF

/-- The named fields of a frame (R189). -/
structure Frame where
  dest : Byte
  src : Byte
  kind : Byte
  tag : Byte
  payload : List Byte
deriving DecidableEq, Repr

/-- The bytes of a frame from its DEST to the end of its payload. -/
def Frame.body (f : Frame) : List Byte := [f.dest, f.src, f.kind, f.tag] ++ be 2 f.payload.length ++ f.payload

/-- The bytes of a frame the part forms itself (R172). -/
def Frame.bytes (f : Frame) : List Byte := f.body ++ be 2 (crc f.body).toNat

/-- The frame that received bytes hold, if they pass the check of R172: at least a header and a trailer, LEN at most 1024, LEN
bytes between them, and the CRC field right (log 19). -/
def parseFrame : List Byte → Option Frame
  | dest :: src :: kind :: tag :: l1 :: l0 :: rest =>
    let len := natOfBytes [l1, l0]
    if len ≤ 1024 ∧ rest.length = len + 2 ∧
        natOfBytes (rest.drop len) = (crc ([dest, src, kind, tag, l1, l0] ++ rest.take len)).toNat then
      some { dest, src, kind, tag, payload := rest.take len }
    else none
  | _ => none

/-- KIND bytes (R189). -/
def kindVector : Byte := 1
def kindMgmt : Byte := 2
def kindReply : Byte := 3
def kindReport : Byte := 4

/-! ### Report records (R192) -/

/-- The 21 bytes of a FAILREC row after its presence byte, in fields 0 to 8 (R191). -/
def FirstFail.fieldBytes (r : FirstFail) : Nat → List Byte
  | 0 => be 1 r.check.kind.code
  | 1 => be 1 r.check.lane.val
  | 2 =>
    match r.check.source with
    | .stream block index => be 1 0 ++ be 2 block ++ be 1 index
    | .loop index => be 1 1 ++ be 2 0 ++ be 1 index
  | 3 => be 2 r.check.repeatCycle
  | 4 => [flagByte r.check.expected]
  | 5 => [flagByte r.check.observed]
  | 6 => be 4 r.runSeconds
  | 7 => be 4 r.credit
  | _ => optInt 2 r.temperature

/-- The sizes of FAILREC's fields 0 to 8 (R191). -/
def failrecSize : Nat → Nat
  | 0 => 1
  | 1 => 1
  | 2 => 4
  | 3 => 2
  | 4 => 1
  | 5 => 1
  | 6 => 4
  | 7 => 4
  | _ => 3

/-- The payload of the REPORT frame that carries a record: its kind byte, then its fields (R192). -/
def Record.payload : Record → List Byte
  | .firstFail socket r => be 1 1 ++ be 1 socket.val ++ (List.range 9).flatMap r.fieldBytes
  | .verdict socket fromState toState cause reasons runSeconds credit last =>
    be 1 2 ++ be 1 socket.val ++ be 1 fromState.code ++ be 1 toState.code ++ optNat 1 (cause.map FailCause.code) ++
      be 1 reasons.code ++ be 4 runSeconds ++ be 4 credit ++ be 2 last
  | .zone z event runSeconds voltage current temperature =>
    be 1 3 ++ be 1 z.val ++ be 1 event.code ++ be 1 event.argument ++ be 4 runSeconds ++ optNat 2 voltage ++
      optNat 2 current ++ optInt 2 temperature
  | .pattern event block expected => be 1 4 ++ be 1 event.code ++ optNat 2 block ++ optNat 2 expected
  | .step event number runSeconds => be 1 5 ++ be 1 event.code ++ be 4 number ++ be 4 runSeconds
  | .lane socket n event => be 1 6 ++ be 1 socket.val ++ be 1 n.val ++ be 1 event.code
  | .summary number entries =>
    be 1 7 ++ be 4 number ++ listBytes (entries.map fun e => be 1 e.1.val ++ be 2 e.2)

/-! ### Vectors on the link (R121, R189) -/

/-- A vector as it arrives: its four words and its check bit. -/
structure SentVector where
  vec : Vec
  check : Bool
deriving DecidableEq, Repr

/-- The vectors that bytes hold, six bytes each (R189); none where the bytes are no whole number of vectors. -/
def parseVectors : List Byte → Option (List SentVector)
  | [] => some []
  | d1 :: d0 :: expect :: mask :: reps :: check :: rest =>
    (parseVectors rest).map fun vs =>
      { vec := { drive := BitVec.ofNat 16 (natOfBytes [d1, d0]), expect, mask
                 reps := if reps.toNat = 0 then 256 else reps.toNat }
        check := check.getLsbD 0 } :: vs
  | _ => none

/-- A vector block (R121). -/
structure Block where
  number : Nat
  restart : Bool
  vectors : List SentVector
deriving DecidableEq, Repr

/-- The block that a VECTOR payload holds, if it is well formed (R121, R189): a count of 1 to 32 and exactly that many vectors. -/
def parseBlock : List Byte → Option Block
  | n1 :: n0 :: flags :: count :: rest =>
    match parseVectors rest with
    | some vectors =>
      if 1 ≤ count.toNat ∧ count.toNat ≤ 32 ∧ vectors.length = count.toNat then
        some { number := natOfBytes [n1, n0], restart := flags.getLsbD 0, vectors }
      else none
    | none => none
  | _ => none

/-- How many one bits a word has. -/
def onesCount {w : Nat} (x : BitVec w) : Nat := (List.range w).countP x.getLsbD

/-- Does a vector pass the vector check under a setting (R123)? -/
def SentVector.passes (v : SentVector) : VectorCheck → Bool
  | .none => true
  | .oddDrive => (onesCount v.vec.drive + v.check.toNat) % 2 = 1
  | .evenDrive => (onesCount v.vec.drive + v.check.toNat) % 2 = 0
  | .oddAll => (onesCount v.vec.drive + onesCount v.vec.expect + onesCount v.vec.mask + v.check.toNat) % 2 = 1
  | .evenAll => (onesCount v.vec.drive + onesCount v.vec.expect + onesCount v.vec.mask + v.check.toNat) % 2 = 0

/-! ### Sample words (R58, R193) -/

/-- Is the parity of a sample word right: odd over all 17 bits (R58)? -/
def sampleParityOdd (w : BitVec 17) : Bool := onesCount w % 2 = 1

/-- The channel field of a sample word (R193; log 22). -/
def sampleChannel (w : BitVec 17) : Fin 16 := ⟨w.toNat / 4096 % 16, Nat.mod_lt _ (by decide)⟩

/-- The raw value of a sample word (R193). -/
def sampleRaw (w : BitVec 17) : Nat := w.toNat % 4096

/-! ### Fields of a TBL_WRITE (R182, R188) -/

/-- How a writable field is coded, with its range. -/
inductive FieldKind where
  /-- yes or no. -/
  | yesNo
  /-- one of `n` listed values. -/
  | enum (n : Nat)
  /-- a number in `lo`..`hi`. -/
  | num (lo hi : Int)
  /-- an optional number in `lo`..`hi`. -/
  | optNum (lo hi : Int)
  /-- the ORDER list: at most four zone bytes. -/
  | zoneList
deriving DecidableEq, Repr

/-- The bytes a number with the range `lo`..`hi` takes (R188). -/
def rangeSize (lo hi : Int) : Nat :=
  if 0 ≤ lo ∧ hi ≤ 255 then 1
  else if (0 ≤ lo ∧ hi ≤ 65535) ∨ (-32768 ≤ lo ∧ hi ≤ 32767) then 2
  else 4

/-- The bytes a field takes, other than a list, whose length is in its count byte. -/
def FieldKind.size : FieldKind → Nat
  | .yesNo => 1
  | .enum _ => 1
  | .num lo hi => rangeSize lo hi
  | .optNum lo hi => 1 + rangeSize lo hi
  | .zoneList => 1

/-- A field's value as written. -/
inductive Written where
  | num (v : Int)
  | opt (o : Option Int)
  | list (l : List Nat)
deriving DecidableEq, Repr

def Written.int : Written → Int
  | .num v => v
  | .opt o => o.getD 0
  | .list _ => 0

def Written.nat (w : Written) : Nat := w.int.toNat

def Written.flag (w : Written) : Bool := w.int != 0

def Written.optional : Written → Option Int
  | .num v => some v
  | .opt o => o
  | .list _ => none

def Written.numbers : Written → List Nat
  | .list l => l
  | _ => []

/-- The bytes of one field's value and the bytes after it; none where they run out (R182 stage 6). -/
def takeField (kind : FieldKind) (bs : List Byte) : Option (List Byte × List Byte) :=
  match kind, bs with
  | .zoneList, [] => none
  | .zoneList, c :: rest => if rest.length < c.toNat then none else some (c :: rest.take c.toNat, rest.drop c.toNat)
  | _, _ => if bs.length < kind.size then none else some (bs.take kind.size, bs.drop kind.size)

/-- A number coded in a range: two's complement where the range includes negative values (R188). -/
def codedNumber (lo : Int) (bs : List Byte) : Int := if lo < 0 then intOfBytes bs else natOfBytes bs

/-- The value a field's bytes hold; none where it is out of range (R182 stage 7, R188). -/
def readField (kind : FieldKind) (bs : List Byte) : Option Written :=
  match kind with
  | .yesNo => if natOfBytes bs ≤ 1 then some (.num (natOfBytes bs)) else none
  | .enum n => if natOfBytes bs < n then some (.num (natOfBytes bs)) else none
  | .num lo hi =>
    let v := codedNumber lo bs
    if lo ≤ v ∧ v ≤ hi then some (.num v) else none
  | .optNum lo hi =>
    match bs with
    | [] => none
    | p :: rest =>
      let v := codedNumber lo rest
      if p = 0 then some (.opt none)
      else if p = 1 ∧ lo ≤ v ∧ v ≤ hi then some (.opt (some v)) else none
  | .zoneList =>
    match bs with
    | [] => none
    | _ :: rest =>
      let zs := rest.map BitVec.toNat
      if zs.length ≤ 4 ∧ zs.all (· ≤ 3) ∧ zs.Nodup then some (.list zs) else none

/-- The values of one row split by field; none where the bytes run out. -/
def splitRow : List (Nat × FieldKind) → List Byte → Option (List (Nat × FieldKind × List Byte) × List Byte)
  | [], bs => some ([], bs)
  | (n, kind) :: fields, bs =>
    match takeField kind bs with
    | none => none
    | some (raw, rest) => (splitRow fields rest).map fun (row, rest) => ((n, kind, raw) :: row, rest)

/-- The values of `rows` rows split by row and field; none unless the bytes number exactly what they need (R182 stage 6). -/
def splitRows : Nat → List (Nat × FieldKind) → List Byte → Option (List (List (Nat × FieldKind × List Byte)))
  | 0, _, bs => if bs.isEmpty then some [] else none
  | rows + 1, fields, bs =>
    match splitRow fields bs with
    | none => none
    | some (row, rest) => (splitRows rows fields rest).map (row :: ·)

/-- The fields one row is written with: field numbers and values. -/
abbrev RowWrite := List (Nat × Written)

/-- The values of one row; none where one is out of its field's range. -/
def readRow : List (Nat × FieldKind × List Byte) → Option RowWrite
  | [] => some []
  | (n, kind, raw) :: fields =>
    match readField kind raw with
    | none => none
    | some v => (readRow fields).map ((n, v) :: ·)

/-- The values of all rows; none where one is out of range (R182 stage 7). -/
def readRows : List (List (Nat × FieldKind × List Byte)) → Option (List RowWrite)
  | [] => some []
  | row :: rows =>
    match readRow row with
    | none => none
    | some r => (readRows rows).map (r :: ·)

/-- Does a row write select field `n`? -/
def RowWrite.selects (w : RowWrite) (n : Nat) : Bool := w.any (·.1 == n)

/-- A row after its fields are written, one field at a time. -/
def RowWrite.apply {α : Type} (w : RowWrite) (f : Nat → Written → α → α) (row : α) : α :=
  w.foldl (fun r nv => f nv.1 nv.2 r) row

end Sys2Proof.Machine
end

