-- ==== Sys2Proof/Machine/Ops.lean ====
section
/-! DEFINITION. The named operations every block uses: reading and updating one part of the state, free choices of order, creating
a report record (R50, R51), the arbiter of the UP transmitter (R177, R178), and the small conditions the blocks share. -/

namespace Sys2Proof.Machine

/-! ### One part of the state -/

namespace State

def socket (s : State) (i : SocketId) : Socket := s.sockets.get i

def zone (s : State) (z : ZoneId) : Zone := s.zones.get z

def lane (s : State) (n : LaneId) : Lane := s.lanes.get n

/-- The policy a socket is judged by (R1, R45). -/
def policyOf (s : State) (i : SocketId) : Policy := s.policies.get (s.socket i).policy

def updSocket (s : State) (i : SocketId) (f : Socket → Socket) : State := { s with sockets := s.sockets.upd i f }

def updZone (s : State) (z : ZoneId) (f : Zone → Zone) : State := { s with zones := s.zones.upd z f }

def updRail (s : State) (z : ZoneId) (f : Rail → Rail) : State := s.updZone z fun v => { v with rail := f v.rail }

def updSearch (s : State) (z : ZoneId) (f : Search → Search) : State := s.updZone z fun v => { v with search := f v.search }

def updHeat (s : State) (z : ZoneId) (f : Heat → Heat) : State := s.updZone z fun v => { v with heat := f v.heat }

def updValues (s : State) (z : ZoneId) (f : Values → Values) : State := s.updZone z fun v => { v with values := f v.values }

def updLane (s : State) (n : LaneId) (f : Lane → Lane) : State := { s with lanes := s.lanes.upd n f }

def setSockets (s : State) (f : SocketId → Socket) : State := { s with sockets := Table.ofFn f }

def setZones (s : State) (f : ZoneId → Zone) : State := { s with zones := Table.ofFn f }

def setLanes (s : State) (f : LaneId → Lane) : State := { s with lanes := Table.ofFn f }

def updEngine (s : State) (f : Engine → Engine) : State := { s with engine := f s.engine }

def updStep (s : State) (f : StepCtl → StepCtl) : State := { s with step := f s.step }

def updHalt (s : State) (f : Halt → Halt) : State := { s with halt := f s.halt }

def updReports (s : State) (f : Reports → Reports) : State := { s with reports := f s.reports }

def updLink (s : State) (f : Link → Link) : State := { s with link := f s.link }

end State

/-- The socket a sense lane belongs to: lanes 2s and 2s + 1 are socket s's (00_scope.md, Names; R140). -/
def laneSocket (n : LaneId) : SocketId := ⟨n.val / 2, by omega⟩

/-- A socket's primary lane, 2s. -/
def primaryLane (i : SocketId) : LaneId := ⟨2 * i.val, by omega⟩

/-- A socket's secondary lane, 2s + 1. -/
def secondaryLane (i : SocketId) : LaneId := ⟨2 * i.val + 1, by omega⟩

/-- The zone a drive lane belongs to, by its DRIVE row (08_pattern_drive.md, section 8.5). -/
def driveZone (n : LaneId) : ZoneId := ⟨n.val / 16, by omega⟩

/-- All zones in ascending order. -/
def allZones : List ZoneId := List.finRange 4

/-- All sockets in ascending order. -/
def allSockets : List SocketId := List.finRange 32

/-- All sense lanes in ascending order. -/
def allLanes : List LaneId := List.finRange 64

/-- An armed socket is RUNNING or SUSPECT (section 1.2 of 01_sockets.md). -/
def SocketState.armed : SocketState → Bool
  | .running | .suspect => true
  | .vacant | .ready | .failed | .complete => false

/-- The four powered rail states (R87). -/
def RailState.powered : RailState → Bool
  | .ramping | .confirming | .hold | .searching => true
  | .off | .tripped => false

/-- The rail states in which a zone's drive lanes are not gated (R136). -/
def RailState.ungated : RailState → Bool
  | .hold | .searching => true
  | .off | .ramping | .confirming | .tripped => false

/-- Does the engine play vectors: STREAMING or LOOPING (R137)? -/
def EngineState.playing : EngineState → Bool
  | .streaming | .looping => true
  | .stopped | .starved => false

/-- Is the slot addressed: a latched address of 1 to 62 (R173)? -/
def Link.addressed (l : Link) : Bool := l.address != 0 && l.address != 63

/-- The level of the HALT line: asserted while at least one output pulls it (R166). -/
def Halt.line (h : Halt) : Bool := h.own || h.others

/-! ### Free choices of order (log 4) -/

/-- `x` put into a list at place `k`, or at its end. -/
def insertAt {α : Type} (x : α) : List α → Nat → List α
  | [], _ => [x]
  | y :: ys, 0 => x :: y :: ys
  | y :: ys, k + 1 => y :: insertAt x ys k

/-- The arrangement number `k` of a list: every arrangement has a number. -/
def arrange {α : Type} : List α → Nat → List α
  | [], _ => []
  | x :: xs, k => insertAt x (arrange xs (k / (xs.length + 1))) (k % (xs.length + 1))

/-- The items in an order the spec leaves open. A list of fewer than two items needs no choice. -/
def freely {α : Type} (xs : List α) (s : State) : List α × State :=
  match xs with
  | [] => ([], s)
  | [x] => ([x], s)
  | x :: y :: rest =>
    (arrange (x :: y :: rest) (Config.freeOrder s.freeIndex), { s with freeIndex := s.freeIndex + 1 })

/-- `f` done for each item in turn. -/
def forEach {α : Type} (xs : List α) (f : α → State → State) (s : State) : State := xs.foldl (fun s x => f x s) s

/-- `f` done for each item, in an order the spec leaves open. -/
def forEachFreely {α : Type} (xs : List α) (f : α → State → State) (s : State) : State :=
  let (ys, s) := freely xs s
  forEach ys f s

/-! ### Report records (R50, R51, R56) -/

/-- Is this record created under the report enables? A clear event needs the LANE clear-events enable too (R50, R56). -/
def Settings.enables (t : Settings) : Record → Bool
  | .firstFail .. => t.firstFail
  | .verdict .. => t.verdict
  | .zone .. => t.zone
  | .pattern .. => t.pattern
  | .step .. => t.step
  | .lane _ _ .stuckClear | .lane _ _ .monitorBack => t.lane && t.laneClear
  | .lane .. => t.lane
  | .summary .. => t.summary

/-- A created record is counted and joins the tail of the queue, or is dropped when the queue is full (R50, R51). -/
def Reports.create (q : Reports) (r : Record) : Reports :=
  if q.queue.length < Config.reportCapacity then
    { q with created := satSucc Config.countTop q.created, queue := q.queue ++ [r] }
  else
    { q with created := satSucc Config.countTop q.created, dropped := satSucc Config.countTop q.dropped }

/-- Ask accounting for a record: created only if its kind is enabled (R50). -/
def State.report (s : State) (r : Record) : State :=
  if s.settings.enables r then s.updReports (·.create r) else s

/-- A ZONE record: the zone's values as they stand at creation (R54). -/
def State.reportZone (s : State) (z : ZoneId) (event : ZoneEvent) : State :=
  let v := (s.zone z).values
  s.report (.zone z event s.runSeconds v.voltage v.current v.temperature)

/-- A STEP record, with the current step number (R55). -/
def State.reportStep (s : State) (event : StepEvent) : State :=
  s.report (.step event s.step.cur.number s.runSeconds)

/-- A PATTERN record (R55). -/
def State.reportPattern (s : State) (event : PatternEvent) (block expected : Option Nat := none) : State :=
  s.report (.pattern event block expected)

/-- A LANE record (R56). -/
def State.reportLane (s : State) (n : LaneId) (event : LaneEvent) : State :=
  s.report (.lane (laneSocket n) n event)

/-! ### The UP arbiter (R177, R178) -/

/-- The slot address as the SRC byte of the part's own frames. -/
def Link.srcByte (l : Link) : Byte := l.address.setWidth 8

/-- The REPLY frame of a reply (R178, R190). -/
def Link.replyFrame (l : Link) (r : Reply) : Frame :=
  { dest := r.dest, src := l.srcByte, kind := kindReply, tag := r.tag
    payload := [r.code, BitVec.ofNat 8 r.status.code] ++ r.result }

/-- The REPORT frame of a record (R178, R192). -/
def Link.reportFrame (l : Link) (r : Record) : Frame :=
  { dest := 0, src := l.srcByte, kind := kindReport, tag := l.sequence, payload := r.payload }

/-- Serve forwarded traffic: the head of the Upstream Forward Queue goes out byte for byte (R176, R177). -/
def State.serveForward (s : State) : State :=
  match s.link.upQueue with
  | [] => s
  | f :: rest => s.updLink fun l => { l with upQueue := rest, upSending := some f, lastServed := .forward }

/-- Serve local traffic: a reply if one waits, else the head record (R177); the record counts as sent (R52) and the sequence
number increases (R178). -/
def State.serveLocal (s : State) : State :=
  match s.link.replies with
  | r :: rest =>
    s.updLink fun l => { l with replies := rest, upSending := some (l.replyFrame r).bytes, lastServed := .locals }
  | [] =>
    match s.reports.queue with
    | [] => s
    | r :: rest =>
      (s.updLink fun l =>
        { l with upSending := some (l.reportFrame r).bytes, sequence := l.sequence + 1, lastServed := .locals }).updReports
        fun q => { q with queue := rest, sent := satSucc Config.countTop q.sent }

/-- Does local traffic wait? An unaddressed slot sends no local frames (R173). -/
def State.localWaits (s : State) : Bool :=
  s.link.addressed && (!s.link.replies.isEmpty || !s.reports.queue.isEmpty)

/-- The arbiter's choice, made whenever the transmitter is free and something waits (R177). Every event that can put an item
into the three queues ends with it (log 34). -/
def State.arbitrate (s : State) : State :=
  if s.link.upSending.isNone && s.link.upReceiver then
    match !s.link.upQueue.isEmpty, s.localWaits with
    | true, true => if s.link.lastServed = .forward then s.serveLocal else s.serveForward
    | true, false => s.serveForward
    | false, true => s.serveLocal
    | false, false => s
  else s

/-! ### HALT sources and the own output (R166, R86, R112) -/

/-- Is the zone a HALT source, of the rails (R86) or of the heat controller (R112)? -/
def Zone.haltSource (v : Zone) : Bool := v.rail.haltSource || v.heat.state = .overtemp

/-- Does any HALT source hold? -/
def State.anyHaltSource (s : State) : Bool := allZones.any fun z => (s.zone z).haltSource

/-- Re-evaluate the own output (R166). An own output that takes the line from released to asserted leaves that assertion to be
taken as an event of its own (log 9). -/
def State.evaluateOutput (s : State) : State :=
  let own := s.settings.haltOut && s.anyHaltSource
  s.updHalt fun h => { h with own, edge := h.edge || (own && !h.line) }

/-! ### Commands and their replies (R179, R180) -/

/-- What a command gives: the state after it, and the status and result of its reply. -/
structure CmdOut where
  state : State
  status : Status
  result : List Byte
deriving DecidableEq, Repr

/-- A command taken and done. -/
def State.accept (s : State) (result : List Byte := []) : CmdOut := ⟨s, .ok, result⟩

/-- A command refused: its reply has no result (R180), and the state stands (R181). -/
def State.refuse (s : State) (status : Status) : CmdOut := ⟨s, status, []⟩

/-- A MGMT frame delivered with a command (R179): with four replies waiting it is discarded unexecuted, and otherwise the command
runs and its reply joins the tail of the Reply Queue. -/
def State.answer (s : State) (src tag code : Byte) (cmd : State → CmdOut) : State :=
  if Config.replyCapacity ≤ s.link.replies.length then
    s.updLink fun l => { l with counts := { l.counts with replyDrop := satSucc Config.countTop l.counts.replyDrop } }
  else
    let out := cmd s
    out.state.updLink fun l =>
      { l with replies := l.replies ++ [{ dest := src, tag, code, status := out.status, result := out.result }] }

/-- A management command as an event of its own: the delivery of a MGMT frame that carries it with arguments of its form. An
unaddressed slot is reached by no command (R173; log 18). -/
def State.deliver (s : State) (src tag code : Byte) (cmd : State → CmdOut) : State :=
  if s.link.addressed then (s.answer src tag code cmd).arbitrate else s

end Sys2Proof.Machine
end

