-- ==== Sys2Proof/Machine/Flags.lean ====
section
/-! DEFINITION. The flags of zones and sockets that many blocks move: disturbance latches and qualification (R22 to R24), socket
switches (R87, R88), socket states with their VERDICT records (R17), holds (R16), findings (R14), completion (R15) and suspect
reasons (R12, R13). -/

namespace Sys2Proof.Machine

/-! ### Notices (R23) -/

/-- The three latches of a zone (R22). -/
inductive Latch where
  | rail
  | thermal
  | exercise
deriving DecidableEq, Repr

/-- A latch set. -/
def Latches.setLatch (l : Latches) : Latch → Latches
  | .rail => { l with rail := true }
  | .thermal => { l with thermal := true }
  | .exercise => { l with exercise := true }

/-- Accounting takes a notice: the named latch of each named zone is set, and the qualification flag of every socket whose zone
field names one of them is cleared, whatever its state (R23). -/
def State.notice (s : State) (latch : Latch) (named : ZoneId → Bool) : State :=
  (s.setZones fun z =>
    if named z then { s.zone z with latches := (s.zone z).latches.setLatch latch } else s.zone z).setSockets fun i =>
    if named (s.socket i).zone then { s.socket i with qualified := false } else s.socket i

/-- A notice that names one zone. -/
def State.noticeZone (s : State) (latch : Latch) (z : ZoneId) : State := s.notice latch (· == z)

/-- A notice that names all four zones. -/
def State.noticeAll (s : State) (latch : Latch) : State := s.notice latch fun _ => true

/-! ### Socket switches (R87, R88) -/

/-- The switch rule (R87): populated, no hold, not shed by its zone's search, and a powered rail. -/
def State.switchRule (s : State) (i : SocketId) : Bool :=
  let k := s.socket i
  let v := s.zone k.zone
  k.populated && k.hold.isNone && v.search.candidate != some i && v.rail.state.powered

/-- A socket whose switch is set to `on`. A change to off clears its qualification flag (R24) and makes its junction estimate
absent (R150). -/
def Socket.switched (k : Socket) (on : Bool) : Socket :=
  if k.switch = on then k
  else if on then { k with switch := true }
  else { k with switch := false, qualified := false, estimate := none }

/-- A secondary lane whose socket's switch changes from `was` to `on`: a change to on starts a gate if the lane is in FREQ
mode, a change to off abandons the gate (R150). -/
def Lane.switched (n : Lane) (was on : Bool) : Lane :=
  if was = on then n
  else if on then (if n.row.mode = .freq then { n with gate := { n.gate with raw := some 0 } } else n)
  else { n with gate := { n.gate with raw := none } }

/-- The rails evaluate again the switches of the named sockets (R87) and hand each change to accounting and the checker (R88). -/
def State.evaluateSwitches (s : State) (named : SocketId → Bool) : State :=
  { s with
    sockets := Table.ofFn fun i => if named i then (s.socket i).switched (s.switchRule i) else s.socket i
    lanes := Table.ofFn fun n =>
      let i := laneSocket n
      if named i && n.val % 2 = 1 then (s.lane n).switched (s.socket i).switch (s.switchRule i) else s.lane n }

def State.evaluateSwitch (s : State) (i : SocketId) : State := s.evaluateSwitches (· == i)

/-- The switches of every socket of a zone. -/
def State.evaluateZoneSwitches (s : State) (z : ZoneId) : State :=
  s.evaluateSwitches fun i => (s.socket i).zone == z

/-! ### Holds (R16) -/

/-- The hold a socket carries after a new reason arrives, by the precedence of R16. -/
def Hold.place (held : Option Hold) (new : Hold) : Option Hold :=
  match held, new with
  | none, _ => some new
  | some .forced, .short | some .fail, .short | some .done, .short => some .short
  | some .forced, .runaway | some .fail, .runaway | some .done, .runaway => some .runaway
  | some h, _ => some h

/-- Place a hold by precedence; it is an input change to the switch rule (R16). -/
def State.placeHold (s : State) (i : SocketId) (h : Hold) : State :=
  (s.updSocket i fun k => { k with hold := Hold.place k.hold h }).evaluateSwitch i

/-! ### Socket states (R17, R24) -/

/-- The VERDICT record of a change from `fromState` to the socket's present state (R17). -/
def State.verdictRecord (s : State) (i : SocketId) (fromState : SocketState) (cause : Option FailCause) : Record :=
  let k := s.socket i
  .verdict i fromState k.state cause k.reasons s.runSeconds (k.credit / 256) k.last

/-- A socket in a new state. Leaving RUNNING and SUSPECT clears the qualification flag (R24). -/
def Socket.toState (k : Socket) (new : SocketState) : Socket :=
  { k with state := new, qualified := k.qualified && !(k.state.armed && !new.armed) }

/-- Change a socket's state: one VERDICT record if it changes, none if it does not (R17). -/
def State.changeState (s : State) (i : SocketId) (new : SocketState) (cause : Option FailCause := none) : State :=
  let old := (s.socket i).state
  if old = new then s
  else
    let s := s.updSocket i (·.toState new)
    s.report (s.verdictRecord i old cause)

/-! ### Findings and completion (R14, R15) -/

/-- The hold a finding places: FAIL only under isolate_on_fail (R14). -/
def FailCause.hold (c : FailCause) (isolate : Bool) : Option Hold :=
  match c with
  | .score | .forced => if isolate then some .fail else none
  | .short => some .short
  | .runaway => some .runaway

/-- Place a hold if there is one. -/
def State.placeHold? (s : State) (i : SocketId) : Option Hold → State
  | some h => s.placeHold i h
  | none => s

/-- A finding reaches a socket (R14): its hold is placed, and an armed socket enters FAILED with the finding's cause. A socket in
another state keeps its state, and a FAILED one its cause. -/
def State.finding (s : State) (i : SocketId) (c : FailCause) : State :=
  let armed := (s.socket i).state.armed
  let s := s.placeHold? i (c.hold (s.policyOf i).isolateOnFail)
  if armed then (s.updSocket i fun k => { k with cause := some c }).changeState i .failed (some c) else s

/-- Has the socket's credit reached a nonzero target (R15)? -/
def Socket.targetMet (k : Socket) : Bool := k.target != 0 && decide (k.target * 256 ≤ k.credit)

/-- Entry to COMPLETE (R15): hold DONE under stop_on_complete, and a VERDICT record with no cause. -/
def State.complete (s : State) (i : SocketId) : State :=
  (s.placeHold? i (if (s.policyOf i).stopOnComplete then some .done else none)).changeState i .complete

/-- The completion test of an armed socket (R15). -/
def State.testCompletion (s : State) (i : SocketId) : State :=
  if (s.socket i).state.armed && (s.socket i).targetMet then s.complete i else s

/-! ### Suspect reasons (R12, R13) -/

def Reasons.isEmpty (r : Reasons) : Bool := !r.score && !r.stuck && !r.lock

/-- The state an armed socket has with a reason set. -/
def Reasons.armedState (r : Reasons) : SocketState := if r.isEmpty then .running else .suspect

/-- An armed socket takes a new reason set, and its state follows the set (section 1.4); a socket in another state keeps its set
(R12, R13). -/
def State.setReasons (s : State) (i : SocketId) (f : Reasons → Reasons) : State :=
  let k := s.socket i
  if k.state.armed then
    (s.updSocket i fun k => { k with reasons := f k.reasons }).changeState i (f k.reasons).armedState
  else s

/-- Accounting evaluates STUCK and LOCK again (R13): STUCK stays only while a lane of the socket is stuck, LOCK only while one
stands in lost lock. -/
def State.reviewReasons (s : State) (i : SocketId) : State :=
  let p := s.lane (primaryLane i)
  let q := s.lane (secondaryLane i)
  s.setReasons i fun r =>
    { r with stuck := r.stuck && (p.watch.stuck || q.watch.stuck), lock := r.lock && (p.prbs.lockLost || q.prbs.lockLost) }

end Sys2Proof.Machine
end

