-- ==== Sys2Proof/Machine/Rails.lean ====
section
/-! DEFINITION. Zone Rails (05_zone_rails.md): goals and the ORDER list, power-up and power-down, ramps, confirmation and
regulation, trips and their clearing, with the ramp and confirm timers' expiries. -/

namespace Sys2Proof.Machine

/-! ### The trim output and the regulation window -/

/-- The trim code driven for a setpoint (R76). -/
def trimCode (fullScaleMv setpoint : Nat) : Nat := min 4095 (setpoint * 4095 / fullScaleMv)

/-- The zone's trim output: disabled while the rail is OFF or TRIPPED (R76). -/
def Zone.trim (v : Zone) : Option Nat :=
  if v.rail.state.powered then some (trimCode v.cfg.fullScaleMv v.rail.setpoint) else none

/-- Which side of the regulation window a voltage lies on; none within it (R79, R80). -/
def windowSide (setpoint windowMv mv : Nat) : Option Side :=
  if mv + windowMv < setpoint then some .low else if setpoint + windowMv < mv then some .high else none

/-- The trip cause of a voltage on a side of the window (R79, R80). -/
def Side.tripCause : Side → TripCause
  | .low => .undervolt
  | .high => .overvolt

/-! ### Rail states and their hand-overs -/

/-- A rail enters a state: the engine gates or frees its drive lanes (R136), leaving HOLD raises a RAIL_DISTURBED notice, and a
change between powered and unpowered evaluates the zone's switches (R87). A change between HOLD and SEARCHING frees no lane: lanes
that wait for the next cycle as the engine stops go on waiting, by the model's choice (log 17). -/
def State.enterRail (s : State) (z : ZoneId) (new : RailState) : State :=
  let old := (s.zone z).rail.state
  let s := s.updZone z fun v =>
    { v with
      rail := { v.rail with state := new }
      driving := new.ungated && (v.driving || (!old.ungated && decide (s.engine.state = .stopped))) }
  let s := if old = .hold ∧ new ≠ .hold then s.noticeZone .rail z else s
  if old.powered != new.powered then s.evaluateZoneSwitches z else s

/-- Row 0 at its defaults with its number kept, in IDLE (R157). The elapsed count stands (log 15). -/
def StepCtl.toIdle (c : StepCtl) : StepCtl := { c with state := .idle, cur := { number := c.cur.number } }

/-- Is every rail OFF or TRIPPED (R165)? -/
def State.railsDown (s : State) : Bool := allZones.all fun z => !(s.zone z).rail.state.powered

/-- Step control tests the end of STOPPING (R165). -/
def State.testStopping (s : State) : State :=
  if s.step.state = .stopping ∧ s.railsDown then (s.updStep StepCtl.toIdle).reportStep .stopped else s

/-! ### The ORDER list (R72, R73, R78) -/

/-- The zones before `z` in the ORDER list; none if it is not in the list. -/
def State.ordersBefore (s : State) (z : ZoneId) : List ZoneId :=
  if s.order.contains z then s.order.takeWhile (· != z) else []

/-- The zones after `z` in the ORDER list. -/
def State.ordersAfter (s : State) (z : ZoneId) : List ZoneId := (s.order.dropWhile (· != z)).drop 1

/-- May a zone start power-up: is every zone before it whose goal is present in HOLD (R73)? -/
def State.mayStart (s : State) (z : ZoneId) : Bool :=
  (s.ordersBefore z).all fun w => (s.zone w).rail.goal.isNone || decide ((s.zone w).rail.state = .hold)

/-- May a zone begin power-down: is every zone after it OFF or TRIPPED (R78)? -/
def State.mayStop (s : State) (z : ZoneId) : Bool :=
  (s.ordersAfter z).all fun w => !(s.zone w).rail.state.powered

/-! ### Power-up (R73, R74) -/

/-- The rails start their watch on voltage and current: a running timer runs on, a stopped one is started (R67). -/
def Values.watchRail (v : Values) : Values := { v with voltageTimer := true, currentTimer := true }

/-- A rail starts power-up (R74). -/
def State.startPowerUp (s : State) (z : ZoneId) : State :=
  ((s.updRail z fun r => { r with setpoint := 0, rampTimer := true, waiting := .none }).updValues z Values.watchRail).enterRail z
    .ramping

/-- A rail in OFF with a goal begins power-up if it may start, and waits POWER_UP otherwise (R73). -/
def State.tryPowerUp (s : State) (z : ZoneId) : State :=
  if s.mayStart z then s.startPowerUp z else s.updRail z fun r => { r with waiting := .powerUp }

/-- Does a zone wait POWER_UP and may now start? One whose goal has just become absent does not: it leaves its wait when it
takes that change (R73; log 10). -/
def State.readyUp (s : State) (z : ZoneId) : Bool :=
  decide ((s.zone z).rail.waiting = .powerUp) && (s.zone z).rail.goal.isSome && s.mayStart z

/-- Test a zone waiting POWER_UP again (R73). -/
def State.retestUp (s : State) (z : ZoneId) : State := if s.readyUp z then s.startPowerUp z else s

/-- Test every zone waiting POWER_UP again (R73). A start puts no rail in HOLD, so the order does not show. -/
def State.retestAllUp (s : State) : State := forEach allZones (fun z s => s.retestUp z) s

/-! ### Power-down and the end of a search by a goal change (R78, R98) -/

/-- The search of a zone is abandoned: a SEARCH_ABANDONED record is created and its record returns to IDLE (R98, R99). -/
def State.endSearchAbandoned (s : State) (z : ZoneId) : State :=
  (s.reportZone z .searchAbandoned).updSearch z fun _ => {}

/-- A goal change abandons the search of a zone and the candidate's switch is evaluated again (R98). -/
def State.abandonSearch (s : State) (z : ZoneId) : State :=
  let candidate := (s.zone z).search.candidate
  (s.endSearchAbandoned z).evaluateSwitches fun i => candidate == some i

/-- A rail enters OFF at the end of a ramp (R78), before the zones waiting POWER_DOWN are tested again. -/
def State.enterOff (s : State) (z : ZoneId) : State :=
  ((s.updRail z fun r => { r with setpoint := 0, rampTimer := false, confirmTimer := false, waiting := .none }).enterRail z
    .off).testStopping

/-- Power-down begins (R78): a searching rail abandons its search, and the rail ramps toward 0; one that stands at 0 enters
OFF at once (log 32). -/
def State.beginPowerDown (s : State) (z : ZoneId) : State :=
  let s := if (s.zone z).rail.state = .searching then s.abandonSearch z else s
  let s := (s.updRail z fun r => { r with waiting := .none, rampTimer := true, confirmTimer := false }).enterRail z .ramping
  if (s.zone z).rail.setpoint = 0 then s.enterOff z else s

/-- Does a zone wait POWER_DOWN and may now begin (R78)? One whose goal has just become present does not (log 10). -/
def State.readyDown (s : State) (z : ZoneId) : Bool :=
  decide ((s.zone z).rail.waiting = .powerDown) && (s.zone z).rail.goal.isNone && s.mayStop z

/-- Test the zones waiting POWER_DOWN again, one after another: each start may let another begin (R78). -/
def State.retestDown : Nat → State → State
  | 0, s => s
  | fuel + 1, s =>
    match freely (allZones.filter fun z => s.readyDown z) s with
    | ([], s) => s
    | (z :: _, s) => State.retestDown fuel (s.beginPowerDown z)

/-- Test every zone waiting POWER_DOWN again: at most one start for each zone. -/
def State.retestAllDown (s : State) : State := State.retestDown 4 s

/-- A rail enters OFF and the zones waiting POWER_DOWN are tested again (R78). -/
def State.rampedOff (s : State) (z : ZoneId) : State := (s.enterOff z).retestAllDown

/-! ### Trips (R83, R84) -/

/-- A rail enters TRIPPED with a cause (R84); one already TRIPPED keeps the cause it has (R83). Step 9 of R84 begins at once
the power-down of each zone it releases, within a HALT of every zone too (log 41). -/
def State.trip (s : State) (z : ZoneId) (cause : TripCause) : State :=
  if (s.zone z).rail.state = .tripped then s
  else
    let s := if (s.zone z).search.phase = .idle then s else s.endSearchAbandoned z
    let s := s.updRail z fun r =>
      { r with setpoint := 0, rampTimer := false, confirmTimer := false, tripCause := some cause, oowCount := 0, waiting := .none }
    let s := (s.enterRail z .tripped).reportZone z (.railTripped cause)
    let s := if cause = .overcurrent then (s.updRail z fun r => { r with haltSource := true }).evaluateOutput else s
    s.testStopping.retestAllDown

/-- A trip is cleared (R85): the rail goes from TRIPPED to OFF, its source is released, and it follows R73. -/
def State.clearTrip (s : State) (z : ZoneId) : State :=
  if (s.zone z).rail.state = .tripped then
    let s := ((s.updRail z fun r => { r with tripCause := none, haltSource := false }).enterRail z .off).evaluateOutput
    let s := if (s.zone z).rail.goal.isSome then s.tryPowerUp z else s
    s.testStopping.retestAllDown
  else s

/-! ### Confirmation and regulation (R79, R80) -/

/-- A rail enters CONFIRMING (R79). -/
def State.enterConfirming (s : State) (z : ZoneId) : State :=
  (s.updRail z fun r => { r with rampTimer := false, confirmTimer := true, side := none }).enterRail z .confirming

/-- A rail enters HOLD: from CONFIRMING (R79) or from a cleared search (R97). The zones waiting POWER_UP are tested again. -/
def State.enterHold (s : State) (z : ZoneId) (event : ZoneEvent) : State :=
  (((s.updRail z fun r => { r with confirmTimer := false, oowCount := 0 }).enterRail z .hold).reportZone z event).retestAllUp

/-- A voltage sample handed to the rails (R79, R80). -/
def State.voltageSample (s : State) (z : ZoneId) (mv : Nat) : State :=
  let v := s.zone z
  match v.rail.state with
  | .confirming =>
    match windowSide v.rail.setpoint v.cfg.windowMv mv with
    | none => s.enterHold z .railHold
    | some side => s.updRail z fun r => { r with side := some side }
  | .hold =>
    match windowSide v.rail.setpoint v.cfg.windowMv mv with
    | none => s.updRail z fun r => { r with oowCount := 0 }
    | some side =>
      let s := (s.updRail z fun r => { r with oowCount := r.oowCount + 1 }).noticeZone .rail z
      if v.cfg.regCount ≤ v.rail.oowCount + 1 then s.trip z side.tripCause else s
  | .off | .ramping | .searching | .tripped => s

/-- A stale expiry of voltage or current handed to the rails (R82). -/
def State.railStale (s : State) (z : ZoneId) : State :=
  if (s.zone z).rail.state.powered then s.trip z .sampleLoss else s

/-! ### Ramps (R75) -/

/-- One ramp step from a setpoint toward a goal. -/
def rampToward (rate setpoint goal : Nat) : Nat :=
  if setpoint ≤ goal then min goal (setpoint + rate) else max goal (setpoint - rate)

/-- A ramp step expiry (R75); a stopped timer does not expire (log 2). -/
def State.rampStep (s : State) (z : ZoneId) : State :=
  let v := s.zone z
  if v.rail.state = .ramping ∧ v.rail.rampTimer then
    let setpoint := rampToward v.cfg.rampRate v.rail.setpoint (v.rail.goal.getD 0)
    let s := s.updRail z fun r => { r with setpoint }
    if setpoint = v.rail.goal.getD 0 then (if v.rail.goal.isSome then s.enterConfirming z else s.rampedOff z) else s
  else s

/-- A confirm timer expiry (R79). -/
def State.confirmExpired (s : State) (z : ZoneId) : State :=
  let v := s.zone z
  if v.rail.state = .confirming ∧ v.rail.confirmTimer then
    s.trip z (match v.rail.side with
      | some side => side.tripCause
      | none => .sampleLoss)
  else s

/-! ### Goals and goal changes (R71, R77, R78) -/

/-- A rail target limited to max_mv; absent when it is absent or 0, or max_mv is 0 (R71). -/
def limitGoal (maxMv : Nat) (target : Option Nat) : Option Nat :=
  match target with
  | none => none
  | some mv => if min mv maxMv = 0 then none else some (min mv maxMv)

/-- A powered rail takes a new present goal (R77): it ramps toward it from where it stands, and one that already stands on it
enters CONFIRMING at once (log 29). -/
def State.redirect (s : State) (z : ZoneId) : State :=
  let s := if (s.zone z).rail.state = .searching then s.abandonSearch z else s
  let s := if (s.zone z).rail.state = .hold then s.updRail z fun r => { r with oowCount := 0 } else s
  let s := (s.updRail z fun r => { r with waiting := .none, rampTimer := true, confirmTimer := false }).enterRail z .ramping
  if (s.zone z).rail.goal = some (s.zone z).rail.setpoint then s.enterConfirming z else s

/-- A rail takes the change of its goal, which stands in its record (R73, R77, R78). DESIGN CHOICE (log 40): no rule orders the
retest of the zones waiting POWER_UP (R73) and of those waiting POWER_DOWN (R78) where the change takes the rail to OFF at once;
POWER_UP comes first. -/
def State.goalChange (s : State) (z : ZoneId) : State :=
  let r := (s.zone z).rail
  let s :=
    match r.state, r.goal.isSome with
    | .tripped, _ => s
    | .off, true => s.tryPowerUp z
    | .off, false => s.updRail z fun r => { r with waiting := .none }
    | _, true => s.redirect z
    | _, false =>
      if s.mayStop z then s.beginPowerDown z
      else s.updRail z fun r => { r with waiting := .powerDown, rampTimer := r.rampTimer && !decide (r.state = RailState.ramping) }
  s.retestAllUp.retestAllDown

/-- The zones whose goal a table of new goals changes. -/
def State.changedGoals (s : State) (goals : ZoneId → Option Nat) : List ZoneId :=
  allZones.filter fun z => goals z != (s.zone z).rail.goal

/-- New goals are formed for all zones at once (log 10). -/
def State.setGoals (s : State) (goals : ZoneId → Option Nat) : State :=
  s.setZones fun z => { s.zone z with rail := { (s.zone z).rail with goal := goals z } }

/-- The rails form goals, and each zone whose goal changed takes the change; no rule orders the zones (log 4). -/
def State.formGoals (s : State) (goals : ZoneId → Option Nat) : State :=
  forEachFreely (s.changedGoals goals) (fun z s => s.goalChange z) (s.setGoals goals)

/-- The goals that the current step's rail targets give (R71). -/
def State.stepGoals (s : State) (z : ZoneId) : Option Nat :=
  limitGoal (s.zone z).cfg.maxMv (s.step.cur.railTarget.get z)

/-- A write of the ORDER list: each waiting zone is tested again under the new list (R72); no rule orders them (log 4). -/
def State.writeOrder (s : State) (zs : List ZoneId) : State :=
  let s := { s with order := zs }
  let test := fun (z : ZoneId) (s : State) => if s.readyDown z then s.beginPowerDown z else s.retestUp z
  (forEachFreely (allZones.filter fun z => s.readyUp z || s.readyDown z) test s).retestAllDown

/-- The rails' part of RUN_RESET (R90, R103): every rail record and search record as after power-on, without a record, and every
switch evaluated again. -/
def State.resetRails (s : State) : State :=
  (s.setZones fun z => { s.zone z with rail := {}, search := {}, driving := false }).evaluateSwitches fun _ => true

/-! ### The timer commands of the rails -/

/-- RAMP_STEP_EXPIRY (R75). -/
def execRampStepExpiry (z : ZoneId) (s : State) : Host.Outcome State Fault Refusal := .next (s.rampStep z).arbitrate

/-- CONFIRM_TIMER_EXPIRY (R79). -/
def execConfirmTimerExpiry (z : ZoneId) (s : State) : Host.Outcome State Fault Refusal := .next (s.confirmExpired z).arbitrate

end Sys2Proof.Machine
end

