-- ==== Sys2Proof/Machine/Search.lean ====
section
/-! DEFINITION. Isolation Search (06_isolation_search.md): its start, shedding, measurement and ends, the current check that feeds
it (R81), and the settle timer's expiry. -/

namespace Sys2Proof.Machine

/-- The sockets a search starts with: those of the zone whose switch is on, in ascending order (R92). -/
def State.searchList (s : State) (z : ZoneId) : List SocketId :=
  allSockets.filter fun i => decide ((s.socket i).zone = z) && (s.socket i).switch

/-- Shed the head of the pending list (R93): a candidate shed before is released in the same event, its switch evaluated with the
new candidate's. An empty list sheds nothing. -/
def State.shedNext (s : State) (z : ZoneId) : State :=
  let q := (s.zone z).search
  match q.pending with
  | [] => s
  | i :: rest =>
    (s.updSearch z fun q =>
      { q with candidate := some i, pending := rest, phase := .settling, settleTimer := true }).evaluateSwitches
      fun j => j == i || q.candidate == some j

/-- A search ends by exhaustion (R97): the record returns to IDLE with the candidate's switch left as it is, and the rail trips
with cause UNRESOLVED. -/
def State.exhaust (s : State) (z : ZoneId) : State :=
  ((s.reportZone z .searchExhausted).updSearch z fun _ => {}).trip z .unresolved

/-- Go on to the next socket of the pending list, or end by exhaustion (R97). -/
def State.searchOn (s : State) (z : ZoneId) : State :=
  if (s.zone z).search.pending.isEmpty then s.exhaust z else s.shedNext z

/-- A search ends by clearing (R97): the candidate is released, the record returns to IDLE, and the rail enters HOLD. -/
def State.clearSearch (s : State) (z : ZoneId) : State :=
  let candidate := (s.zone z).search.candidate
  ((s.updSearch z fun _ => {}).evaluateSwitches fun i => candidate == some i).enterHold z .searchCleared

/-- A search starts on a current sample in HOLD (R81, R92). -/
def State.startSearch (s : State) (z : ZoneId) (ma : Nat) : State :=
  let s := (s.updRail z fun r => { r with oowCount := 0 }).enterRail z .searching
  let s := s.updSearch z fun q => { q with pending := s.searchList z, baseline := some ma }
  (s.reportZone z .searchBegun).searchOn z

/-- The measurement of the candidate (R95 to R97). -/
def State.measure (s : State) (z : ZoneId) (ma : Nat) : State :=
  let v := s.zone z
  match v.search.candidate, v.search.baseline with
  | some i, some baseline =>
    if ma + v.cfg.shareMa ≤ baseline then
      let s := (s.finding i .short).reportZone z (.searchCulprit i)
      if ma < v.cfg.limitMa then s.clearSearch z
      else (s.updSearch z fun q => { q with baseline := some ma }).searchOn z
    else s.searchOn z
  | _, _ => s

/-- A current sample handed to the rails (R81); in SETTLING the search ignores it (R94). -/
def State.currentSample (s : State) (z : ZoneId) (ma : Nat) : State :=
  let v := s.zone z
  if v.rail.state.powered then
    if v.cfg.tripMa ≤ ma then s.trip z .overcurrent
    else if v.rail.state = .hold ∧ v.cfg.limitMa ≤ ma then s.startSearch z ma
    else if v.rail.state = .searching ∧ v.search.phase = .measuring then s.measure z ma
    else s
  else s

/-- SETTLE_TIMER_EXPIRY (R94): the phase becomes MEASURING and the timer stops. -/
def State.settleExpired (s : State) (z : ZoneId) : State :=
  if (s.zone z).search.phase = .settling ∧ (s.zone z).search.settleTimer then
    s.updSearch z fun q => { q with phase := .measuring, settleTimer := false }
  else s

def execSettleTimerExpiry (z : ZoneId) (s : State) : Host.Outcome State Fault Refusal := .next (s.settleExpired z)

end Sys2Proof.Machine
end

