-- ==== Sys2Proof/Machine/ZoneHeat.lean ====
section
/-! DEFINITION. Zone Heat (07_zone_heat.md): targets, placement, the thermal states, OVERTEMP, BLIND, the heater law, the runaway
check, and the expiries of the soak and grace timers. -/

namespace Sys2Proof.Machine

/-! ### Entries to thermal states -/

/-- Does a zone's state drive heat by the law (R115)? -/
def ThermalState.lawful : ThermalState → Bool
  | .heating | .soaking | .stable | .excursion | .cooling => true
  | .off | .overtemp | .blind => false

/-- A THERMAL_DISTURBED notice for leaving STABLE, if the zone is STABLE (R108, R112, R114). -/
def State.leaveStable (s : State) (z : ZoneId) : State :=
  if (s.zone z).heat.state = .stable then s.noticeZone .thermal z else s

/-- Entry to OFF, from any state (R108). -/
def State.heatOff (s : State) (z : ZoneId) : State := s.updHeat z fun _ => {}

/-- Entry to BLIND, with its record (R114). -/
def State.enterBlind (s : State) (z : ZoneId) : State :=
  ((s.leaveStable z).updHeat z fun h => { h with state := .blind, duty := 0, soak := none, grace := none, side := none }).reportZone
    z .blind

/-- Entry to OVERTEMP (R112): the record, the trip request to the rails, and then the HALT source. -/
def State.enterOvertemp (s : State) (z : ZoneId) : State :=
  let s := (s.leaveStable z).updHeat z fun h =>
    { h with state := .overtemp, duty := 0, soak := none, grace := none, side := none }
  ((s.reportZone z .overtempSet).trip z .overtemp).evaluateOutput

/-- Entry to STABLE, with its record (R107, R110, R111). -/
def State.enterStable (s : State) (z : ZoneId) : State :=
  (s.updHeat z fun h => { h with state := .stable, soak := none, grace := none, side := none }).reportZone z .thermalStable

/-- Entry to HEATING or COOLING, by the side of the band the temperature lies on. -/
def State.enterSide (s : State) (z : ZoneId) (side : Side) : State :=
  s.updHeat z fun h =>
    { h with
      state := (match side with
        | .low => .heating
        | .high => .cooling)
      soak := none
      grace := none
      side := some side }

/-- Entry to SOAKING with soak_s; with soak_s 0 the zone enters STABLE in the same event (R107, R109). -/
def State.enterSoaking (s : State) (z : ZoneId) : State :=
  let soakS := (s.zone z).cfg.soakS
  if soakS = 0 then s.enterStable z
  else s.updHeat z fun h => { h with state := .soaking, soak := some soakS, grace := none, side := none }

/-- Which side of the band a temperature lies on; none within it (R107, R109). -/
def bandSide (target : Int) (band : Nat) (t : Int) : Option Side :=
  if t < target - band then some .low else if target + band < t then some .high else none

/-- Place a zone that has a target (R107), by a temperature that may be absent. -/
def State.place (s : State) (z : ZoneId) (target : Int) (temperature : Option Int) : State :=
  let v := s.zone z
  match temperature with
  | none => s.enterBlind z
  | some t =>
    if v.cfg.hardLimit ≤ t then s.enterOvertemp z
    else
      match bandSide target v.cfg.band t with
      | some side => s.enterSide z side
      | none => s.enterSoaking z

/-! ### Targets (R106 to R108) -/

/-- The highest heat target a zone takes: hard_limit less band, or -80 (R106). -/
def ZoneCfg.heatLimit (c : ZoneCfg) : Int := max (-80) (c.hardLimit - c.band)

/-- The heat controller starts its watch on the temperature (R67). -/
def Values.watchHeat (v : Values) : Values := { v with temperatureTimer := true }

/-- A zone takes a new heat target, present or absent (R107, R108). -/
def State.targetChange (s : State) (z : ZoneId) (target : Option Int) : State :=
  let h := (s.zone z).heat
  let t := (s.zone z).values.temperature
  match h.state, target with
  | .off, none => s
  | .off, some g =>
    let s := ((s.updHeat z fun h => { h with target }).noticeZone .thermal z).place z g t
    s.updValues z Values.watchHeat
  | .overtemp, _ | .blind, some _ => s.updHeat z fun h => { h with target }
  | .blind, none => s.heatOff z
  | _, some g => ((s.leaveStable z).updHeat z fun h => { h with target, soak := none, grace := none }).place z g t
  | _, none => (s.leaveStable z).heatOff z

/-- The heat targets that the current step's temperature targets give (R106). -/
def State.stepTargets (s : State) (z : ZoneId) : Option Int :=
  (s.step.cur.tempTarget.get z).map (min · (s.zone z).cfg.heatLimit)

/-- The zones whose heat target a table of new targets changes. -/
def State.changedTargets (s : State) (targets : ZoneId → Option Int) : List ZoneId :=
  allZones.filter fun z => targets z != (s.zone z).heat.target

/-- The heat controller forms targets, and each zone whose target changed takes the change; no rule orders the zones (log 4). -/
def State.formTargets (s : State) (targets : ZoneId → Option Int) : State :=
  forEachFreely (s.changedTargets targets) (fun z s => s.targetChange z (targets z)) s

/-! ### Temperature samples (R109 to R115) -/

/-- One application of the heater law (R115): the error, the held or clamped integral, and the clamped duty. `Int` division
rounds down for the positive divisor 64. -/
def Heat.law (h : Heat) (c : ZoneCfg) (target t : Int) : Heat :=
  let e := target - t
  let held := (decide (h.duty = c.dutyMax) && decide (0 < e)) || (decide (h.duty = 0) && decide (e < 0))
  let integral := if held then h.integral else max (-4096) (min 4096 (h.integral + e))
  let duty := max 0 (min (c.dutyMax : Int) (c.kp * e + c.ki * integral / 64))
  { h with integral, duty := duty.toNat }

/-- The heater law is applied once a sample has decided the state, in the five states and while step control is not HALTED
(R115, R116). -/
def State.applyLaw (s : State) (z : ZoneId) (t : Int) : State :=
  let v := s.zone z
  match v.heat.target with
  | some target =>
    if v.heat.state.lawful && decide (s.step.state ≠ .halted) then s.updHeat z fun h => h.law v.cfg target t else s
  | none => s

/-- A sample outside the band takes a STABLE zone out of STABLE (R111). -/
def State.excursion (s : State) (z : ZoneId) (side : Side) : State :=
  let graceS := (s.zone z).cfg.graceS
  let s := (s.noticeZone .thermal z).reportZone z .thermalExcursion
  if graceS = 0 then s.enterSide z side
  else s.updHeat z fun h => { h with state := .excursion, soak := none, grace := some graceS, side := some side }

/-- What a sample below hard_limit does by the band (R109 to R111) or, in BLIND, by placement (R114). -/
def State.bandSample (s : State) (z : ZoneId) (target t : Int) : State :=
  let v := s.zone z
  match v.heat.state, bandSide target v.cfg.band t with
  | .heating, none | .cooling, none => s.enterSoaking z
  | .heating, some side | .cooling, some side | .soaking, some side => s.enterSide z side
  | .stable, some side => s.excursion z side
  | .excursion, none => s.enterStable z
  | .excursion, some side => s.updHeat z fun h => { h with side := some side }
  | .blind, _ => s.place z target (some t)
  | .soaking, none | .stable, none | .off, _ | .overtemp, _ => s

/-- The exit from OVERTEMP (R113). -/
def State.leaveOvertemp (s : State) (z : ZoneId) (t : Int) : State :=
  let s := s.reportZone z .overtempClear
  let s :=
    match (s.zone z).heat.target with
    | some target => s.place z target (some t)
    | none => s.heatOff z
  s.evaluateOutput

/-- How a temperature sample decides the thermal state (R109 to R114). -/
def State.heatState (s : State) (z : ZoneId) (t : Int) : State :=
  let v := s.zone z
  match v.heat.state with
  | .off => s
  | .overtemp => if t ≤ v.cfg.hardLimit - 20 then s.leaveOvertemp z t else s
  | .heating | .soaking | .stable | .excursion | .cooling | .blind =>
    let s := if v.heat.state = .excursion then s.noticeZone .thermal z else s
    if v.cfg.hardLimit ≤ t then s.enterOvertemp z
    else
      match v.heat.target with
      | some target => s.bandSample z target t
      | none => s

/-- A temperature sample handed to the heat controller. -/
def State.temperatureSample (s : State) (z : ZoneId) (t : Int) : State := (s.heatState z t).applyLaw z t

/-- A stale expiry of the temperature handed to the heat controller (R114); the watch starts again in every state but OFF. -/
def State.heatStale (s : State) (z : ZoneId) : State :=
  let h := (s.zone z).heat
  if h.state = .off then s
  else (if h.state.lawful then s.enterBlind z else s).updValues z Values.watchHeat

/-- At step control's entry to HALTED every zone's duty is forced to 0 (R116, R167). -/
def State.forceDuties (s : State) : State := s.setZones fun z => { s.zone z with heat := { (s.zone z).heat with duty := 0 } }

/-- The heat controller's part of RUN_RESET (R120). -/
def State.resetHeat (s : State) : State := s.setZones fun z => { s.zone z with heat := {} }

/-! ### The soak and grace timers (R110, R111) -/

/-- A soak timer expiry (R110); a stopped timer does not expire (log 2). -/
def State.soakExpired (s : State) (z : ZoneId) : State :=
  let h := (s.zone z).heat
  if h.state = .soaking ∧ h.soak.isSome then s.enterStable z else s

/-- A grace timer expiry (R111). The side is present then; a record without one, which no run reaches, goes to HEATING
(log 28). -/
def State.graceExpired (s : State) (z : ZoneId) : State :=
  let h := (s.zone z).heat
  if h.state = .excursion ∧ h.grace.isSome then s.enterSide z (h.side.getD .low) else s

def execSoakTimerExpiry (z : ZoneId) (s : State) : Host.Outcome State Fault Refusal := .next (s.soakExpired z).arbitrate

def execGraceTimerExpiry (z : ZoneId) (s : State) : Host.Outcome State Fault Refusal := .next (s.graceExpired z)

end Sys2Proof.Machine
end

