-- ==== Sys2Proof/Machine/Pattern.lean ====
section
/-! DEFINITION. Pattern Drive (08_pattern_drive.md): vector blocks, the Vector Queue and the Loop Store, the engine states, the
generators, the drive lanes and the exercised condition. -/

namespace Sys2Proof.Machine

/-! ### The exercised condition and the drive lanes (R134 to R137) -/

/-- Is a drive source one that exercises (R137)? -/
def DriveSource.active : DriveSource → Bool
  | .vector | .prbsA | .prbsB | .clock => true
  | .off | .low | .high => false

/-- Has the zone a drive lane with an active source, by the rows in effect (R137)? -/
def State.hasActiveLane (s : State) (z : ZoneId) : Bool :=
  allLanes.any fun n => decide (driveZone n = z) && (s.driveInEffect.get n).source.active

/-- The exercised condition of a zone (R137). -/
def State.exercised (s : State) (z : ZoneId) : Bool := s.engine.state.playing && s.hasActiveLane z

/-- A change of the engine or of the rows in effect, with the EXERCISE_DISTURBED notice for each zone whose exercised condition
becomes false (R137). -/
def State.watchExercise (s : State) (f : State → State) : State :=
  let t := f s
  t.notice .exercise fun z => s.exercised z && !t.exercised z

/-- What a drive lane drives: a level, or none for high impedance (R134, R136). -/
def State.driveLane (s : State) (n : LaneId) : Option Bool :=
  let row := s.driveInEffect.get n
  if (s.zone (driveZone n)).driving then
    match row.source with
    | .off => none
    | .low => some (false != row.invert)
    | .high => some (true != row.invert)
    | .vector => some (s.engine.lastDrive.getLsbD row.bit.val != row.invert)
    | .prbsA => some (s.engine.prbsA.getLsbD 0 != row.invert)
    | .prbsB => some (s.engine.prbsB.getLsbD 0 != row.invert)
    | .clock => some (s.engine.clockPhase != row.invert)
  else none

/-! ### Generators (R135) -/

/-- The next state of PRBS_A: the bit nine back exclusive-or the bit five back becomes the newest (R135). -/
def prbsANext (r : BitVec 9) : BitVec 9 := (r <<< 1) ||| BitVec.ofNat 9 (r.getLsbD 8 != r.getLsbD 4).toNat

/-- The next state of PRBS_B: the bits fifteen and fourteen back (R135). -/
def prbsBNext (r : BitVec 15) : BitVec 15 := (r <<< 1) ||| BitVec.ofNat 15 (r.getLsbD 14 != r.getLsbD 13).toNat

/-- One advance of the generators and of the clock phase (R135). -/
def Engine.advance (e : Engine) : Engine :=
  { e with prbsA := prbsANext e.prbsA, prbsB := prbsBNext e.prbsB, clockPhase := !e.clockPhase }

/-! ### Choosing a vector (R128, R130, R131) -/

/-- The engine plays the queue head, from its first cycle. -/
def Engine.playQueue (e : Engine) : Engine := { e with state := .streaming, loopIndex := 0, cycle := 0 }

/-- The engine plays a loop index, from its first cycle. -/
def Engine.playLoop (e : Engine) (index : Nat) : Engine := { e with state := .looping, loopIndex := index, cycle := 0 }

/-- The vector a source finds on leaving STOPPED or when re-choosing (R128); none where it finds none. -/
def Engine.choose (e : Engine) : PatternSource → Option Engine
  | .none => none
  | .stream => if e.queue.isEmpty then none else some e.playQueue
  | .streamLoop => if !e.queue.isEmpty then some e.playQueue else if e.loopValid then some (e.playLoop 0) else none
  | .loop => if e.loopValid then some (e.playLoop 0) else none

/-- Entry to STARVED (R131). -/
def State.enterStarved (s : State) : State :=
  ((s.watchExercise fun s => s.updEngine fun e => { e with state := .starved, loopIndex := 0, cycle := 0 }).reportPattern
    .starved).noticeAll .exercise

/-- Entry to STOPPED at a boundary or from STARVED: the queue keeps its entries (R132). -/
def State.stopEngine (s : State) : State :=
  s.watchExercise fun s => s.updEngine fun e => { e with state := .stopped, loopIndex := 0, cycle := 0 }

/-- Entry to STOPPED at once: the vector in play is abandoned and the queue is emptied (R125, R132). -/
def State.stopEngineAtOnce (s : State) : State := (s.stopEngine).updEngine fun e => { e with queue := [] }

/-- A vector has become available in STARVED (R131). -/
def State.resume (s : State) : State :=
  match s.engine.choose s.step.cur.source with
  | some e => (s.updEngine fun _ => e).reportPattern .resumed
  | none => s

/-! ### Vector boundaries (R130) -/

/-- The vector in play, and where it came from (R129). -/
def Engine.inPlay (e : Engine) : Option (Vec × VectorSource) :=
  match e.state with
  | .streaming =>
    match e.queue with
    | q :: _ => some (q.vec, .stream q.block q.index)
    | [] => none
  | .looping => some (e.store.cells.getD e.loopIndex {}, .loop e.loopIndex)
  | .stopped | .starved => none

/-- Is the end of the vector's last repeat cycle due: have as many cycles begun as it repeats (R129)? -/
def Engine.boundaryDue (e : Engine) : Bool :=
  match e.inPlay with
  | some (v, _) => decide (v.reps ≤ e.cycle)
  | none => false

/-- The loop index after the one in play, with a wrap to 0 (R126). -/
def Engine.nextLoopIndex (e : Engine) : Nat := if e.loopIndex + 1 < e.loopLength then e.loopIndex + 1 else 0

/-- The choice at a boundary, after a vector from the queue has been removed (R130). -/
def State.chooseNext (s : State) (was : EngineState) : State :=
  let e := s.engine
  match s.step.cur.source, was with
  | .none, _ => s.stopEngine
  | .stream, _ => if e.queue.isEmpty then s.enterStarved else s.updEngine Engine.playQueue
  | .streamLoop, .looping =>
    if e.nextLoopIndex = 0 ∧ !e.queue.isEmpty then s.updEngine Engine.playQueue
    else s.updEngine fun e => e.playLoop e.nextLoopIndex
  | .streamLoop, _ =>
    if !e.queue.isEmpty then s.updEngine Engine.playQueue
    else if e.loopValid then (s.updEngine fun e => e.playLoop 0).reportPattern .loopFallback
    else s.enterStarved
  | .loop, .looping => s.updEngine fun e => e.playLoop e.nextLoopIndex
  | .loop, _ => if e.loopValid then s.updEngine fun e => e.playLoop 0 else s.enterStarved

/-- A vector boundary, if one is due: the head leaves the queue if it was in play, the period of the current step comes into
force (R129), and the next vector is chosen. -/
def State.boundary (s : State) : State :=
  if s.engine.boundaryDue then
    let was := s.engine.state
    let s := s.updEngine fun e =>
      { e with queue := if was = .streaming then e.queue.tail else e.queue, period := s.step.cur.period }
    s.chooseNext was
  else s

/-! ### Vector blocks (R121 to R124) -/

/-- A vector of a block as a queue entry (R124). -/
def Block.entries (b : Block) : List QueueEntry :=
  b.vectors.mapIdx fun index v => { block := b.number, index, vec := v.vec }

/-- Block-number tracking (R122). -/
def State.trackBlock (s : State) (b : Block) : State :=
  let gap := !b.restart && s.engine.expected.any (· != b.number)
  let s := if gap then (s.reportPattern .gap (some b.number) s.engine.expected).noticeAll .exercise else s
  s.updEngine fun e => { e with expected := some ((b.number + 1) % 65536) }

/-- A refused block: its record and its notice (R123, R124). -/
def State.refuseBlock (s : State) (b : Block) (event : PatternEvent) : State :=
  (s.reportPattern event (some b.number)).noticeAll .exercise

/-- The engine takes a well-formed block: tracking, the vector check, acceptance (R122 to R124); acceptance may end STARVED
(R131). -/
def State.takeBlock (s : State) (b : Block) : State :=
  let s := s.trackBlock b
  if !(b.vectors.all (·.passes s.settings.vectorCheck)) then s.refuseBlock b .checkError
  else if Config.vectorCapacity < s.engine.queue.length + b.vectors.length then s.refuseBlock b .overrun
  else
    let s := s.updEngine fun e => { e with queue := e.queue ++ b.entries }
    let source := s.step.cur.source
    if s.engine.state = .starved ∧ (source = .stream ∨ source = .streamLoop) then s.resume else s

/-! ### LOOP_LOAD (R127) -/

/-- The Loop Store with vectors written from an index on. -/
def Engine.writeLoop (e : Engine) (first : Nat) (vs : List Vec) : Engine :=
  { e with
    store := Table.ofFn fun i =>
      if first ≤ i.val then (vs[i.val - first]?).getD (e.store.get i) else e.store.get i }

/-- An accepted LOOP_LOAD (R127): steps 1 to 3, and the end of STARVED if the loop becomes valid (R131). -/
def State.loadLoop (s : State) (first : Nat) (vs : List Vec) (isLast : Bool) : State :=
  let s := s.updEngine fun e =>
    let e := { e with loopValid := e.loopValid && decide (first ≠ 0) }.writeLoop first vs
    if isLast then { e with loopLength := first + vs.length, loopValid := true } else e
  let source := s.step.cur.source
  if isLast ∧ s.engine.state = .starved ∧ (source = .streamLoop ∨ source = .loop) then s.resume else s

/-! ### DRIVE writes (R133) and RUN_RESET (R139) -/

/-- DRIVE rows written: in effect at the write while the engine is STOPPED, and from the next vector cycle otherwise (R133). -/
def State.writeDrive (s : State) (rows : List (Fin 64 × DriveRow)) : State :=
  let put := fun (t : Table 64 DriveRow) => rows.foldl (fun t r => t.set r.1 r.2) t
  let s := { s with drive := put s.drive }
  if s.engine.state = .stopped then { s with driveInEffect := put s.driveInEffect } else s

/-- The engine's part of RUN_RESET (R139). -/
def State.resetEngine (s : State) : State :=
  s.stopEngineAtOnce.updEngine fun e =>
    { e with expected := none, lastDrive := 0, prbsA := BitVec.allOnes 9, prbsB := BitVec.allOnes 15, clockPhase := true }

/-- VECTOR_BOUNDARY (R130): a boundary that is not due is no boundary and changes nothing (log 7). -/
def execVectorBoundary (s : State) : Host.Outcome State Fault Refusal := .next s.boundary.arbitrate

end Sys2Proof.Machine
end

