-- ==== Sys2Proof/Machine/Checker.lean ====
section
/-! DEFINITION. Response Checking (09_response_checking.md): lane resets, eligibility, the COMPARE and PRBS checks, the toggle watch,
window ends, frequency gates and junction estimates, with the vector cycle that drives them, the start of the engine that begins
the first one (R128), and the failing-check notices a cycle hands accounting (R37, R47). -/

namespace Sys2Proof.Machine

/-! ### Resetting a lane (R142) -/

/-- A lane after its checker state is reset; a new gate starts at once on a secondary lane left in FREQ mode with its socket's
switch on (R142, R150). -/
def Lane.resetState (n : Lane) (secondary switchOn : Bool) : Lane :=
  { row := n.row
    gate := { raw := if secondary && n.row.mode = .freq && switchOn then some 0 else none } }

/-- Reset the checker state of the named lanes (R142); a reset of a secondary lane makes its socket's estimate absent. -/
def State.resetLanes (s : State) (named : LaneId → Bool) : State :=
  { s with
    lanes := Table.ofFn fun n =>
      if named n then (s.lane n).resetState (n.val % 2 = 1) (s.socket (laneSocket n)).switch else s.lane n
    sockets := Table.ofFn fun i =>
      if named (secondaryLane i) then { s.socket i with estimate := none } else s.socket i }

/-! ### Eligibility (R143) -/

/-- Is a mode one whose lanes are checked in vector cycles (R143)? -/
def SenseMode.cycled : SenseMode → Bool
  | .compare | .prbs | .toggle => true
  | .off | .freq => false

/-- Is a lane eligible in a vector cycle (R143)? -/
def State.eligible (s : State) (n : LaneId) : Bool :=
  let k := s.socket (laneSocket n)
  (s.lane n).row.mode.cycled && k.switch && k.state.armed && (s.zone k.zone).rail.state.ungated && s.engine.state.playing

/-! ### The checks of one cycle (R144 to R148) -/

/-- What the engine hands the checker with a cycle in which a vector plays (R129). -/
structure CycleWords where
  expect : Byte
  mask : Byte
  source : VectorSource
  repeatCycle : Nat
deriving DecidableEq, Repr

/-- The COMPARE check (R144): a failing check on a mismatch of an unmasked bit. -/
def compareCheck (row : SenseRow) (n : LaneId) (sample : Bool) (c : CycleWords) : Option Failing :=
  let expected := c.expect.getLsbD row.expectChannel.val != row.invert
  if c.mask.getLsbD row.expectChannel.val && expected != sample then
    some { kind := .compare, lane := n, source := c.source, repeatCycle := c.repeatCycle, expected, observed := sample }
  else none

/-- The length L of a polynomial (R145). -/
def Polynomial.length : Polynomial → Nat
  | .a => 9
  | .b => 15

/-- The bit a register predicts (R145). -/
def Polynomial.predict (p : Polynomial) (r : BitVec 15) : Bool :=
  match p with
  | .a => r.getLsbD 8 != r.getLsbD 4
  | .b => r.getLsbD 14 != r.getLsbD 13

/-- Shift a bit in as the most recent (R145). -/
def PrbsCheck.shift (p : PrbsCheck) (bit : Bool) : PrbsCheck :=
  { p with register := (p.register <<< 1) ||| BitVec.ofNat 15 bit.toNat, fill := min 15 (p.fill + 1) }

/-- The PRBS check of one eligible cycle (R145, R146). -/
def PrbsCheck.cycle (p : PrbsCheck) (poly : Polynomial) (n : LaneId) (received : Bool) (c : CycleWords) :
    PrbsCheck × Option Failing :=
  if p.fill < poly.length then (p.shift received, none)
  else
    let predicted := poly.predict p.register
    let wrong := predicted != received
    let q := { p with predictions := p.predictions + 1, errors := p.errors + wrong.toNat }
    if p.locked then
      (q.shift predicted,
        if wrong then
          some { kind := .prbs, lane := n, source := c.source, repeatCycle := c.repeatCycle, expected := predicted
                 observed := received }
        else none)
    else (q.shift received, none)

/-- Does the edge from one value to the next count (R148)? -/
def EdgeKind.counts : EdgeKind → Bool → Bool → Bool
  | .rising, before, now => !before && now
  | .falling, before, now => before && !now
  | .both, before, now => before != now

/-- The toggle watch of one eligible cycle (R148). -/
def ToggleWatch.cycle (w : ToggleWatch) (kind : EdgeKind) (value : Bool) : ToggleWatch :=
  let edge := w.previous.any fun before => kind.counts before value
  { w with cycles := w.cycles + 1, edges := w.edges + edge.toNat, previous := some value }

/-- Does a lane run a toggle watch (R148)? -/
def SenseRow.watched (r : SenseRow) : Bool :=
  match r.mode with
  | .toggle => true
  | .compare | .prbs => r.watch
  | .off | .freq => false

/-- The checks of one eligible cycle on a lane, with the failing check they find (R143 to R148). -/
def Lane.cycle (l : Lane) (n : LaneId) (sample : Bool) (c : CycleWords) : Lane × Option Failing :=
  let corrected := sample != l.row.invert
  let watch := if l.row.watched then l.watch.cycle l.row.edgeKind corrected else l.watch
  match l.row.mode with
  | .compare => ({ l with watch }, compareCheck l.row n sample c)
  | .prbs =>
    let (prbs, failing) := l.prbs.cycle l.row.polynomial n corrected c
    ({ l with prbs, watch }, failing)
  | .off | .toggle | .freq => ({ l with watch }, none)

/-! ### Failing-check notices (R37, R47, R49) -/

/-- The temperature of a socket: its junction estimate if present, else its zone's temperature (R28, R47). -/
def State.socketTemperature (s : State) (i : SocketId) : Option Int :=
  match (s.socket i).estimate with
  | some t => some t
  | none => (s.zone (s.socket i).zone).values.temperature

/-- The first-fail record a notice gives (R47). -/
def State.capture (s : State) (i : SocketId) (f : Failing) : FirstFail :=
  { check := f, runSeconds := s.runSeconds, credit := (s.socket i).credit / 256, temperature := s.socketTemperature i }

/-- Accounting takes a failing-check notice: an armed socket scores it (R37), and captures it if it has no first-fail record
(R47), with a FIRST_FAIL record (R49). -/
def State.failingCheck (s : State) (f : Failing) : State :=
  let i := laneSocket f.lane
  if (s.socket i).state.armed then
    let captured := s.capture i f
    let isFirst := (s.socket i).firstFail.isNone
    let s := s.updSocket i fun k =>
      { k with
        running := satSucc Config.countTop k.running
        firstFail := if isFirst then some captured else k.firstFail }
    if isFirst then s.report (.firstFail i captured) else s
  else s

/-! ### Window ends (R147, R149) -/

/-- A PRBS window ends (R147): what the lane becomes, and the event if it gains or loses lock. -/
def PrbsCheck.endWindow (p : PrbsCheck) : PrbsCheck × Option LaneEvent :=
  let isGood := decide (p.errors ≤ 4)
  let run := if isGood != p.locked then p.run + 1 else 0
  let q := { p with predictions := 0, errors := 0 }
  if 2 ≤ run then
    if p.locked then ({ q with locked := false, lockLost := true, run := 0 }, some .lockLost)
    else ({ q with locked := true, lockLost := false, run := 0 }, some .lockGained)
  else ({ q with run }, none)

/-- A toggle window ends (R149): low if it counted fewer than 4 edges. -/
def ToggleWatch.endWindow (w : ToggleWatch) : ToggleWatch × Option LaneEvent :=
  let isLow := decide (w.edges < 4)
  let run := if isLow != w.stuck then w.run + 1 else 0
  let v := { w with cycles := 0, edges := 0 }
  if 2 ≤ run then
    if w.stuck then ({ v with stuck := false, run := 0 }, some .stuckClear)
    else ({ v with stuck := true, run := 0 }, some .stuckSet)
  else ({ v with run }, none)

/-- Has the lane's PRBS window had its 48th prediction (R147)? -/
def Lane.prbsWindowDue (l : Lane) : Bool := decide (Config.prbsWindow ≤ l.prbs.predictions)

/-- Has the lane's toggle window had its 1024th eligible cycle (R148)? -/
def Lane.toggleWindowDue (l : Lane) : Bool := decide (Config.toggleWindow ≤ l.watch.cycles)

/-- The end of a lane's PRBS window, if it is due (R147): the LANE record, then the hand-over to accounting (R156). -/
def State.endPrbsWindow (s : State) (n : LaneId) : State :=
  if (s.lane n).prbsWindowDue then
    let (prbs, event) := (s.lane n).prbs.endWindow
    let s := s.updLane n fun l => { l with prbs }
    match event with
    | some .lockLost => (s.reportLane n .lockLost).setReasons (laneSocket n) fun r => { r with lock := true }
    | some event => (s.reportLane n event).reviewReasons (laneSocket n)
    | none => s
  else s

/-- The end of a lane's toggle window, if it is due (R149). -/
def State.endToggleWindow (s : State) (n : LaneId) : State :=
  if (s.lane n).toggleWindowDue then
    let (watch, event) := (s.lane n).watch.endWindow
    let s := s.updLane n fun l => { l with watch }
    match event with
    | some .stuckSet => (s.reportLane n .stuckSet).setReasons (laneSocket n) fun r => { r with stuck := true }
    | some event => (s.reportLane n event).reviewReasons (laneSocket n)
    | none => s
  else s

/-- Every window end still due is taken, in an order no rule gives (log 8). -/
def State.endDueWindows (s : State) : State :=
  let s := forEachFreely (allLanes.filter fun n => (s.lane n).prbsWindowDue) (fun n s => s.endPrbsWindow n) s
  forEachFreely (allLanes.filter fun n => (s.lane n).toggleWindowDue) (fun n s => s.endToggleWindow n) s

/-! ### The vector cycle (R129) -/

/-- The checker takes a cycle: every eligible lane runs its checks on its sample, and the notices reach accounting in an order
no rule gives (R143, R37; log 4). -/
def State.checkLanes (s : State) (c : CycleWords) (sense : BitVec 64) : State :=
  let outcome := fun n =>
    if s.eligible n then (s.lane n).cycle n (sense.getLsbD n.val) c else (s.lane n, none)
  let failing := allLanes.filterMap fun n => (outcome n).2
  forEachFreely failing (fun f s => s.failingCheck f) (s.setLanes fun n => (outcome n).1)

/-- At the start of a cycle DRIVE writes take effect (R133), with the notices of R137, and the lanes of zones in HOLD or
SEARCHING drive (R136). -/
def State.driveCycle (s : State) : State :=
  let s := s.watchExercise fun s => { s with driveInEffect := s.drive }
  s.setZones fun z => { s.zone z with driving := (s.zone z).rail.state.ungated }

/-- The start of a vector cycle (R129): the lanes, the vector in play, the generators, and the checker. -/
def State.startCycle (s : State) (sense : BitVec 64) : State :=
  let s := s.driveCycle
  match s.engine.inPlay with
  | some (v, source) =>
    let s := s.updEngine fun e => { e.advance with lastDrive := v.drive, cycle := e.cycle + 1 }
    s.checkLanes { expect := v.expect, mask := v.mask, source, repeatCycle := s.engine.cycle } sense
  | none => s.updEngine Engine.advance

/-- VECTOR_CYCLE (R129). A STOPPED engine runs no cycles. A boundary and window ends that the cycle before left due are taken
first (logs 7 and 8). -/
def State.vectorCycle (s : State) (sense : BitVec 64) : State :=
  if s.engine.state = .stopped then s
  else
    let s := s.endDueWindows.boundary
    if s.engine.state = .stopped then s else s.startCycle sense

/-! ### The start of the engine (R128) and promotions -/

/-- The first vector of a start: the one the current pattern source finds, or none and entry to STARVED (R128). The generators
start from all ones, the clock phase so that the first cycle drives 1 (R135), and the current step's period is in force. -/
def State.chooseFirst (s : State) : State :=
  let s := s.updEngine fun e =>
    { e with prbsA := BitVec.allOnes 9, prbsB := BitVec.allOnes 15, clockPhase := false, period := s.step.cur.period }
  match s.engine.choose s.step.cur.source with
  | some e => s.updEngine fun _ => e
  | none => s.enterStarved

/-- The first vector cycle of a start (R128, R129). The levels of the sense lanes in it are free (log 37). -/
def State.firstCycle (s : State) : State :=
  ({ s with freeIndex := s.freeIndex + 1 }).startCycle (Config.senseLevels s.freeIndex)

/-- The engine leaves STOPPED (R128): the first vector is chosen and its first cycle begins. Window ends still due are taken
first (log 8). DRIVE rows that waited for a cycle take effect with this one (R133, log 17), and so before the engine plays. -/
def State.startEngine (s : State) : State :=
  let s := s.endDueWindows
  ({ s with driveInEffect := s.drive }).chooseFirst.firstCycle

/-- The engine is handed a promotion (R128, R129, R131); `old` is the pattern source before it. A playing engine takes it at
its next boundary. -/
def State.enginePromoted (s : State) (old : PatternSource) : State :=
  let new := s.step.cur.source
  match s.engine.state with
  | .stopped => if new = .none then s else s.startEngine
  | .streaming | .looping => s
  | .starved =>
    let s := s.updEngine fun e => { e with period := s.step.cur.period }
    if new = .none then s.stopEngine else if new = old then s else s.resume

/-! ### Frequency gates (R150 to R152) and the runaway check (R117) -/

/-- The count of a gate: the raw count divided by 2^prescale, saturated (R151). -/
def gateCount (raw prescale : Nat) : Nat := min 65535 (raw / 2 ^ prescale)

/-- The junction estimate of a valid count (R152). `Int` division rounds down for the positive divisor 4096. -/
def Socket.estimateOf (k : Socket) (count : Nat) : Int :=
  max (-80) (min 400 (k.tjOffset + k.tjSlope * count / 4096))

/-- A gate with an invalid count (R151): no estimate, and MONITOR_LOST when the monitor was not lost. -/
def State.invalidGate (s : State) (i : SocketId) : State :=
  let n := secondaryLane i
  let was := (s.lane n).gate.monitor
  let s := (s.updSocket i fun k => { k with estimate := none }).updLane n fun l =>
    { l with gate := { l.gate with monitor := .lost } }
  if was = .lost then s else s.reportLane n .monitorLost

/-- A gate with a valid count (R151, R152): the estimate, MONITOR_BACK when the monitor was lost, and the runaway check (R117). -/
def State.validGate (s : State) (i : SocketId) (count : Nat) : State :=
  let n := secondaryLane i
  let was := (s.lane n).gate.monitor
  let estimate := (s.socket i).estimateOf count
  let s := (s.updSocket i fun k => { k with estimate := some estimate }).updLane n fun l =>
    { l with gate := { l.gate with monitor := .valid } }
  let s := if was = .lost then s.reportLane n .monitorBack else s
  if (s.policyOf i).runawayLimit ≤ estimate then s.finding i .runaway else s

/-- A gate expiry (R151): the next gate starts at once with a raw count of 0 (R150). No gate, no expiry (log 2). -/
def State.gateExpired (s : State) (i : SocketId) : State :=
  let n := secondaryLane i
  match (s.lane n).gate.raw with
  | none => s
  | some raw =>
    let count := gateCount raw (s.lane n).row.prescale
    let s := s.updLane n fun l => { l with gate := { l.gate with raw := some 0, lastCount := some count } }
    if count = 0 ∨ count = 65535 then s.invalidGate i else s.validGate i count

/-- A rising edge at a socket's secondary lane (R150). -/
def State.risingEdge (s : State) (i : SocketId) : State :=
  s.updLane (secondaryLane i) fun l => { l with gate := { l.gate with raw := l.gate.raw.map (satSucc Config.longTop) } }

/-! ### The commands of the checker -/

/-- VECTOR_CYCLE (R129). -/
def execVectorCycle (sense : BitVec 64) (s : State) : Host.Outcome State Fault Refusal := .next (s.vectorCycle sense).arbitrate

/-- PRBS_WINDOW_END (R147): an end that is not due changes nothing (log 8). -/
def execPrbsWindowEnd (n : LaneId) (s : State) : Host.Outcome State Fault Refusal := .next (s.endPrbsWindow n).arbitrate

/-- TOGGLE_WINDOW_END (R149). -/
def execToggleWindowEnd (n : LaneId) (s : State) : Host.Outcome State Fault Refusal := .next (s.endToggleWindow n).arbitrate

/-- GATE_EXPIRY (R151). -/
def execGateExpiry (i : SocketId) (s : State) : Host.Outcome State Fault Refusal := .next (s.gateExpired i).arbitrate

/-- FREQ_LANE_RISING_EDGE (R150). -/
def execFreqLaneRisingEdge (i : SocketId) (s : State) : Host.Outcome State Fault Refusal := .next (s.risingEdge i)

end Sys2Proof.Machine
end

