-- ==== Sys2Proof/Machine/Steps.lean ====
section
/-! DEFINITION. Step Control (10_step_control.md): settling, promotion, the ends of a step, stopping, HALTED and the HALT line,
power-on reset, and the commands that act on step control. -/

namespace Sys2Proof.Machine

/-! ### Promotion (R160) -/

/-- The step that a promotion of the staged step makes current: written fields as written, the others those of the current step,
under a new number (R160). -/
def Staged.inherit (g : Staged) (c : StepRec) (number : Nat) : StepRec :=
  { number
    endKind := g.endKind.getD c.endKind
    duration := g.duration.getD c.duration
    railTarget := Table.ofFn fun z => (g.railTarget.get z).getD (c.railTarget.get z)
    tempTarget := Table.ofFn fun z => (g.tempTarget.get z).getD (c.tempTarget.get z)
    source := g.source.getD c.source
    period := g.period.getD c.period
    advance := g.advance.getD c.advance }

/-- Step control after a promotion: RUNNING with the staged step current, elapsed 0 and the staged step EMPTY (R160). -/
def StepCtl.promoted (c : StepCtl) : StepCtl :=
  { state := .running, cur := c.staged.inherit c.cur (c.cur.number + 1), elapsed := 0, staged := {}, stagedState := .empty }

/-- Can the step number go up by one (R160)? -/
def StepCtl.numberFree (c : StepCtl) : Bool := decide (c.cur.number < Config.longTop)

/-- A promotion (R160): the record of the promoting event, then the hand-overs to the rails, the heat controller and the engine. -/
def State.promote (s : State) (event : StepEvent) : State :=
  let old := s.step.cur.source
  let s := (s.updStep StepCtl.promoted).reportStep event
  let s := s.formGoals s.stepGoals
  let s := s.formTargets s.stepTargets
  s.enginePromoted old

/-- A SETTLED staged step becomes OPEN (R165, R167). -/
def StepCtl.unsettle (c : StepCtl) : StepCtl :=
  { c with stagedState := if c.stagedState = .settled then .opened else c.stagedState }

/-! ### HALTED (R167) -/

/-- Step control enters HALTED, unless it is HALTED already (R167). The zones trip one after another. DESIGN CHOICE (log 41): a
SEARCHING zone waiting POWER_DOWN that an earlier zone's trip releases abandons its search then (R84 step 9, R78, R98), not in its
own trip (R99). -/
def State.enterHalted (s : State) : State :=
  if s.step.state = .halted then s
  else
    let s := (s.updStep fun c => { c with state := .halted }).reportStep .halted
    let s := forEach allZones (fun z s => s.trip z .halt) s
    (s.forceDuties.stopEngineAtOnce).updStep StepCtl.unsettle

/-- Step control reads the line: asserted with the input enabled, it enters HALTED (R166, R170, R171). -/
def State.readLine (s : State) : State := if s.halt.line && s.settings.haltIn then s.enterHalted else s

/-- The line goes from released to asserted: by an own assertion not yet taken, or by another slot while it was released (R166;
logs 9 and 23). -/
def State.lineAsserted (s : State) (othersPull : Bool) : State :=
  let rises := s.halt.edge || (othersPull && !s.halt.line)
  let s := s.updHalt fun h => { h with others := h.others || othersPull, edge := false }
  if rises && s.settings.haltIn then s.enterHalted else s

/-- No other slot pulls the line (R166). -/
def State.lineReleased (s : State) : State := s.updHalt fun h => { h with others := false }

/-! ### The end of a step (R162, R163) -/

/-- Is any socket armed? -/
def State.anyArmed (s : State) : Bool := allSockets.any fun i => (s.socket i).state.armed

/-- Does the step timer's count, or the sockets, end the current step (R162; log 27)? -/
def State.stepEnds (s : State) : Bool :=
  match s.step.cur.endKind with
  | .time => decide (s.step.cur.duration ≤ s.step.elapsed)
  | .credit => !s.anyArmed
  | .host => false

/-- A normal end (R163). -/
def State.normalEnd (s : State) : State :=
  if s.step.cur.advance && decide (s.step.stagedState = .settled) && s.step.numberFree then s.promote .advanced
  else (s.updStep fun c => { c with state := .holding }).reportStep .ended

/-- Step control is told of an interval expiry (R162). -/
def State.stepTick (s : State) : State :=
  if s.step.state = .running then
    let s := s.updStep fun c => { c with elapsed := satSucc Config.elapsedTop c.elapsed }
    if s.stepEnds then s.normalEnd else s
  else s

/-! ### The step commands -/

/-- STAGE_SETTLE (R159), with the promotion it makes in HOLDING (R164). -/
def State.settleStage (s : State) : CmdOut :=
  if s.step.stagedState = .empty then s.refuse .state
  else
    let s := s.updStep fun c => { c with stagedState := .settled }
    if s.step.state = .holding ∧ s.step.cur.advance ∧ s.step.numberFree then (s.promote .advanced).accept else s.accept

/-- STAGE_UNSETTLE (R159). -/
def State.unsettleStage (s : State) : CmdOut :=
  if s.step.stagedState = .settled then (s.updStep StepCtl.unsettle).accept else s.refuse .state

/-- STEP_START (R161). -/
def State.startStep (s : State) : CmdOut :=
  match s.step.state with
  | .halted => s.refuse .halted
  | .running | .stopping => s.refuse .state
  | .idle | .holding =>
    if s.step.stagedState ≠ .settled then s.refuse .state
    else if s.step.numberFree then (s.promote .started).accept
    else s.refuse .range

/-- The current step with every target absent (R157, R165). -/
def StepRec.untargeted (c : StepRec) : StepRec := { c with railTarget := Table.fill none, tempTarget := Table.fill none }

/-- Entry to STOPPING (R165): the STOPPING record precedes the records of the hand-overs. -/
def State.enterStopping (s : State) : State :=
  let s := (s.updStep fun c => { c with state := .stopping, cur := c.cur.untargeted }).reportStep .stopping
  let s := s.formGoals fun _ => none
  let s := s.formTargets fun _ => none
  ((s.stopEngineAtOnce).updStep StepCtl.unsettle).testStopping

/-- STEP_STOP (R165). -/
def State.stopStep (s : State) : CmdOut :=
  match s.step.state with
  | .halted => s.refuse .halted
  | .idle | .stopping => s.refuse .state
  | .running | .holding => s.enterStopping.accept

/-- STEP_ABORT (R167). -/
def State.abortStep (s : State) : CmdOut := s.enterHalted.accept

/-- Is the zone TRIPPED with cause OVERCURRENT (R168 step 1)? -/
def Zone.overcurrent (v : Zone) : Bool := decide (v.rail.state = .tripped) && v.rail.tripCause == some .overcurrent

/-- Steps 1 and 2 of STEP_CLEAR (R168): the OVERCURRENT sources end and the own output is re-evaluated. -/
def State.dropSources (s : State) : State :=
  (s.setZones fun z =>
    if (s.zone z).overcurrent then { s.zone z with rail := { (s.zone z).rail with haltSource := false } }
    else s.zone z).evaluateOutput

/-- A zone's trip cause rewritten to HALT, with its record (R168 step 3). -/
def State.recauseHalt (s : State) (z : ZoneId) : State :=
  (s.updRail z fun r => { r with tripCause := some .halt }).reportZone z (.railTripped .halt)

/-- Step 4 of STEP_CLEAR (R168). -/
def State.leaveHalted (s : State) : State :=
  let s := s.updStep StepCtl.toIdle
  let s := s.formGoals fun _ => none
  let s := s.formTargets fun _ => none
  (forEach allZones (fun z s => s.clearTrip z) s).reportStep .cleared

/-- The result of STEP_CLEAR: the line level and the own output (R168, R190). -/
def State.lineResult (s : State) : List Byte := [flagByte s.halt.line, flagByte s.halt.own]

/-- STEP_CLEAR (R168). -/
def State.clearStep (s : State) : CmdOut :=
  if s.step.state ≠ .halted then s.refuse .state
  else
    let sources := allZones.filter fun z => (s.zone z).overcurrent
    let s := s.dropSources
    if s.halt.line && s.settings.haltIn then
      let s := forEach sources (fun z s => s.recauseHalt z) s
      ⟨s, .halted, s.lineResult⟩
    else
      let s := s.leaveHalted
      s.accept s.lineResult

/-! ### The commands and events of step control -/

/-- STAGE_SETTLE (R159). -/
def execStageSettle (src tag : Byte) (s : State) : Host.Outcome State Fault Refusal :=
  .next (s.deliver src tag 16 State.settleStage)

/-- STAGE_UNSETTLE (R159). -/
def execStageUnsettle (src tag : Byte) (s : State) : Host.Outcome State Fault Refusal :=
  .next (s.deliver src tag 17 State.unsettleStage)

/-- STEP_START (R161). -/
def execStepStart (src tag : Byte) (s : State) : Host.Outcome State Fault Refusal :=
  .next (s.deliver src tag 18 State.startStep)

/-- STEP_STOP (R165). -/
def execStepStop (src tag : Byte) (s : State) : Host.Outcome State Fault Refusal :=
  .next (s.deliver src tag 19 State.stopStep)

/-- STEP_ABORT (R167). -/
def execStepAbort (src tag : Byte) (s : State) : Host.Outcome State Fault Refusal :=
  .next (s.deliver src tag 20 State.abortStep)

/-- STEP_CLEAR (R168). -/
def execStepClear (src tag : Byte) (s : State) : Host.Outcome State Fault Refusal :=
  .next (s.deliver src tag 21 State.clearStep)

/-- HALT_LINE_ASSERTED (R166). -/
def execHaltLineAsserted (othersPull : Bool) (s : State) : Host.Outcome State Fault Refusal :=
  .next (s.lineAsserted othersPull).arbitrate

/-- HALT_LINE_RELEASED (R166). -/
def execHaltLineReleased (s : State) : Host.Outcome State Fault Refusal := .next s.lineReleased

/-- The part at the release of power-on reset, with the pins it reads there (R170, R173, R175, R177). The model's own queue and
counter stand (log 33). -/
def State.powerOn (s : State) (addr : BitVec 6) (othersPull downPartner upReceiver : Bool) : State :=
  { State.reset with
    link := { address := addr, downPartner, upReceiver }
    halt := { others := othersPull }
    pending := s.pending
    freeIndex := s.freeIndex }

/-- POWER_ON_RESET (R170): every field at its reset value, and then step control reads the line. -/
def execPowerOnReset (addr : BitVec 6) (othersPull downPartner upReceiver : Bool) (s : State) :
    Host.Outcome State Fault Refusal :=
  .next (s.powerOn addr othersPull downPartner upReceiver).readLine.arbitrate

end Sys2Proof.Machine
end

