-- ==== Sys2Proof/Machine/Accounting.lean ====
section
/-! DEFINITION. Accounting: socket commands (01_sockets.md), the interval expiry with accrual and the close of the interval
(02_stress_credit.md), score transfers and verdicts (03_verdicts_and_the_report_queue.md). -/

namespace Sys2Proof.Machine

/-! ### The conditions of accrual (R25, R26) -/

/-- Conditions 2 to 6 of R25: armed, switched on, in a zone in HOLD with its voltage present, STABLE or unheated, and
exercised. -/
def State.meetsConditions (s : State) (i : SocketId) : Bool :=
  let k := s.socket i
  let v := s.zone k.zone
  k.state.armed && k.switch && decide (v.rail.state = .hold) && v.values.voltage.isSome &&
    (decide (v.heat.state = .stable) || (decide (v.heat.state = .off) && (s.step.cur.tempTarget.get k.zone).isNone)) &&
    s.exercised k.zone

/-- Does a socket accrue at this expiry: all seven conditions of R25? -/
def State.accrues (s : State) (i : SocketId) : Bool :=
  (s.socket i).qualified && s.meetsConditions i && (s.socketTemperature i).isSome

/-! ### The accrual computation (R28 to R35) -/

/-- A bin number: the floor of a quotient, clamped to `0..top` (R30, R32). `Int` division rounds down for a positive width. -/
def binOf (value base : Int) (width top : Nat) : Nat := (max 0 (min (top : Int) ((value - base) / width))).toNat

/-- The temperature factor of a temperature (R30). -/
def Accel.factor (a : Accel) (t : Int) : Nat := a.tf.cells.getD (binOf t a.tBase a.tWidth 15) 0

/-- The voltage factor of a voltage (R32). -/
def Volt.factor (v : Volt) (mv : Nat) : Nat := v.vf.cells.getD (binOf mv v.vBase v.vStep 7) 0

/-- A socket with the product of its factors added (R33, R34). -/
def Socket.accrue (k : Socket) (product : Nat) : Socket :=
  let sum := k.fraction + product
  if Config.longTop ≤ k.credit + sum / 256 then { k with credit := Config.longTop, fraction := 0 }
  else { k with credit := k.credit + sum / 256, fraction := sum % 256 }

/-- The product of a socket's two factors (R33). -/
def State.stressProduct (s : State) (i : SocketId) : Nat :=
  s.accel.factor ((s.socketTemperature i).getD 0) * s.volt.factor ((s.zone (s.socket i).zone).values.voltage.getD 0)

/-- The accrual pass (R25): credits first, and then the completions, in an order no rule gives (R35; log 4). -/
def State.accrue (s : State) : State :=
  let earners := allSockets.filter fun i => s.accrues i
  let t := s.setSockets fun i => if s.accrues i then (s.socket i).accrue (s.stressProduct i) else s.socket i
  forEachFreely (earners.filter fun i => (t.socket i).targetMet) (fun i t => t.testCompletion i) t

/-- The close of the interval (R26). -/
def State.closeInterval (s : State) : State :=
  (s.setZones fun z => { s.zone z with latches := {} }).setSockets fun i =>
    { s.socket i with qualified := s.meetsConditions i }

/-! ### Score transfers (R40 to R46) -/

/-- A socket's score moved at a transfer (R40 steps 1 to 3). -/
def Socket.transferred (k : Socket) : Socket :=
  let history := k.history.drop (k.history.length + 1 - Config.historyLength) ++ [k.running]
  { k with last := k.running, running := 0, history }

/-- Does the M-of-N test fail a history (R43)? -/
def Policy.failsHistory (p : Policy) (history : List Nat) : Bool :=
  decide (p.failM ≤ (history.drop (history.length - p.failN)).countP fun score => decide (p.failThreshold ≤ score))

/-- The suspect and clean evaluation (R44). -/
def State.judgeScore (s : State) (i : SocketId) : State :=
  let p := s.policyOf i
  let k := s.socket i
  if p.suspectThreshold ≤ k.last then
    if k.reasons.score then s.updSocket i fun k => { k with clean := 0 }
    else s.setReasons i fun r => { r with score := true }
  else if k.reasons.score then
    if p.clearK ≤ k.clean + 1 then
      (s.updSocket i fun k => { k with clean := 0 }).setReasons i fun r => { r with score := false }
    else s.updSocket i fun k => { k with clean := k.clean + 1 }
  else s

/-- The verdict evaluation (R43, R44). -/
def State.judge (s : State) (i : SocketId) : State :=
  if (s.policyOf i).failsHistory (s.socket i).history then s.finding i .score else s.judgeScore i

/-- The treatment of one socket at a transfer (R40, R41). -/
def State.transferSocket (s : State) (i : SocketId) : State :=
  if (s.socket i).state.armed then (s.updSocket i Socket.transferred).judge i
  else s.updSocket i fun k => { k with running := 0 }

/-- The sockets that a transfer taken now judges (R40). -/
def State.judged (s : State) : List SocketId := allSockets.filter fun i => (s.socket i).state.armed

/-- The pairs of a SUMMARY record (R46). -/
def State.summaryEntries (s : State) (judged : List SocketId) : List (SocketId × Nat) :=
  (judged.map fun i => (i, (s.socket i).last)).filter fun e => e.2 != 0

/-- A score transfer (R40, R41, R46). -/
def State.transfer (s : State) : State :=
  let judged := s.judged
  let s := { s with transferNumber := satSucc Config.longTop s.transferNumber }
  let s := forEach allSockets (fun i s => s.transferSocket i) s
  let entries := s.summaryEntries judged
  if entries.isEmpty then s else s.report (.summary s.transferNumber entries)

/-! ### The interval expiry (R20) -/

/-- Accounting's work at an expiry after run seconds (R20); an AUTO transfer has no fixed place (log 5). -/
def State.intervalWork (s : State) : State :=
  match s.settings.reportMode with
  | .manual => s.accrue.closeInterval
  | .auto =>
    let place := Config.transferPlace s.freeIndex % 3
    let s := { s with freeIndex := s.freeIndex + 1 }
    if place = 0 then s.transfer.accrue.closeInterval
    else if place = 1 then s.accrue.transfer.closeInterval
    else s.accrue.closeInterval.transfer

/-- An interval expiry: run seconds, accounting's work, and then step control is told (R20, R21). -/
def State.intervalExpired (s : State) : State :=
  ({ s with runSeconds := satSucc Config.longTop s.runSeconds }).intervalWork.stepTick

/-- SNAPSHOT (R39). -/
def State.takeSnapshot (s : State) : CmdOut :=
  match s.settings.reportMode with
  | .auto => s.refuse .state
  | .manual =>
    let t := s.transfer
    t.accept (be 4 t.transferNumber ++ be 1 s.judged.length)

/-! ### Socket commands (R6 to R11) -/

/-- The sockets a set names, in ascending order. -/
def namedSockets (set : BitVec 32) : List SocketId := allSockets.filter fun i => set.getLsbD i.val

/-- A socket as SOCKET_ARM clears it (R7). -/
def Socket.armCleared (k : Socket) (clear : Bool) : Socket :=
  { k with
    running := 0
    last := 0
    history := []
    reasons := {}
    clean := 0
    firstFail := none
    cause := none
    qualified := false
    credit := if clear then 0 else k.credit
    fraction := if clear then 0 else k.fraction }

/-- SOCKET_ARM of one socket (R7): an armed one is left as it is. Entry to COMPLETE follows R15, from COMPLETE too (log 16). -/
def State.armSocket (clear : Bool) (i : SocketId) (s : State) : State :=
  if (s.socket i).state.armed then s
  else
    let s := (s.updSocket i (·.armCleared clear)).resetLanes fun n => laneSocket n == i
    if (s.socket i).targetMet then s.complete i else s.changeState i .running

/-- SOCKET_RELEASE of one socket (R8). -/
def State.releaseSocket (i : SocketId) (s : State) : State :=
  ((s.updSocket i fun k =>
    { k with
      hold := if k.hold = some .fail ∨ k.hold = some .done then none else k.hold
      reasons := {}
      clean := 0 }).evaluateSwitch i).changeState i .ready

/-- SOCKET_HOLD of one socket (R9): the precedence of R16 keeps a hold already there. -/
def State.holdSocket (i : SocketId) (s : State) : State := s.placeHold i .forced

/-- SOCKET_RESTORE of one socket (R10): one with no hold is left as it is. -/
def State.restoreSocket (i : SocketId) (s : State) : State :=
  if (s.socket i).hold.isNone then s else (s.updSocket i fun k => { k with hold := none }).evaluateSwitch i

/-- SOCKET_FAIL of one socket (R11). -/
def State.failSocket (i : SocketId) (s : State) : State := s.finding i .forced

/-- A socket command (R6): refused whole if any named socket refuses, and otherwise done on each, in ascending order. -/
def State.socketCommand (set : BitVec 32) (refuses : SocketState → Bool) (act : SocketId → State → State) (s : State) :
    CmdOut :=
  if (namedSockets set).any fun i => refuses (s.socket i).state then s.refuse .state
  else (forEach (namedSockets set) act s).accept

/-- SOCKET_ARM (R7): bit 0 of the options is CLEAR (R190). -/
def State.armSockets (set : BitVec 32) (options : Byte) : State → CmdOut :=
  State.socketCommand set (· == .vacant) (State.armSocket (options.getLsbD 0))

/-- SOCKET_RELEASE (R8). -/
def State.releaseSockets (set : BitVec 32) : State → CmdOut := State.socketCommand set (· == .vacant) State.releaseSocket

/-- SOCKET_HOLD (R9). -/
def State.holdSockets (set : BitVec 32) : State → CmdOut := State.socketCommand set (fun _ => false) State.holdSocket

/-- SOCKET_RESTORE (R10). -/
def State.restoreSockets (set : BitVec 32) : State → CmdOut := State.socketCommand set (fun _ => false) State.restoreSocket

/-- SOCKET_FAIL (R11). -/
def State.failSockets (set : BitVec 32) : State → CmdOut := State.socketCommand set (fun st => !st.armed) State.failSocket

/-! ### The commands and events of accounting -/

/-- SOCKET_ARM (R7). -/
def execSocketArm (src tag : Byte) (sockets : BitVec 32) (options : Byte) (s : State) : Host.Outcome State Fault Refusal :=
  .next (s.deliver src tag 48 (State.armSockets sockets options))

/-- SOCKET_RELEASE (R8). -/
def execSocketRelease (src tag : Byte) (sockets : BitVec 32) (s : State) : Host.Outcome State Fault Refusal :=
  .next (s.deliver src tag 49 (State.releaseSockets sockets))

/-- SOCKET_HOLD (R9). -/
def execSocketHold (src tag : Byte) (sockets : BitVec 32) (s : State) : Host.Outcome State Fault Refusal :=
  .next (s.deliver src tag 50 (State.holdSockets sockets))

/-- SOCKET_RESTORE (R10). -/
def execSocketRestore (src tag : Byte) (sockets : BitVec 32) (s : State) : Host.Outcome State Fault Refusal :=
  .next (s.deliver src tag 51 (State.restoreSockets sockets))

/-- SOCKET_FAIL (R11). -/
def execSocketFail (src tag : Byte) (sockets : BitVec 32) (s : State) : Host.Outcome State Fault Refusal :=
  .next (s.deliver src tag 52 (State.failSockets sockets))

/-- SNAPSHOT (R39). -/
def execSnapshot (src tag : Byte) (s : State) : Host.Outcome State Fault Refusal :=
  .next (s.deliver src tag 64 State.takeSnapshot)

/-- INTERVAL_EXPIRY (R20). -/
def execIntervalExpiry (s : State) : Host.Outcome State Fault Refusal := .next s.intervalExpired.arbitrate

end Sys2Proof.Machine
end

