-- ==== Sys2Proof/Machine/Intake.lean ====
section
/-! DEFINITION. Monitor samples (04_monitor_samples.md): the sample word, its conversion and hand-over, and the stale timers. -/

namespace Sys2Proof.Machine

/-- The quantity a channel measures, if it measures one (R59). -/
def ChannelQuantity.quantity : ChannelQuantity → Option Quantity
  | .none => Option.none
  | .voltage => some .voltage
  | .current => some .current
  | .temperature => some .temperature

/-- The range a converted value is clamped to (R61). -/
def quantityRange : Quantity → Int × Int
  | .voltage => (0, 6000)
  | .current => (0, 60000)
  | .temperature => (-80, 400)

/-- The converted value of a raw reading (R61). -/
def Channel.convert (c : Channel) (q : Quantity) (raw : Nat) : Int :=
  max (quantityRange q).1 (min (quantityRange q).2 (c.offset + ((raw * c.scale / 4096 : Nat) : Int)))

/-- The zone's values with a new value stored and its stale timer restarted (R62 steps 1 and 2). -/
def Values.store (v : Values) (q : Quantity) (x : Int) : Values :=
  match q with
  | .voltage => { v with voltage := some x.toNat, voltageTimer := true }
  | .current => { v with current := some x.toNat, currentTimer := true }
  | .temperature => { v with temperature := some x, temperatureTimer := true }

/-- The hand-over of a new value to the block that acts on it (R62 step 3). -/
def State.handOver (s : State) (z : ZoneId) (q : Quantity) (x : Int) : State :=
  match q with
  | .voltage => s.voltageSample z x.toNat
  | .current => s.currentSample z x.toNat
  | .temperature => s.temperatureSample z x

/-- A word accepted for a channel (R59, R61, R62). -/
def State.acceptSample (s : State) (m : Fin 16) (raw : Nat) : State :=
  let c := s.channels.get m
  let s := { s with channels := s.channels.upd m fun c => { c with lastRaw := some raw } }
  match c.quantity.quantity with
  | none => s
  | some q => (s.updValues c.zone (·.store q (c.convert q raw))).handOver c.zone q (c.convert q raw)

/-- A sample word (R58). -/
def State.sampleTaken (s : State) (word : BitVec 17) : State :=
  if sampleParityOdd word then s.acceptSample (sampleChannel word) (sampleRaw word)
  else { s with badWords := satSucc Config.countTop s.badWords }

/-- Is a zone's stale timer running (R65)? -/
def Values.timer (v : Values) : Quantity → Bool
  | .voltage => v.voltageTimer
  | .current => v.currentTimer
  | .temperature => v.temperatureTimer

/-- The zone's values with one quantity absent and its timer stopped (R66). -/
def Values.expire (v : Values) : Quantity → Values
  | .voltage => { v with voltage := none, voltageTimer := false }
  | .current => { v with current := none, currentTimer := false }
  | .temperature => { v with temperature := none, temperatureTimer := false }

/-- A stale timer's expiry (R66); a stopped timer does not expire (log 2). -/
def State.staleExpired (s : State) (z : ZoneId) (q : Quantity) : State :=
  if (s.zone z).values.timer q then
    let s := s.updValues z (·.expire q)
    match q with
    | .voltage | .current => s.railStale z
    | .temperature => s.heatStale z
  else s

/-- SAMPLE_WORD (R58, R62). -/
def execSampleWord (word : BitVec 17) (s : State) : Host.Outcome State Fault Refusal := .next (s.sampleTaken word).arbitrate

/-- STALE_TIMER_EXPIRY (R66). -/
def execStaleTimerExpiry (z : ZoneId) (q : Quantity) (s : State) : Host.Outcome State Fault Refusal :=
  .next (s.staleExpired z q).arbitrate

end Sys2Proof.Machine
end

