-- ==== Sys2Proof/Machine/Tables.lean ====
section
/-! DEFINITION. The twelve tables (R191): the fields of each, the stages of a TBL_WRITE (R182), what a write to each table does, and
TBL_READ (R184). -/

namespace Sys2Proof.Machine

/-! ### The fields of each table (R191): `none` stands for a read-only field -/

/-- The rows of a table (R191). -/
def tableRows : Nat → Nat
  | 2 => 32
  | 3 => 4
  | 4 => 4
  | 7 => 64
  | 8 => 64
  | 9 => 16
  | 11 => 32
  | 12 => 2
  | _ => 1

/-- The twelve fields of SETTINGS (section 10.8). -/
def settingsFields : List (Option FieldKind) :=
  List.replicate 8 (some .yesNo) ++ [some (.enum 2), some .yesNo, some .yesNo, some (.enum 5)]

/-- The writable fields of SOCKET (R1), then twelve read-only ones (R2). -/
def socketFields : List (Option FieldKind) :=
  [some .yesNo, some (.num 0 3), some (.num 0 3), some (.num 0 16777215), some (.num (-32768) 32767),
    some (.num (-32768) 32767)] ++ List.replicate 12 none

/-- The rail fields (R69) and heat fields (R104) of ZONE, then twenty-six read-only ones. -/
def zoneFields : List (Option FieldKind) :=
  [some (.num 1000 5000), some (.num 0 5000), some (.num 1 1000), some (.num 5 500), some (.num 1 16), some (.num 1 60000),
    some (.num 1 60000), some (.num 1 255), some (.num 1 60000), some (.num 1 40), some (.num 0 3600), some (.num 0 60),
    some (.num (-80) 400), some (.num 0 1000), some (.num 0 255), some (.num 0 255)] ++ List.replicate 26 none

/-- The fields of POLICY (R42). -/
def policyFields : List (Option FieldKind) :=
  [some (.num 1 65535), some (.num 1 65535), some (.num 1 8), some (.num 1 8), some (.num 1 8), some .yesNo, some .yesNo,
    some (.num (-80) 400)]

/-- The fields of ACCEL (R29). -/
def accelFields : List (Option FieldKind) :=
  [some (.num (-80) 400), some (.num 1 64)] ++ List.replicate 16 (some (.num 0 65535))

/-- The fields of VOLT (R31). -/
def voltFields : List (Option FieldKind) :=
  [some (.num 0 6000), some (.num 1 500)] ++ List.replicate 8 (some (.num 0 65535))

/-- The fields of SENSE (R140), then five read-only ones (R141). -/
def senseFields : List (Option FieldKind) :=
  [some (.enum 5), some .yesNo, some (.num 0 7), some (.enum 2), some .yesNo, some (.enum 3), some (.num 0 15)] ++
    List.replicate 5 none

/-- The fields of STEP (R157): the step number and the last three are read-only. -/
def stepFields : List (Option FieldKind) :=
  [none, some (.enum 3), some (.num 1 4000000)] ++ List.replicate 4 (some (.optNum 0 6000)) ++
    List.replicate 4 (some (.optNum (-80) 400)) ++ [some (.enum 4), some (.num 10 65535), some .yesNo, none, none, none]

/-- The fields of a table, in the order of their numbers (R191). -/
def tableFields : Nat → List (Option FieldKind)
  | 1 => settingsFields
  | 2 => socketFields
  | 3 => zoneFields
  | 4 => policyFields
  | 5 => accelFields
  | 6 => voltFields
  | 7 => [some (.enum 7), some (.num 0 15), some .yesNo]
  | 8 => senseFields
  | 9 => [some (.num 0 3), some (.enum 4), some (.num 0 65535), some (.num (-32768) 32767), none]
  | 10 => [some .zoneList]
  | 11 => List.replicate 9 none
  | 12 => stepFields
  | _ => []

/-- The field numbers a mask selects, ascending (R182). -/
def selectedFields (table : Nat) (mask : BitVec 64) : List Nat :=
  (List.range (tableFields table).length).filter fun n => mask.getLsbD n

/-- Do the rows and the mask lie in the table (stage 4 of R182)? -/
def inTable (table first count : Nat) (mask : BitVec 64) : Bool :=
  decide (1 ≤ count) && decide (first + count ≤ tableRows table) && mask != 0 &&
    decide (mask.toNat < 2 ^ (tableFields table).length)

/-- The selected fields with their kinds; none if one is read-only (stage 5 of R182). -/
def writableFields (table : Nat) : List Nat → Option (List (Nat × FieldKind))
  | [] => some []
  | n :: ns =>
    match ((tableFields table)[n]?).getD none, writableFields table ns with
    | some kind, some rest => some ((n, kind) :: rest)
    | _, _ => none

/-- Rows with their numbers, from the first row upward. -/
def numberRows (first : Nat) (rows : List RowWrite) : List (Nat × RowWrite) :=
  rows.mapIdx fun k row => (first + k, row)

/-- Stages 2 to 7 of a TBL_WRITE (R182), but for the cross-field rules: the rows written, or the status of the refusal. -/
def checkWrite (table first count : Byte) (mask : BitVec 64) (values : List Byte) : Except Status (List (Nat × RowWrite)) :=
  let t := table.toNat
  if t = 0 ∨ 12 < t then .error .noTable
  else if t = 11 then .error .readOnly
  else if !inTable t first.toNat count.toNat mask then .error .range
  else if t = 12 ∧ first = 0 then .error .readOnly
  else
    match writableFields t (selectedFields t mask) with
    | none => .error .readOnly
    | some fields =>
      match splitRows count.toNat fields values with
      | none => .error .length
      | some raw =>
        match readRows raw with
        | none => .error .range
        | some rows => .ok (numberRows first.toNat rows)

/-- A bank with each written row passed through `f`. -/
def writeRows {n : Nat} {α : Type} (rows : List (Fin n × RowWrite)) (f : RowWrite → α → α) (t : Table n α) : Table n α :=
  rows.foldl (fun t row => t.upd row.1 (f row.2)) t

/-! ### SETTINGS (R169) -/

/-- A field of SETTINGS written. -/
def Settings.put (n : Nat) (v : Written) (t : Settings) : Settings :=
  match n with
  | 0 => { t with firstFail := v.flag }
  | 1 => { t with verdict := v.flag }
  | 2 => { t with zone := v.flag }
  | 3 => { t with pattern := v.flag }
  | 4 => { t with step := v.flag }
  | 5 => { t with lane := v.flag }
  | 6 => { t with summary := v.flag }
  | 7 => { t with laneClear := v.flag }
  | 8 => { t with reportMode := ReportMode.ofCode v.nat }
  | 9 => { t with haltIn := v.flag }
  | 10 => { t with haltOut := v.flag }
  | _ => { t with vectorCheck := VectorCheck.ofCode v.nat }

/-- What step control does at a write of the HALT enables (R166). -/
inductive HaltTask where
  | output
  | input
deriving DecidableEq, Repr

def HaltTask.run (task : HaltTask) (s : State) : State :=
  match task with
  | .output => s.evaluateOutput
  | .input => s.readLine

/-- A write to SETTINGS (R169): with both enables written their order is open (log 21). -/
def State.writeSettings (s : State) (w : RowWrite) : CmdOut :=
  let s := { s with settings := w.apply Settings.put s.settings }
  let tasks := (if w.selects 10 then [HaltTask.output] else []) ++ (if w.selects 9 then [HaltTask.input] else [])
  (forEachFreely tasks HaltTask.run s).accept

/-! ### SOCKET (R1 to R5) -/

/-- A field of a SOCKET row written. -/
def Socket.put (n : Nat) (v : Written) (k : Socket) : Socket :=
  match n with
  | 0 => { k with populated := v.flag }
  | 1 => { k with zone := Fin.ofNat 4 v.nat }
  | 2 => { k with policy := Fin.ofNat 4 v.nat }
  | 3 => { k with target := v.nat }
  | 4 => { k with tjOffset := v.int }
  | _ => { k with tjSlope := v.int }

/-- Is a write to a SOCKET row refused with BUSY (R3)? -/
def State.socketBusy (s : State) (i : SocketId) (w : RowWrite) : Bool :=
  let k := s.socket i
  let new := w.apply Socket.put k
  let moves := w.selects 0 || w.selects 1 || w.selects 2
  let searching := fun z => decide ((s.zone z).rail.state = .searching)
  (moves && k.switch) || (moves && searching k.zone) || (w.selects 1 && searching new.zone) ||
    (w.selects 0 && !new.populated && k.state.armed)

/-- The move that a write of populated makes (R4). -/
def State.applyPopulated (s : State) (i : SocketId) : State :=
  let k := s.socket i
  if k.populated then (if k.state = .vacant then s.changeState i .ready else s)
  else if k.state.armed then s else s.changeState i .vacant

/-- The effects of a written SOCKET row (R4, R5, R87). -/
def State.socketWritten (row : SocketId × RowWrite) (s : State) : State :=
  let s := if row.2.selects 0 then s.applyPopulated row.1 else s
  let s := if row.2.selects 0 || row.2.selects 1 then s.evaluateSwitch row.1 else s
  if row.2.selects 3 then s.testCompletion row.1 else s

/-- A write to SOCKET (R1 to R5): every row is written, and then each row's effects follow, in an order no rule gives
(log 4). -/
def State.writeSockets (s : State) (rows : List (SocketId × RowWrite)) : CmdOut :=
  if rows.any fun row => s.socketBusy row.1 row.2 then s.refuse .busy
  else
    let s := { s with sockets := writeRows rows (fun w => w.apply Socket.put) s.sockets }
    (forEachFreely rows State.socketWritten s).accept

/-! ### ZONE (R69, R104) -/

/-- A field of a ZONE row written. -/
def ZoneCfg.put (n : Nat) (v : Written) (c : ZoneCfg) : ZoneCfg :=
  match n with
  | 0 => { c with fullScaleMv := v.nat }
  | 1 => { c with maxMv := v.nat }
  | 2 => { c with rampRate := v.nat }
  | 3 => { c with windowMv := v.nat }
  | 4 => { c with regCount := v.nat }
  | 5 => { c with limitMa := v.nat }
  | 6 => { c with tripMa := v.nat }
  | 7 => { c with settleMs := v.nat }
  | 8 => { c with shareMa := v.nat }
  | 9 => { c with band := v.nat }
  | 10 => { c with soakS := v.nat }
  | 11 => { c with graceS := v.nat }
  | 12 => { c with hardLimit := v.int }
  | 13 => { c with dutyMax := v.nat }
  | 14 => { c with kp := v.nat }
  | _ => { c with ki := v.nat }

/-- The cross-field rules of a ZONE row (R69). -/
def ZoneCfg.consistent (c : ZoneCfg) : Bool := decide (c.maxMv ≤ c.fullScaleMv) && decide (c.limitMa ≤ c.tripMa)

/-- What a block does at a ZONE write: the rails take a goal change, the heat controller a target change. -/
inductive ZoneTask where
  | goal (z : ZoneId)
  | target (z : ZoneId) (new : Option Int)
deriving DecidableEq, Repr

def ZoneTask.run (task : ZoneTask) (s : State) : State :=
  match task with
  | .goal z => s.goalChange z
  | .target z new => s.targetChange z new

/-- The goals after a write: those of zones whose max_mv is written are formed again from the goal held (R71; log 11). -/
def State.relimitedGoals (s : State) (rows : List (ZoneId × RowWrite)) (z : ZoneId) : Option Nat :=
  let v := s.zone z
  if rows.any fun row => row.1 == z && row.2.selects 1 then limitGoal v.cfg.maxMv v.rail.goal else v.rail.goal

/-- The heat target of a zone whose band or hard_limit is written, formed again from the target held (R106; log 11). -/
def State.relimitedTarget (s : State) (z : ZoneId) : Option Int :=
  let v := s.zone z
  v.heat.target.map (min · v.cfg.heatLimit)

/-- A write to ZONE (R69, R104): every row is written, new goals and targets are formed, and the changes are taken in an order no
rule gives (log 4). -/
def State.writeZones (s : State) (rows : List (ZoneId × RowWrite)) : CmdOut :=
  if rows.any fun row => !(row.2.apply ZoneCfg.put (s.zone row.1).cfg).consistent then s.refuse .range
  else if rows.any fun row => decide ((s.zone row.1).rail.state = .searching) then s.refuse .busy
  else
    let s := { s with zones := writeRows rows (fun w v => { v with cfg := w.apply ZoneCfg.put v.cfg }) s.zones }
    let goals := s.relimitedGoals rows
    let goalTasks := (s.changedGoals goals).map ZoneTask.goal
    let heated := rows.filter fun row =>
      (row.2.selects 9 || row.2.selects 12) && s.relimitedTarget row.1 != (s.zone row.1).heat.target
    let heatTasks := heated.map fun row => ZoneTask.target row.1 (s.relimitedTarget row.1)
    (forEachFreely (goalTasks ++ heatTasks) ZoneTask.run (s.setGoals goals)).accept

/-! ### POLICY, ACCEL, VOLT and CHANNEL (R42, R29, R31, R60) -/

/-- A field of a POLICY row written. -/
def Policy.put (n : Nat) (v : Written) (p : Policy) : Policy :=
  match n with
  | 0 => { p with suspectThreshold := v.nat }
  | 1 => { p with failThreshold := v.nat }
  | 2 => { p with failM := v.nat }
  | 3 => { p with failN := v.nat }
  | 4 => { p with clearK := v.nat }
  | 5 => { p with isolateOnFail := v.flag }
  | 6 => { p with stopOnComplete := v.flag }
  | _ => { p with runawayLimit := v.int }

/-- A write to POLICY (R42). -/
def State.writePolicies (s : State) (rows : List (Fin 4 × RowWrite)) : CmdOut :=
  if rows.any fun row =>
    let p := row.2.apply Policy.put (s.policies.get row.1)
    decide (p.failN < p.failM)
  then s.refuse .range
  else
    ({ s with policies := writeRows rows (fun w => w.apply Policy.put) s.policies }).accept

/-- A field of ACCEL written. -/
def Accel.put (n : Nat) (v : Written) (a : Accel) : Accel :=
  match n with
  | 0 => { a with tBase := v.int }
  | 1 => { a with tWidth := v.nat }
  | n + 2 => { a with tf := a.tf.set (Fin.ofNat 16 n) v.nat }

/-- A write to ACCEL (R29). -/
def State.writeAccel (s : State) (w : RowWrite) : CmdOut := ({ s with accel := w.apply Accel.put s.accel }).accept

/-- A field of VOLT written. -/
def Volt.put (n : Nat) (v : Written) (a : Volt) : Volt :=
  match n with
  | 0 => { a with vBase := v.nat }
  | 1 => { a with vStep := v.nat }
  | n + 2 => { a with vf := a.vf.set (Fin.ofNat 8 n) v.nat }

/-- A write to VOLT (R31). -/
def State.writeVolt (s : State) (w : RowWrite) : CmdOut := ({ s with volt := w.apply Volt.put s.volt }).accept

/-- A field of a CHANNEL row written. -/
def Channel.put (n : Nat) (v : Written) (c : Channel) : Channel :=
  match n with
  | 0 => { c with zone := Fin.ofNat 4 v.nat }
  | 1 => { c with quantity := ChannelQuantity.ofCode v.nat }
  | 2 => { c with scale := v.nat }
  | _ => { c with offset := v.int }

/-- A write to CHANNEL (R60). -/
def State.writeChannels (s : State) (rows : List (Fin 16 × RowWrite)) : CmdOut :=
  ({ s with channels := writeRows rows (fun w => w.apply Channel.put) s.channels }).accept

/-! ### DRIVE and SENSE (R133, R140, R142) -/

/-- A field of a DRIVE row written. -/
def DriveRow.put (n : Nat) (v : Written) (r : DriveRow) : DriveRow :=
  match n with
  | 0 => { r with source := DriveSource.ofCode v.nat }
  | 1 => { r with bit := Fin.ofNat 16 v.nat }
  | _ => { r with invert := v.flag }

/-- A write to DRIVE (R133). -/
def State.writeDriveRows (s : State) (rows : List (Fin 64 × RowWrite)) : CmdOut :=
  (s.writeDrive (rows.map fun row => (row.1, row.2.apply DriveRow.put (s.drive.get row.1)))).accept

/-- A field of a SENSE row written. -/
def SenseRow.put (n : Nat) (v : Written) (r : SenseRow) : SenseRow :=
  match n with
  | 0 => { r with mode := SenseMode.ofCode v.nat }
  | 1 => { r with invert := v.flag }
  | 2 => { r with expectChannel := Fin.ofNat 8 v.nat }
  | 3 => { r with polynomial := Polynomial.ofCode v.nat }
  | 4 => { r with watch := v.flag }
  | 5 => { r with edgeKind := EdgeKind.ofCode v.nat }
  | _ => { r with prescale := v.nat }

/-- Does a row after the write put FREQ on a primary lane (R140)? -/
def State.freqOnPrimary (s : State) (n : LaneId) (w : RowWrite) : Bool :=
  decide (n.val % 2 = 0) && decide ((w.apply SenseRow.put (s.lane n).row).mode = .freq)

/-- A write to SENSE (R140, R142): lanes whose mode is written are reset, and a STUCK or a lock lost that a reset ends is handed to
accounting, once for each socket, in an order no rule gives (logs 4 and 35). -/
def State.writeSense (s : State) (rows : List (LaneId × RowWrite)) : CmdOut :=
  if rows.any fun row => s.freqOnPrimary row.1 row.2 then s.refuse .range
  else
    let reset := fun n => rows.any fun row => row.1 == n && row.2.selects 0
    let ended := fun n => reset n && ((s.lane n).watch.stuck || (s.lane n).prbs.lockLost)
    let review := allSockets.filter fun i => ended (primaryLane i) || ended (secondaryLane i)
    let s := { s with lanes := writeRows rows (fun w l => { l with row := w.apply SenseRow.put l.row }) s.lanes }
    (forEachFreely review (fun i s => s.reviewReasons i) (s.resetLanes reset)).accept

/-! ### ORDER and STEP (R72, R158) -/

/-- The list a write to ORDER gives. -/
def orderOf (w : RowWrite) : List ZoneId := w.flatMap fun nv => nv.2.numbers.map (Fin.ofNat 4)

/-- A rail target as stored: at most the zone's max_mv as it stands (R158). -/
def State.storedRailTarget (s : State) (z : ZoneId) (o : Option Int) : Option Nat :=
  o.map fun mv => min mv.toNat (s.zone z).cfg.maxMv

/-- A temperature target as stored: at most hard_limit less band, or -80 (R158). -/
def State.storedTempTarget (s : State) (z : ZoneId) (o : Option Int) : Option Int :=
  o.map (min · (s.zone z).cfg.heatLimit)

/-- A field of the staged step written, with its written flag (R158). -/
def State.putStaged (s : State) (n : Nat) (v : Written) (g : Staged) : Staged :=
  if n = 1 then { g with endKind := some (EndKind.ofCode v.nat) }
  else if n = 2 then { g with duration := some v.nat }
  else if n ≤ 6 then
    let z : ZoneId := Fin.ofNat 4 (n - 3)
    { g with railTarget := g.railTarget.set z (some (s.storedRailTarget z v.optional)) }
  else if n ≤ 10 then
    let z : ZoneId := Fin.ofNat 4 (n - 7)
    { g with tempTarget := g.tempTarget.set z (some (s.storedTempTarget z v.optional)) }
  else if n = 11 then { g with source := some (PatternSource.ofCode v.nat) }
  else if n = 12 then { g with period := some v.nat }
  else { g with advance := some v.flag }

/-- Is a written target stored at its limit (R158)? DESIGN CHOICE (log 42): a temperature target of -80 is stored as it is written
and so is not limited, even where hard_limit - band lies below -80. -/
def State.limits (s : State) (n : Nat) (v : Written) : Bool :=
  if 3 ≤ n ∧ n ≤ 6 then v.optional.any fun mv => decide (((s.zone (Fin.ofNat 4 (n - 3))).cfg.maxMv : Int) < mv)
  else if 7 ≤ n ∧ n ≤ 10 then v.optional.any fun t => decide ((s.zone (Fin.ofNat 4 (n - 7))).cfg.heatLimit < t)
  else false

/-- A write to row 1 of STEP (R158). -/
def State.writeStaged (s : State) (w : RowWrite) : CmdOut :=
  let clamped := w.any fun nv => s.limits nv.1 nv.2
  let s := s.updStep fun c => { c with staged := w.apply s.putStaged c.staged, stagedState := .opened }
  ⟨s, if clamped then .clamped else .ok, []⟩

/-! ### TBL_WRITE (R182, R183) -/

/-- Rows with their numbers as members of a bank of `n`. -/
def rowsOf (n : Nat) [NeZero n] (rows : List (Nat × RowWrite)) : List (Fin n × RowWrite) :=
  rows.map fun row => (Fin.ofNat n row.1, row.2)

/-- The write of a table with one row. -/
def theRow (rows : List (Nat × RowWrite)) : RowWrite := rows.flatMap (·.2)

/-- A TBL_WRITE that has passed stages 1 to 6 and whose values lie in range: the rest of stage 7, stage 8 and the write. -/
def State.writeTable (s : State) (table : Nat) (rows : List (Nat × RowWrite)) : CmdOut :=
  match table with
  | 1 => s.writeSettings (theRow rows)
  | 2 => s.writeSockets (rowsOf 32 rows)
  | 3 => s.writeZones (rowsOf 4 rows)
  | 4 => s.writePolicies (rowsOf 4 rows)
  | 5 => s.writeAccel (theRow rows)
  | 6 => s.writeVolt (theRow rows)
  | 7 => s.writeDriveRows (rowsOf 64 rows)
  | 8 => s.writeSense (rowsOf 64 rows)
  | 9 => s.writeChannels (rowsOf 16 rows)
  | 10 => (s.writeOrder (orderOf (theRow rows))).accept
  | _ => s.writeStaged (theRow rows)

/-- TBL_WRITE with its header in hand (R182, R183). -/
def State.tableWrite (table first count : Byte) (mask : BitVec 64) (values : List Byte) (s : State) : CmdOut :=
  match checkWrite table first count mask values with
  | .error status => s.refuse status
  | .ok rows => s.writeTable table.toNat rows

/-! ### TBL_READ (R184): the value of each field as coded (R188, R191) -/

/-- A field of SETTINGS as read. -/
def Settings.read (t : Settings) : Nat → List Byte
  | 0 => [flagByte t.firstFail]
  | 1 => [flagByte t.verdict]
  | 2 => [flagByte t.zone]
  | 3 => [flagByte t.pattern]
  | 4 => [flagByte t.step]
  | 5 => [flagByte t.lane]
  | 6 => [flagByte t.summary]
  | 7 => [flagByte t.laneClear]
  | 8 => be 1 t.reportMode.code
  | 9 => [flagByte t.haltIn]
  | 10 => [flagByte t.haltOut]
  | _ => be 1 t.vectorCheck.code

/-- A field of a SOCKET row as read. -/
def Socket.read (k : Socket) : Nat → List Byte
  | 0 => [flagByte k.populated]
  | 1 => be 1 k.zone.val
  | 2 => be 1 k.policy.val
  | 3 => be 4 k.target
  | 4 => beInt 2 k.tjOffset
  | 5 => beInt 2 k.tjSlope
  | 6 => be 1 k.state.code
  | 7 => be 1 (switchCode k.switch)
  | 8 => optNat 1 (k.hold.map Hold.code)
  | 9 => be 1 k.reasons.code
  | 10 => be 4 k.credit
  | 11 => be 1 k.fraction
  | 12 => be 2 k.running
  | 13 => be 2 k.last
  | 14 => listBytes (k.history.map (be 2))
  | 15 => be 1 k.clean
  | 16 => optNat 1 (k.cause.map FailCause.code)
  | _ => optInt 2 k.estimate

/-- A writable field of a ZONE row as read. -/
def ZoneCfg.read (c : ZoneCfg) : Nat → List Byte
  | 0 => be 2 c.fullScaleMv
  | 1 => be 2 c.maxMv
  | 2 => be 2 c.rampRate
  | 3 => be 2 c.windowMv
  | 4 => be 1 c.regCount
  | 5 => be 2 c.limitMa
  | 6 => be 2 c.tripMa
  | 7 => be 1 c.settleMs
  | 8 => be 2 c.shareMa
  | 9 => be 1 c.band
  | 10 => be 2 c.soakS
  | 11 => be 1 c.graceS
  | 12 => beInt 2 c.hardLimit
  | 13 => be 2 c.dutyMax
  | 14 => be 1 c.kp
  | _ => be 1 c.ki

/-- A field of a ZONE row as read: fields 0 to 15 are the writable ones. -/
def Zone.read (v : Zone) : Nat → List Byte
  | 16 => be 1 v.rail.state.code
  | 17 => be 2 v.rail.setpoint
  | 18 => optNat 2 v.rail.goal
  | 19 => be 2 (v.trim.getD 65535)
  | 20 => be 1 v.rail.oowCount
  | 21 => optNat 1 (v.rail.tripCause.map TripCause.code)
  | 22 => be 1 v.rail.waiting.code
  | 23 => [flagByte v.rail.haltSource]
  | 24 => [flagByte v.latches.rail]
  | 25 => [flagByte v.latches.thermal]
  | 26 => [flagByte v.latches.exercise]
  | 27 => optNat 2 v.values.voltage
  | 28 => optNat 2 v.values.current
  | 29 => optInt 2 v.values.temperature
  | 30 => be 1 v.search.phase.code
  | 31 => optNat 1 (v.search.candidate.map (·.val))
  | 32 => optNat 2 v.search.baseline
  | 33 => listBytes (v.search.pending.map fun i => be 1 i.val)
  | 34 => [flagByte v.search.settleTimer]
  | 35 => be 1 v.heat.state.code
  | 36 => optInt 2 v.heat.target
  | 37 => be 2 v.heat.duty
  | 38 => beInt 2 v.heat.integral
  | 39 => [flagByte v.heat.soak.isSome]
  | 40 => [flagByte v.heat.grace.isSome]
  | 41 => optNat 1 (v.heat.side.map Side.code)
  | n => v.cfg.read n

/-- A field of a POLICY row as read. -/
def Policy.read (p : Policy) : Nat → List Byte
  | 0 => be 2 p.suspectThreshold
  | 1 => be 2 p.failThreshold
  | 2 => be 1 p.failM
  | 3 => be 1 p.failN
  | 4 => be 1 p.clearK
  | 5 => [flagByte p.isolateOnFail]
  | 6 => [flagByte p.stopOnComplete]
  | _ => beInt 2 p.runawayLimit

/-- A field of ACCEL as read. -/
def Accel.read (a : Accel) : Nat → List Byte
  | 0 => beInt 2 a.tBase
  | 1 => be 1 a.tWidth
  | n + 2 => be 2 (a.tf.get (Fin.ofNat 16 n))

/-- A field of VOLT as read. -/
def Volt.read (a : Volt) : Nat → List Byte
  | 0 => be 2 a.vBase
  | 1 => be 2 a.vStep
  | n + 2 => be 2 (a.vf.get (Fin.ofNat 8 n))

/-- A field of a DRIVE row as read: the row as written. -/
def DriveRow.read (r : DriveRow) : Nat → List Byte
  | 0 => be 1 r.source.code
  | 1 => be 1 r.bit.val
  | _ => [flagByte r.invert]

/-- A field of a SENSE row as read. The lock lists HUNT, then LOCKED (R141). -/
def Lane.read (l : Lane) : Nat → List Byte
  | 0 => be 1 l.row.mode.code
  | 1 => [flagByte l.row.invert]
  | 2 => be 1 l.row.expectChannel.val
  | 3 => be 1 l.row.polynomial.code
  | 4 => [flagByte l.row.watch]
  | 5 => be 1 l.row.edgeKind.code
  | 6 => be 1 l.row.prescale
  | 7 => [flagByte l.prbs.locked]
  | 8 => [flagByte l.prbs.lockLost]
  | 9 => [flagByte l.watch.stuck]
  | 10 => be 1 l.gate.monitor.code
  | _ => optNat 2 l.gate.lastCount

/-- A field of a CHANNEL row as read. -/
def Channel.read (c : Channel) : Nat → List Byte
  | 0 => be 1 c.zone.val
  | 1 => be 1 c.quantity.code
  | 2 => be 2 c.scale
  | 3 => beInt 2 c.offset
  | _ => optNat 2 c.lastRaw

/-- The written flags of the staged step, bit n for field n (R157, R191). -/
def Staged.flags (g : Staged) : Nat :=
  let bit := fun (n : Nat) (written : Bool) => if written then 2 ^ n else 0
  bit 1 g.endKind.isSome + bit 2 g.duration.isSome +
    (allZones.map fun z => bit (3 + z.val) (g.railTarget.get z).isSome + bit (7 + z.val) (g.tempTarget.get z).isSome).sum +
    bit 11 g.source.isSome + bit 12 g.period.isSome + bit 13 g.advance.isSome

/-- The step record that row 1 reads as: unwritten fields as row 0's, and the number a promotion would give (R157). -/
def StepCtl.stagedRow (c : StepCtl) : StepRec := c.staged.inherit c.cur (satSucc Config.longTop c.cur.number)

/-- One of fields 0 to 13 of a STEP row as read. -/
def StepRec.read (r : StepRec) (n : Nat) : List Byte :=
  if n = 0 then be 4 r.number
  else if n = 1 then be 1 r.endKind.code
  else if n = 2 then be 4 r.duration
  else if n ≤ 6 then optNat 2 (r.railTarget.get (Fin.ofNat 4 (n - 3)))
  else if n ≤ 10 then optInt 2 (r.tempTarget.get (Fin.ofNat 4 (n - 7)))
  else if n = 11 then be 1 r.source.code
  else if n = 12 then be 2 r.period
  else [flagByte r.advance]

/-- A field of a STEP row as read (R191): elapsed belongs to row 0, the staged state and the written flags to row 1. -/
def StepCtl.read (c : StepCtl) (row n : Nat) : List Byte :=
  match n with
  | 14 => optNat 4 (if row = 0 then some c.elapsed else none)
  | 15 => optNat 1 (if row = 0 then none else some c.stagedState.code)
  | 16 => optNat 2 (if row = 0 then none else some c.staged.flags)
  | n => (if row = 0 then c.cur else c.stagedRow).read n

/-- A field of a FAILREC row as read: zeros of its size where the record is absent (R191). -/
def failrecField (o : Option FirstFail) (n : Nat) : List Byte :=
  match o with
  | some r => r.fieldBytes n
  | none => List.replicate (failrecSize n) 0

/-- A field of a row of a table as read. -/
def State.readField (s : State) (table row n : Nat) : List Byte :=
  match table with
  | 1 => s.settings.read n
  | 2 => (s.sockets.get (Fin.ofNat 32 row)).read n
  | 3 => (s.zones.get (Fin.ofNat 4 row)).read n
  | 4 => (s.policies.get (Fin.ofNat 4 row)).read n
  | 5 => s.accel.read n
  | 6 => s.volt.read n
  | 7 => (s.drive.get (Fin.ofNat 64 row)).read n
  | 8 => (s.lanes.get (Fin.ofNat 64 row)).read n
  | 9 => (s.channels.get (Fin.ofNat 16 row)).read n
  | 10 => listBytes (s.order.map fun z => be 1 z.val)
  | 11 => failrecField (s.sockets.get (Fin.ofNat 32 row)).firstFail n
  | _ => s.step.read row n

/-- The selected fields of a row; a FAILREC row begins with its presence byte (R191). -/
def State.readRow (s : State) (table row : Nat) (fields : List Nat) : List Byte :=
  (if table = 11 then [flagByte (s.sockets.get (Fin.ofNat 32 row)).firstFail.isSome] else []) ++
    fields.flatMap (s.readField table row)

/-- The longest result: a payload of 1024 bytes less the code and the status (R184, R190). -/
def maxResultBytes : Nat := 1022

/-- TBL_READ with its arguments in hand (R184). -/
def State.tableRead (table first count : Byte) (mask : BitVec 64) (s : State) : CmdOut :=
  let t := table.toNat
  if t = 0 ∨ 12 < t then s.refuse .noTable
  else if !inTable t first.toNat count.toNat mask then s.refuse .range
  else
    let rows := (List.range count.toNat).map (first.toNat + ·)
    let result := rows.flatMap fun row => s.readRow t row (selectedFields t mask)
    if maxResultBytes < result.length then s.refuse .length else s.accept result

/-! ### The table commands -/

/-- TBL_WRITE (R182). -/
def execTblWrite (src tag table first count : Byte) (mask : BitVec 64) (values : List Byte) (s : State) :
    Host.Outcome State Fault Refusal :=
  .next (s.deliver src tag 1 (State.tableWrite table first count mask values))

/-- SOCKET_TABLE_WRITE (R3): TBL_WRITE to table 2. -/
def execSocketTableWrite (src tag first count : Byte) (mask : BitVec 64) (values : List Byte) (s : State) :
    Host.Outcome State Fault Refusal :=
  .next (s.deliver src tag 1 (State.tableWrite 2 first count mask values))

/-- ZONE_TABLE_WRITE (R69): TBL_WRITE to table 3. -/
def execZoneTableWrite (src tag first count : Byte) (mask : BitVec 64) (values : List Byte) (s : State) :
    Host.Outcome State Fault Refusal :=
  .next (s.deliver src tag 1 (State.tableWrite 3 first count mask values))

/-- ORDER_WRITE (R72): TBL_WRITE to table 10. -/
def execOrderWrite (src tag first count : Byte) (mask : BitVec 64) (values : List Byte) (s : State) :
    Host.Outcome State Fault Refusal :=
  .next (s.deliver src tag 1 (State.tableWrite 10 first count mask values))

/-- STEP_STAGE_WRITE (R158): TBL_WRITE to table 12. -/
def execStepStageWrite (src tag first count : Byte) (mask : BitVec 64) (values : List Byte) (s : State) :
    Host.Outcome State Fault Refusal :=
  .next (s.deliver src tag 1 (State.tableWrite 12 first count mask values))

/-- SENSE_MODE_WRITE (R142): TBL_WRITE to table 8. -/
def execSenseModeWrite (src tag first count : Byte) (mask : BitVec 64) (values : List Byte) (s : State) :
    Host.Outcome State Fault Refusal :=
  .next (s.deliver src tag 1 (State.tableWrite 8 first count mask values))

/-- SETTINGS_WRITE (R169): TBL_WRITE to table 1. -/
def execSettingsWrite (src tag first count : Byte) (mask : BitVec 64) (values : List Byte) (s : State) :
    Host.Outcome State Fault Refusal :=
  .next (s.deliver src tag 1 (State.tableWrite 1 first count mask values))

/-- TBL_READ (R184). -/
def execTblRead (src tag table first count : Byte) (mask : BitVec 64) (s : State) : Host.Outcome State Fault Refusal :=
  .next (s.deliver src tag 2 (State.tableRead table first count mask))

end Sys2Proof.Machine
end

