-- ==== Sys2Proof/Machine/Commands.lean ====
section
/-! DEFINITION. The management commands that name no table and no single block: LOOP_LOAD (R127), ZONE_CLEAR (R85), STATUS_READ
(R185) and RUN_RESET (R186), and the dispatch of a command by its code (R180, R190). -/

namespace Sys2Proof.Machine

/-- LOOP_LOAD with its arguments in hand (R127), in the order of its checks. Bit 0 of the flags is LAST (R190). -/
def State.loopLoad (first count flags : Byte) (vectors : List Byte) (s : State) : CmdOut :=
  match parseVectors vectors with
  | none => s.refuse .length
  | some vs =>
    if count.toNat = 0 ∨ 32 < count.toNat ∨ vs.length ≠ count.toNat then s.refuse .length
    else if s.engine.state = .looping then s.refuse .busy
    else if 256 < first.toNat + count.toNat then s.refuse .range
    else if !(vs.all (·.passes s.settings.vectorCheck)) then s.refuse .range
    else
      let s := s.loadLoop first.toNat (vs.map (·.vec)) (flags.getLsbD 0)
      s.accept (flagByte s.engine.loopValid :: be 2 s.engine.loopLength)

/-- The zones a set names, in ascending order. -/
def namedZones (set : Byte) : List ZoneId := allZones.filter fun z => set.getLsbD z.val

/-- May a zone be cleared by ZONE_CLEAR (R85)? -/
def Zone.clearable (v : Zone) : Bool := decide (v.rail.state = .tripped) && decide (v.heat.state ≠ .overtemp)

/-- ZONE_CLEAR (R85). Clearing one zone decides nothing for another, so the order does not show. -/
def State.clearZones (set : Byte) (s : State) : CmdOut :=
  if 16 ≤ set.toNat then s.refuse .range
  else if s.step.state = .halted then s.refuse .halted
  else if !((namedZones set).all fun z => (s.zone z).clearable) then s.refuse .state
  else (forEach (namedZones set) (fun z s => s.clearTrip z) s).accept

/-- The four bytes STATUS_READ gives for a zone (R190). -/
def Zone.statusBytes (v : Zone) : List Byte :=
  be 1 v.rail.state.code ++ optNat 1 (v.rail.tripCause.map TripCause.code) ++ be 1 v.heat.state.code

/-- The link counts, in the order of R187. -/
def LinkCounts.bytes (c : LinkCounts) : List Byte :=
  [c.upBad, c.upMalformed, c.downDrop, c.downBad, c.upDrop, c.replyDrop].flatMap (be 2)

/-- The 53 bytes of a STATUS_READ result (R185, R190). -/
def State.statusBytes (s : State) : List Byte :=
  be 1 s.step.state.code ++ be 4 s.step.cur.number ++ be 1 s.step.stagedState.code ++
    allZones.flatMap (fun z => (s.zone z).statusBytes) ++ [flagByte s.halt.line, flagByte s.halt.own] ++
    be 1 s.engine.state.code ++ be 2 s.engine.queue.length ++ be 1 s.reports.queue.length ++
    be 2 s.reports.created ++ be 2 s.reports.sent ++ be 2 s.reports.dropped ++ s.link.counts.bytes ++ be 2 s.badWords ++
    [flagByte s.link.downPartner] ++ be 4 s.runSeconds

/-- STATUS_READ (R185). -/
def State.readStatus (s : State) : CmdOut := s.accept s.statusBytes

/-- What RUN_RESET clears in every socket (R19). -/
def Socket.runCleared (k : Socket) : Socket :=
  { k with running := 0, last := 0, history := [], reasons := {}, clean := 0, qualified := false }

/-- The two parts of RUN_RESET on the socket side (R19). No rule says whether a VERDICT record shows the reasons and the last score
before or after they are cleared (log 20). -/
inductive SocketReset where
  | verdicts
  | clear
deriving DecidableEq, Repr

def SocketReset.run (part : SocketReset) (s : State) : State :=
  match part with
  | .verdicts => forEach s.judged (fun i s => s.changeState i .ready) s
  | .clear => s.setSockets fun i => (s.socket i).runCleared

/-- Accounting's part of RUN_RESET (R19, R36, R57). -/
def State.resetAccounting (s : State) : State :=
  (forEachFreely [SocketReset.verdicts, SocketReset.clear] SocketReset.run s).setZones fun z => { s.zone z with latches := {} }

/-- Step control's part of RUN_RESET, before it reads the line (R171). -/
def State.resetStep (s : State) : State := ((s.updStep fun _ => {}).evaluateOutput).reportStep .runReset

/-- RUN_RESET (R186): the rails and the search, the heat controller, the engine, the checker, accounting and step control, which
then reads the line. -/
def State.resetRun (s : State) : CmdOut :=
  let s := s.resetRails.resetHeat.resetEngine
  let s := ((s.resetLanes fun _ => true).resetAccounting).resetStep.readLine
  s.accept (be 1 s.step.state.code)

/-! ### Dispatch by command code (R180, R190) -/

/-- A command without arguments. -/
def bare (args : List Byte) (cmd : State → CmdOut) (s : State) : CmdOut :=
  if args.isEmpty then cmd s else s.refuse .length

/-- A command whose argument is a socket set. -/
def withSockets (args : List Byte) (cmd : BitVec 32 → State → CmdOut) (s : State) : CmdOut :=
  if args.length = 4 then cmd (BitVec.ofNat 32 (natOfBytes args)) s else s.refuse .length

/-- The field-select mask in eight bytes. -/
def maskOf (bs : List Byte) : BitVec 64 := BitVec.ofNat 64 (natOfBytes bs)

/-- TBL_WRITE from its argument bytes (stage 1 of R182). -/
def tableWriteArgs (args : List Byte) (s : State) : CmdOut :=
  match args with
  | table :: first :: count :: rest =>
    if rest.length < 8 then s.refuse .length
    else State.tableWrite table first count (maskOf (rest.take 8)) (rest.drop 8) s
  | _ => s.refuse .length

/-- TBL_READ from its argument bytes; bytes beyond the mask are refused with LENGTH too (R190; log 14). -/
def tableReadArgs (args : List Byte) (s : State) : CmdOut :=
  match args with
  | table :: first :: count :: rest =>
    if rest.length ≠ 8 then s.refuse .length else State.tableRead table first count (maskOf rest) s
  | _ => s.refuse .length

/-- LOOP_LOAD from its argument bytes. -/
def loopLoadArgs (args : List Byte) (s : State) : CmdOut :=
  match args with
  | first :: count :: flags :: vectors => State.loopLoad first count flags vectors s
  | _ => s.refuse .length

/-- ZONE_CLEAR from its argument bytes. -/
def clearZonesArgs (args : List Byte) (s : State) : CmdOut :=
  match args with
  | [set] => s.clearZones set
  | _ => s.refuse .length

/-- SOCKET_ARM from its argument bytes. -/
def armSocketsArgs (args : List Byte) (s : State) : CmdOut :=
  match args with
  | [b3, b2, b1, b0, options] => State.armSockets (BitVec.ofNat 32 (natOfBytes [b3, b2, b1, b0])) options s
  | _ => s.refuse .length

/-- A command by its code and argument bytes (R180 steps 2 to 4). -/
def State.command (code : Byte) (args : List Byte) (s : State) : CmdOut :=
  match code.toNat with
  | 1 => tableWriteArgs args s
  | 2 => tableReadArgs args s
  | 3 => loopLoadArgs args s
  | 16 => bare args State.settleStage s
  | 17 => bare args State.unsettleStage s
  | 18 => bare args State.startStep s
  | 19 => bare args State.stopStep s
  | 20 => bare args State.abortStep s
  | 21 => bare args State.clearStep s
  | 32 => clearZonesArgs args s
  | 48 => armSocketsArgs args s
  | 49 => withSockets args State.releaseSockets s
  | 50 => withSockets args State.holdSockets s
  | 51 => withSockets args State.restoreSockets s
  | 52 => withSockets args State.failSockets s
  | 64 => bare args State.takeSnapshot s
  | 80 => bare args State.readStatus s
  | 90 => bare args State.resetRun s
  | _ => s.refuse .unknown

/-! ### The commands -/

/-- LOOP_LOAD (R127). -/
def execLoopLoad (src tag first count flags : Byte) (vectors : List Byte) (s : State) : Host.Outcome State Fault Refusal :=
  .next (s.deliver src tag 3 (State.loopLoad first count flags vectors))

/-- ZONE_CLEAR (R85). -/
def execZoneClear (src tag zones : Byte) (s : State) : Host.Outcome State Fault Refusal :=
  .next (s.deliver src tag 32 (State.clearZones zones))

/-- STATUS_READ (R185). -/
def execStatusRead (src tag : Byte) (s : State) : Host.Outcome State Fault Refusal :=
  .next (s.deliver src tag 80 State.readStatus)

/-- RUN_RESET (R186). -/
def execRunReset (src tag : Byte) (s : State) : Host.Outcome State Fault Refusal :=
  .next (s.deliver src tag 90 State.resetRun)

end Sys2Proof.Machine
end

