-- ==== Sys2Proof/Machine/Link.lean ====
section
/-! DEFINITION. The Oven Link (11_the_oven_link.md): routing of frames taken at the two ports, local delivery, the Downstream Forward
Queue with its transmitter, and the port states. -/

namespace Sys2Proof.Machine

/-- One of the six link counts increases by one (R187). -/
def State.countLink (s : State) (f : LinkCounts → LinkCounts) : State := s.updLink fun l => { l with counts := f l.counts }

/-- UP bad-frame (R172, R187). -/
def LinkCounts.addUpBad (c : LinkCounts) : LinkCounts := { c with upBad := satSucc Config.countTop c.upBad }

/-- UP malformed (R121, R174, R187). -/
def LinkCounts.addUpMalformed (c : LinkCounts) : LinkCounts := { c with upMalformed := satSucc Config.countTop c.upMalformed }

/-- DOWN drop (R175, R187). -/
def LinkCounts.addDownDrop (c : LinkCounts) : LinkCounts := { c with downDrop := satSucc Config.countTop c.downDrop }

/-- DOWN bad-frame (R172, R187). -/
def LinkCounts.addDownBad (c : LinkCounts) : LinkCounts := { c with downBad := satSucc Config.countTop c.downBad }

/-- UP-forward drop (R176, R187). -/
def LinkCounts.addUpDrop (c : LinkCounts) : LinkCounts := { c with upDrop := satSucc Config.countTop c.upDrop }

/-! ### Forwarding down (R175) -/

/-- A free DOWN transmitter takes the head of the queue (R175). -/
def Link.pumpDown (l : Link) : Link :=
  match l.downSending, l.downQueue with
  | none, f :: rest => { l with downSending := some f, downQueue := rest }
  | _, _ => l

/-- A frame is forwarded down (R175): without a partner it is discarded uncounted. -/
def State.forwardDown (s : State) (bytes : List Byte) : State :=
  if !s.link.downPartner then s
  else if Config.downCapacity ≤ s.link.downQueue.length then s.countLink LinkCounts.addDownDrop
  else s.updLink fun l => { l with downQueue := l.downQueue ++ [bytes] }.pumpDown

/-- The frame at the DOWN transmitter ends (R175). -/
def State.downEnded (s : State) : State := s.updLink fun l => { l with downSending := none }.pumpDown

/-- The DOWN partner state (R175): its loss discards every frame waiting and being sent, uncounted. -/
def State.downPartner (s : State) (present : Bool) : State :=
  if present then s.updLink fun l => { l with downPartner := true }
  else s.updLink fun l => { l with downPartner := false, downQueue := [], downSending := none }

/-! ### Local delivery (R174, R180) -/

/-- A MGMT frame delivered (R180). A payload too short for a command code gets LENGTH; the code byte of that reply is open
(log 6). -/
def State.deliverMgmt (s : State) (f : Frame) : State :=
  match f.payload with
  | [] =>
    ({ s with freeIndex := s.freeIndex + 1 }).answer f.src f.tag (Config.missingCode s.freeIndex) fun s => s.refuse .length
  | code :: args => s.answer f.src f.tag code (State.command code args)

/-- A VECTOR frame delivered (R121, R174). -/
def State.deliverVector (s : State) (f : Frame) : State :=
  match parseBlock f.payload with
  | some b => s.takeBlock b
  | none => s.countLink LinkCounts.addUpMalformed

/-- A frame whose DEST is the slot address or 63, for this slot (R174). An unaddressed slot delivers nothing (R173). -/
def State.deliverFrame (s : State) (f : Frame) : State :=
  if f.kind = kindVector then (if s.link.addressed then s.deliverVector f else s)
  else if f.kind = kindMgmt then (if s.link.addressed then s.deliverMgmt f else s)
  else s.countLink LinkCounts.addUpMalformed

/-- A frame that passes the check at the UP port, routed by DEST (R174). A broadcast frame is forwarded before it is delivered, so
the result of its own command already shows its DOWN drop (log 38); one that is lost both ways is counted in both counts
(log 39). -/
def State.route (s : State) (f : Frame) (bytes : List Byte) : State :=
  if f.dest = 63 then (s.forwardDown bytes).deliverFrame f
  else if s.link.addressed && f.dest == s.link.srcByte then s.deliverFrame f
  else s.forwardDown bytes

/-- A frame taken at the UP port (R172, R174). -/
def State.upFrame (s : State) (bytes : List Byte) : State :=
  match parseFrame bytes with
  | some f => s.route f bytes
  | none => s.countLink LinkCounts.addUpBad

/-- A frame taken at the DOWN port (R172, R176). -/
def State.downFrame (s : State) (bytes : List Byte) : State :=
  match parseFrame bytes with
  | some _ =>
    if Config.upCapacity ≤ s.link.upQueue.length then s.countLink LinkCounts.addUpDrop
    else s.updLink fun l => { l with upQueue := l.upQueue ++ [bytes] }
  | none => s.countLink LinkCounts.addDownBad

/-- The frame at the UP transmitter ends (R177). -/
def State.upEnded (s : State) : State := s.updLink fun l => { l with upSending := none }

/-- The UP receiver state (R177): its loss loses the frame being sent. -/
def State.upReceiver (s : State) (present : Bool) : State :=
  if present then s.updLink fun l => { l with upReceiver := true }
  else s.updLink fun l => { l with upReceiver := false, upSending := none }

/-! ### The frame that carries a management command (R190) -/

/-- The payload of the MGMT frame that carries a management command: its code, then its arguments; none for the other rows. -/
def commandPayload : Instr → Option (List Byte)
  | .tblWrite _ _ table first count mask values => some ([1, table, first, count] ++ be 8 mask.toNat ++ values)
  | .socketTableWrite _ _ first count mask values => some ([1, 2, first, count] ++ be 8 mask.toNat ++ values)
  | .zoneTableWrite _ _ first count mask values => some ([1, 3, first, count] ++ be 8 mask.toNat ++ values)
  | .orderWrite _ _ first count mask values => some ([1, 10, first, count] ++ be 8 mask.toNat ++ values)
  | .stepStageWrite _ _ first count mask values => some ([1, 12, first, count] ++ be 8 mask.toNat ++ values)
  | .senseModeWrite _ _ first count mask values => some ([1, 8, first, count] ++ be 8 mask.toNat ++ values)
  | .settingsWrite _ _ first count mask values => some ([1, 1, first, count] ++ be 8 mask.toNat ++ values)
  | .tblRead _ _ table first count mask => some ([2, table, first, count] ++ be 8 mask.toNat)
  | .loopLoad _ _ first count flags vectors => some ([3, first, count, flags] ++ vectors)
  | .stageSettle .. => some [16]
  | .stageUnsettle .. => some [17]
  | .stepStart .. => some [18]
  | .stepStop .. => some [19]
  | .stepAbort .. => some [20]
  | .stepClear .. => some [21]
  | .zoneClear _ _ zones => some [32, zones]
  | .socketArm _ _ sockets options => some (48 :: be 4 sockets.toNat ++ [options])
  | .socketRelease _ _ sockets => some (49 :: be 4 sockets.toNat)
  | .socketHold _ _ sockets => some (50 :: be 4 sockets.toNat)
  | .socketRestore _ _ sockets => some (51 :: be 4 sockets.toNat)
  | .socketFail _ _ sockets => some (52 :: be 4 sockets.toNat)
  | .snapshot .. => some [64]
  | .statusRead .. => some [80]
  | .runReset .. => some [90]
  | _ => none

/-- The SRC and TAG of the MGMT frame that carries a management command. -/
def commandEnvelope : Instr → Byte × Byte
  | .tblWrite src tag .. | .socketTableWrite src tag .. | .zoneTableWrite src tag .. | .orderWrite src tag ..
  | .stepStageWrite src tag .. | .senseModeWrite src tag .. | .settingsWrite src tag .. | .tblRead src tag ..
  | .loopLoad src tag .. | .stageSettle src tag | .stageUnsettle src tag | .stepStart src tag | .stepStop src tag
  | .stepAbort src tag | .stepClear src tag | .zoneClear src tag _ | .socketArm src tag .. | .socketRelease src tag _
  | .socketHold src tag _ | .socketRestore src tag _ | .socketFail src tag _ | .snapshot src tag | .statusRead src tag
  | .runReset src tag => (src, tag)
  | _ => (0, 0)

/-- The MGMT frame that carries a management command to a slot. -/
def commandFrame (dest : Byte) (c : Instr) : Option Frame :=
  (commandPayload c).map fun payload =>
    { dest, src := (commandEnvelope c).1, kind := kindMgmt, tag := (commandEnvelope c).2, payload }

/-! ### The events of the link -/

/-- UP_FRAME_TAKEN (R174). -/
def execUpFrameTaken (bytes : List Byte) (s : State) : Host.Outcome State Fault Refusal := .next (s.upFrame bytes).arbitrate

/-- DOWN_FRAME_TAKEN (R176). -/
def execDownFrameTaken (bytes : List Byte) (s : State) : Host.Outcome State Fault Refusal := .next (s.downFrame bytes).arbitrate

/-- DOWN_TRANSMIT_END (R175). -/
def execDownTransmitEnd (s : State) : Host.Outcome State Fault Refusal := .next s.downEnded

/-- UP_TRANSMIT_END (R177). -/
def execUpTransmitEnd (s : State) : Host.Outcome State Fault Refusal := .next s.upEnded.arbitrate

/-- DOWN_PARTNER_CHANGE (R175). -/
def execDownPartnerChange (present : Bool) (s : State) : Host.Outcome State Fault Refusal := .next (s.downPartner present)

/-- UP_RECEIVER_CHANGE (R177). -/
def execUpReceiverChange (present : Bool) (s : State) : Host.Outcome State Fault Refusal :=
  .next (s.upReceiver present).arbitrate

end Sys2Proof.Machine
end

