-- ==== Sys2Proof/Machine/Dispatch.lean ====
section
/-! DEFINITION. The meaning of each command, one arm per constructor. -/

namespace Sys2Proof.Machine

def exec (i : Instr) (s : State) : Host.Outcome State Fault Refusal :=
  match i with
  | .powerOnReset addr othersPull downPartner upReceiver => Sys2Proof.Machine.execPowerOnReset addr othersPull downPartner upReceiver s
  | .upFrameTaken bytes => Sys2Proof.Machine.execUpFrameTaken bytes s
  | .downFrameTaken bytes => Sys2Proof.Machine.execDownFrameTaken bytes s
  | .downTransmitEnd => Sys2Proof.Machine.execDownTransmitEnd s
  | .upTransmitEnd => Sys2Proof.Machine.execUpTransmitEnd s
  | .downPartnerChange present => Sys2Proof.Machine.execDownPartnerChange present s
  | .upReceiverChange present => Sys2Proof.Machine.execUpReceiverChange present s
  | .tblWrite src tag table first count mask values => Sys2Proof.Machine.execTblWrite src tag table first count mask values s
  | .socketTableWrite src tag first count mask values => Sys2Proof.Machine.execSocketTableWrite src tag first count mask values s
  | .zoneTableWrite src tag first count mask values => Sys2Proof.Machine.execZoneTableWrite src tag first count mask values s
  | .orderWrite src tag first count mask values => Sys2Proof.Machine.execOrderWrite src tag first count mask values s
  | .stepStageWrite src tag first count mask values => Sys2Proof.Machine.execStepStageWrite src tag first count mask values s
  | .senseModeWrite src tag first count mask values => Sys2Proof.Machine.execSenseModeWrite src tag first count mask values s
  | .settingsWrite src tag first count mask values => Sys2Proof.Machine.execSettingsWrite src tag first count mask values s
  | .tblRead src tag table first count mask => Sys2Proof.Machine.execTblRead src tag table first count mask s
  | .loopLoad src tag first count flags vectors => Sys2Proof.Machine.execLoopLoad src tag first count flags vectors s
  | .stageSettle src tag => Sys2Proof.Machine.execStageSettle src tag s
  | .stageUnsettle src tag => Sys2Proof.Machine.execStageUnsettle src tag s
  | .stepStart src tag => Sys2Proof.Machine.execStepStart src tag s
  | .stepStop src tag => Sys2Proof.Machine.execStepStop src tag s
  | .stepAbort src tag => Sys2Proof.Machine.execStepAbort src tag s
  | .stepClear src tag => Sys2Proof.Machine.execStepClear src tag s
  | .zoneClear src tag zones => Sys2Proof.Machine.execZoneClear src tag zones s
  | .socketArm src tag sockets options => Sys2Proof.Machine.execSocketArm src tag sockets options s
  | .socketRelease src tag sockets => Sys2Proof.Machine.execSocketRelease src tag sockets s
  | .socketHold src tag sockets => Sys2Proof.Machine.execSocketHold src tag sockets s
  | .socketRestore src tag sockets => Sys2Proof.Machine.execSocketRestore src tag sockets s
  | .socketFail src tag sockets => Sys2Proof.Machine.execSocketFail src tag sockets s
  | .snapshot src tag => Sys2Proof.Machine.execSnapshot src tag s
  | .statusRead src tag => Sys2Proof.Machine.execStatusRead src tag s
  | .runReset src tag => Sys2Proof.Machine.execRunReset src tag s
  | .sampleWord word => Sys2Proof.Machine.execSampleWord word s
  | .staleTimerExpiry zone quantity => Sys2Proof.Machine.execStaleTimerExpiry zone quantity s
  | .intervalExpiry => Sys2Proof.Machine.execIntervalExpiry s
  | .rampStepExpiry zone => Sys2Proof.Machine.execRampStepExpiry zone s
  | .confirmTimerExpiry zone => Sys2Proof.Machine.execConfirmTimerExpiry zone s
  | .settleTimerExpiry zone => Sys2Proof.Machine.execSettleTimerExpiry zone s
  | .soakTimerExpiry zone => Sys2Proof.Machine.execSoakTimerExpiry zone s
  | .graceTimerExpiry zone => Sys2Proof.Machine.execGraceTimerExpiry zone s
  | .vectorCycle sense => Sys2Proof.Machine.execVectorCycle sense s
  | .vectorBoundary => Sys2Proof.Machine.execVectorBoundary s
  | .prbsWindowEnd lane => Sys2Proof.Machine.execPrbsWindowEnd lane s
  | .toggleWindowEnd lane => Sys2Proof.Machine.execToggleWindowEnd lane s
  | .gateExpiry socket => Sys2Proof.Machine.execGateExpiry socket s
  | .haltLineAsserted othersPull => Sys2Proof.Machine.execHaltLineAsserted othersPull s
  | .haltLineReleased => Sys2Proof.Machine.execHaltLineReleased s
  | .freqLaneRisingEdge socket => Sys2Proof.Machine.execFreqLaneRisingEdge socket s

end Sys2Proof.Machine
end

