-- ==== Sys2Proof/Safety.lean ====
section
/-! DEFINITION. What the spec promises of every state a run reaches: one predicate for each promise, in the terms the statements
use. Each is meant to be kept by every step from every state that has it, alone or with the ones its docstring names. -/

namespace Sys2Proof.Machine

/-- A management command delivered now is executed: the slot is addressed (R173) and the Reply Queue has room (R179). -/
def State.Ready (s : State) : Prop := s.link.addressed = true ∧ s.link.replies.length < 4

/-- The state after a command that leaves `u` is answered: the reply joins the tail of the Reply Queue (R179), and the arbiter
makes its choice (R177). -/
def State.replied (u : State) (src tag code : Byte) (status : Status) (result : List Byte) : State :=
  (u.updLink fun l => { l with replies := l.replies ++ [{ dest := src, tag, code, status, result }] }).arbitrate

/-- No window end of the checker is due (R147, R149). -/
def State.NoWindowDue (s : State) : Prop :=
  ∀ n : LaneId, (s.lane n).prbsWindowDue = false ∧ (s.lane n).toggleWindowDue = false

/-- What an accepted TBL_WRITE writes to row `n`: field numbers and values, nothing where it does not name the row. -/
def rowWriteAt (rows : List (Nat × RowWrite)) (n : Nat) : RowWrite := (rows.lookup n).getD []

/-- The commands after which the step number may return to 0 (R160): power-on reset, RUN_RESET, and a frame that may carry it. -/
def mayRestart : Instr → Bool
  | .powerOnReset .. | .runReset .. | .upFrameTaken _ => true
  | _ => false

/-- The VERDICT records of the change from `s` to `u` (R17): one for each socket whose state differs, in ascending order, with the
cause on entry to FAILED and the other fields as `u` has them. -/
def State.verdicts (s u : State) : List Record :=
  allSockets.filterMap fun i =>
    let old := (s.socket i).state
    let k := u.socket i
    if old = k.state then none
    else
      some (.verdict i old k.state (if k.state = .failed then k.cause else none) k.reasons u.runSeconds (k.credit / 256) k.last)

/-- The Report Queue and its counts after these records, and no other, are created in turn under their enables (R50, R51, R53). -/
def State.created (s : State) (records : List Record) : Reports := (records.filter s.settings.enables).foldl Reports.create s.reports

/-- The engine after a promotion from pattern source `old` to `new` (R128, R129, R131). Out of STOPPED it starts, and its first
vector cycle has begun: the generators have advanced once from all ones and the clock phase is 1 (R135). Playing, it takes the
promotion at its next boundary; STARVED, it takes the period at once, and a source that changes makes it stop or choose. The
first vector is the queue head, or loop index 0, or none. -/
def Engine.promoted (e : Engine) (old new : PatternSource) (period : Nat) : Engine :=
  let chosen : EngineState :=
    if (new = .stream ∨ new = .streamLoop) ∧ e.queue ≠ [] then .streaming
    else if (new = .streamLoop ∨ new = .loop) ∧ e.loopValid = true then .looping
    else .starved
  match e.state with
  | .stopped =>
    if new = .none then e
    else
      { e with
        state := chosen, loopIndex := 0, cycle := if chosen = .starved then 0 else 1, period
        lastDrive := match chosen with
          | .streaming => e.queue.head?.elim 0 fun q => q.vec.drive
          | .looping => (e.store.get 0).drive
          | .starved | .stopped => e.lastDrive
        prbsA := prbsANext (BitVec.allOnes 9), prbsB := prbsBNext (BitVec.allOnes 15), clockPhase := true }
  | .streaming | .looping => e
  | .starved =>
    if new = .none then { e with state := .stopped, loopIndex := 0, cycle := 0, period }
    else if new = old ∨ chosen = .starved then { e with period }
    else { e with state := chosen, loopIndex := 0, cycle := 0, period }

/-- What a promotion from `s` to `u` makes of the rail of zone `z`, in the cases that do not depend on the order in which the zones
take their goals (log 4): an unchanged goal; power-up and its wait (R73, R74); a redirect (R77; at once in CONFIRMING where the
setpoint stands on the goal, log 29); power-down and its wait (R78); and a goal recorded in OFF and TRIPPED. -/
def State.RailPromoted (s u : State) (z : ZoneId) : Prop :=
  let r := (s.zone z).rail
  let v := (u.zone z).rail
  let goal := v.goal
  let steady := fun w : ZoneId => (s.zone w).rail.state = .hold ∧ (u.zone w).rail.goal = (s.zone w).rail.goal
  (goal = r.goal → r.waiting = .none → v = r) ∧
  (goal ≠ r.goal →
    (r.state = .tripped → v = { r with goal }) ∧
    (r.state = .off → goal = none → v = { r with goal, waiting := .none }) ∧
    (r.state = .off → goal ≠ none →
      ((∀ w ∈ s.ordersBefore z, (u.zone w).rail.goal = none ∨ steady w) →
        v = { r with goal, state := .ramping, setpoint := 0, rampTimer := true, waiting := .none } ∧
          (u.zone z).values.voltageTimer = true ∧ (u.zone z).values.currentTimer = true) ∧
      ((∃ w ∈ s.ordersBefore z, (u.zone w).rail.goal ≠ none ∧ (s.zone w).rail.state ≠ .hold) →
        v = { r with goal, waiting := .powerUp })) ∧
    (r.state.powered = true → goal ≠ none →
      let arrived := decide (goal = some r.setpoint)
      v = { r with
        goal
        state := if arrived then .confirming else .ramping
        rampTimer := !arrived
        confirmTimer := arrived
        side := if arrived then none else r.side
        oowCount := if r.state = .hold then 0 else r.oowCount
        waiting := .none } ∧
      (u.zone z).search = {} ∧ (r.state = .hold → (u.zone z).latches.rail = true)) ∧
    (r.state.powered = true → goal = none →
      (z ∉ s.order → r.setpoint ≠ 0 →
        v = { r with goal, state := .ramping, rampTimer := true, confirmTimer := false, waiting := .none } ∧
          (u.zone z).search = {} ∧ (r.state = .hold → (u.zone z).latches.rail = true)) ∧
      ((∃ w ∈ s.ordersAfter z, (s.zone w).rail.state.powered = true ∧ (u.zone w).rail.goal ≠ none) →
        v = { r with goal, waiting := .powerDown, rampTimer := false })))

/-- The commands that may set a socket's credit to 0 (R34): power-on reset, SOCKET_ARM with CLEAR, and a frame that may carry
it. -/
def mayClearCredit : Instr → Bool
  | .powerOnReset .. | .upFrameTaken _ => true
  | .socketArm _ _ _ options => options.getLsbD 0
  | _ => false

/-- The commands that may write table `n` (R191): TBL_WRITE to it, power-on reset, and a frame that may carry a TBL_WRITE. -/
def mayWrite (n : Nat) : Instr → Bool
  | .powerOnReset .. | .upFrameTaken _ => true
  | .tblWrite _ _ table .. => table.toNat == n
  | .settingsWrite .. => n == 1
  | .socketTableWrite .. => n == 2
  | .zoneTableWrite .. => n == 3
  | .senseModeWrite .. => n == 8
  | .orderWrite .. => n == 10
  | .stepStageWrite .. => n == 12
  | _ => false

/-- The commands that may change the Loop Store (R126, R127): LOOP_LOAD, power-on reset, and a frame that may carry a LOOP_LOAD. -/
def mayLoadLoop : Instr → Bool
  | .powerOnReset .. | .upFrameTaken _ | .loopLoad .. => true
  | _ => false

/-- The five queues hold no more than their sizes (R51, R125, R175, R176, R179). -/
def State.QueuesBounded (s : State) : Prop :=
  s.reports.queue.length ≤ 64 ∧ s.link.replies.length ≤ 4 ∧ s.link.downQueue.length ≤ 4 ∧ s.link.upQueue.length ≤ 8 ∧
    s.engine.queue.length ≤ 512

/-- Created is sent plus held plus dropped, while the created count stands below its top (R53). -/
def State.ReportsBalance (s : State) : Prop :=
  s.reports.created < 65535 → s.reports.created = s.reports.sent + s.reports.queue.length + s.reports.dropped

/-- Every switch is as the switch rule gives it (R87). -/
def State.SwitchesFollow (s : State) : Prop := ∀ i : SocketId, (s.socket i).switch = s.switchRule i

/-- The own output is asserted exactly while its enable is yes and a source holds (R166). -/
def State.OutputFollows (s : State) : Prop := s.halt.own = (s.settings.haltOut && s.anyHaltSource)

/-- No socket with a nonzero target and credit at or above 256 times it is armed (R35). -/
def State.TargetsKept (s : State) : Prop :=
  ∀ i : SocketId, (s.socket i).target ≠ 0 → (s.socket i).target * 256 ≤ (s.socket i).credit → (s.socket i).state.armed = false

/-- The ranges of a socket's record: credit (R34), fraction (R33), scores (R37) and history (R40). -/
def Socket.InRange (k : Socket) : Prop :=
  k.credit ≤ 4294967295 ∧ k.fraction ≤ 255 ∧ k.running ≤ 65535 ∧ k.last ≤ 65535 ∧ k.history.length ≤ 8

/-- Every socket's record lies in its ranges. -/
def State.SocketsInRange (s : State) : Prop := ∀ i : SocketId, (s.socket i).InRange

/-- The states and reasons of an armed socket hang together: RUNNING with no reason and SUSPECT with some (section 1.4), STUCK and
LOCK exactly while a lane of the socket is stuck or stands in lost lock (R12, R13), and the clean count 0 in every socket without
SCORE (R44). -/
def State.ReasonsFollow (s : State) : Prop :=
  ∀ i : SocketId,
    let k := s.socket i
    let p := s.lane (primaryLane i)
    let q := s.lane (secondaryLane i)
    (k.state = .running → k.reasons = {}) ∧ (k.state = .suspect → k.reasons ≠ {}) ∧
    (k.state.armed = true →
      k.reasons.stuck = (p.watch.stuck || q.watch.stuck) ∧ k.reasons.lock = (p.prbs.lockLost || q.prbs.lockLost)) ∧
    (k.reasons.score = false → k.clean = 0)

/-- A rail record and its search record hang together: a trip cause exactly in TRIPPED (R70), a HALT source only in TRIPPED for
OVERCURRENT (R86), a wait for power-up only in OFF and one for power-down only while powered (R73, R78), the search record IDLE
exactly while the rail is not SEARCHING (R91), no setpoint in OFF and TRIPPED (R78, R84), and the ramp and confirm timers only in
their states (R75, R79). -/
def Zone.RailConsistent (v : Zone) : Prop :=
  (v.rail.tripCause.isSome = decide (v.rail.state = .tripped)) ∧
  (v.rail.haltSource = true → v.rail.state = .tripped ∧ v.rail.tripCause = some .overcurrent) ∧
  (v.rail.waiting = .powerUp → v.rail.state = .off) ∧
  (v.rail.waiting = .powerDown → v.rail.state.powered = true) ∧
  ((v.search.phase = .idle) = (v.rail.state ≠ .searching)) ∧
  (v.search.phase = .idle → v.search = {}) ∧
  (v.rail.state.powered = false → v.rail.setpoint = 0) ∧
  (v.rail.rampTimer = true → v.rail.state = .ramping) ∧
  (v.rail.confirmTimer = decide (v.rail.state = .confirming))

/-- Every zone's rail and search records hang together. -/
def State.RailsConsistent (s : State) : Prop := ∀ z : ZoneId, (s.zone z).RailConsistent

/-- A thermal record hangs together: OFF is the reset record (R108), the other states but OVERTEMP have a target (R107), the soak
timer runs exactly in SOAKING (R109) and the grace timer exactly in EXCURSION (R111), and OVERTEMP and BLIND drive no heat (R112,
R114). -/
def Heat.Consistent (h : Heat) : Prop :=
  (h.state = .off → h = {}) ∧
  (h.state.lawful = true ∨ h.state = .blind → h.target.isSome = true) ∧
  (h.soak.isSome = decide (h.state = .soaking)) ∧
  (h.grace.isSome = decide (h.state = .excursion)) ∧
  (h.state = .overtemp ∨ h.state = .blind → h.duty = 0)

/-- Every zone's thermal record hangs together. -/
def State.HeatConsistent (s : State) : Prop := ∀ z : ZoneId, (s.zone z).heat.Consistent

/-- A value present has its timer running, and a watched value's timer runs (R65 to R67). -/
def Zone.Watched (v : Zone) : Prop :=
  (v.values.voltage.isSome = true → v.values.voltageTimer = true) ∧
  (v.values.current.isSome = true → v.values.currentTimer = true) ∧
  (v.values.temperature.isSome = true → v.values.temperatureTimer = true) ∧
  (v.rail.state.powered = true → v.values.voltageTimer = true ∧ v.values.currentTimer = true) ∧
  (v.heat.state ≠ .off → v.values.temperatureTimer = true)

/-- Every zone's stale timers run as its watches require. -/
def State.TimersWatched (s : State) : Prop := ∀ z : ZoneId, (s.zone z).Watched

/-- In HALTED every rail is TRIPPED (R167), and while the line is asserted with the input enabled step control is HALTED, once
the assertion has been taken (R166). -/
def State.HaltHolds (s : State) : Prop :=
  (s.step.state = .halted → ∀ z : ZoneId, (s.zone z).rail.state = .tripped) ∧
  (s.halt.line = true → s.settings.haltIn = true → s.halt.edge = true ∨ s.step.state = .halted)

/-- A free UP transmitter leaves nothing waiting (R177), a free DOWN transmitter leaves nothing waiting, and without a DOWN
partner nothing waits or is sent (R175). -/
def State.TransmittersServe (s : State) : Prop :=
  (s.link.upReceiver = true → s.link.upSending = none → s.link.upQueue = [] ∧ s.localWaits = false) ∧
  (s.link.downSending = none → s.link.downQueue = []) ∧
  (s.link.downPartner = false → s.link.downQueue = [] ∧ s.link.downSending = none) ∧
  (s.link.upReceiver = false → s.link.upSending = none)

/-- The conditions of accrual hold for every qualified socket, and no latch of its zone is set (R22, R25). -/
def State.QualifiedHold (s : State) : Prop :=
  ∀ i : SocketId, (s.socket i).qualified = true →
    s.meetsConditions i = true ∧ (s.zone (s.socket i).zone).latches = {}

/-- The staged step is EMPTY only with every written flag clear (R157), and the engine is STOPPED in IDLE, STOPPING and HALTED
(the table of 10_step_control.md), where the targets and goals of IDLE and STOPPING are absent (R157, R165). -/
def State.StepConsistent (s : State) : Prop :=
  (s.step.stagedState = .empty → s.step.staged = {}) ∧
  (s.step.state = .idle ∨ s.step.state = .stopping ∨ s.step.state = .halted → s.engine.state = .stopped) ∧
  (s.step.state = .idle ∨ s.step.state = .stopping →
    ∀ z : ZoneId, s.step.cur.railTarget.get z = none ∧ s.step.cur.tempTarget.get z = none ∧ (s.zone z).rail.goal = none ∧
      (s.zone z).heat.target = none)

/-- Is the socket's secondary lane in FREQ mode? -/
def State.freqLane (s : State) (i : SocketId) : Bool := decide ((s.lane (secondaryLane i)).row.mode = .freq)

/-- A lane's frequency part: a gate runs exactly on a secondary lane in FREQ mode whose socket's switch is on (R150), a lane in
another mode has monitor NONE and no last count (R141), and no primary lane is in FREQ mode (R140). -/
def State.GatesRun (s : State) : Prop :=
  (∀ i : SocketId, (s.lane (primaryLane i)).row.mode ≠ .freq) ∧
  (∀ i : SocketId, (s.lane (secondaryLane i)).gate.raw.isSome = (s.freqLane i && (s.socket i).switch)) ∧
  (∀ n : LaneId, (s.lane n).row.mode ≠ .freq → (s.lane n).gate = {}) ∧
  (∀ i : SocketId, (s.socket i).estimate.isSome = true →
    s.freqLane i = true ∧ (s.socket i).switch = true ∧ (s.lane (secondaryLane i)).gate.monitor = .valid)

/-- STREAMING plays a vector of the queue, LOOPING one of a valid loop (R128), and no more cycles of it have begun than it
repeats (R129). -/
def State.EngineConsistent (s : State) : Prop :=
  (s.engine.state = .streaming → s.engine.queue ≠ []) ∧
  (s.engine.state = .looping → s.engine.loopValid = true ∧ s.engine.loopIndex < s.engine.loopLength) ∧
  (1 ≤ s.engine.loopLength ∧ s.engine.loopLength ≤ 256)

end Sys2Proof.Machine
end

