-- ==== Sys2Proof/Certificates/Slice0/Obligations.lean ====
section
/-! DEFINITION. The statements about the model, for the provers. Each docstring names the rules it formalises, and says so where a
clause rests on a choice of the model. -/

open Sys2Proof Sys2Proof.Machine

/-! ### The queue of commands -/

/-- A step takes the command at the front of the queue and is exactly that command's meaning on the state with the rest of
the queue. With no command waiting a step changes nothing, by the model's choice (log 1). -/
def Obligations.StepTakesFrontCommand : Prop :=
  (∀ (c : Instr) (rest : List Instr) (s : State), s.pending = c :: rest → step s = exec c { s with pending := rest }) ∧
    ∀ s : State, s.pending = [] → step s = .next s

/-- Every command answers a next state in every state, and none changes the queue of waiting commands. -/
def Obligations.CommandsAnswerAndLeaveQueue : Prop :=
  ∀ (c : Instr) (s : State), ∃ t : State, exec c s = .next t ∧ t.pending = s.pending

/-! ### Reset -/

/-- R18: every SOCKET row at power-on reset. -/
def Obligations.ResetSocketRecords : Prop :=
  ∀ i : SocketId,
    let k := State.reset.socket i
    (k.state = .vacant ∧ k.switch = false) ∧
    (k.populated = false ∧ k.zone = 0 ∧ k.policy = 0 ∧ k.target = 0 ∧ k.tjOffset = 0 ∧ k.tjSlope = 0) ∧
    (k.hold = none ∧ k.reasons = {}) ∧ (k.credit = 0 ∧ k.fraction = 0) ∧
    (k.running = 0 ∧ k.last = 0 ∧ k.history = [] ∧ k.clean = 0) ∧ (k.cause = none ∧ k.estimate = none) ∧
    (k.firstFail = none ∧ k.qualified = false)

/-- POWER_ON_RESET: the reset values with the pins as read, and with the HALT line asserted the entry to HALTED that trips
every zone with cause HALT and creates one STEP and four ZONE records (R170, R173). The queue of commands and the counter of
free choices stand by the model's choice (log 33). -/
def Obligations.PowerOnResetTakesPins : Prop :=
  ∀ (addr : BitVec 6) (dn up : Bool) (s : State),
    exec (.powerOnReset addr false dn up) s =
      .next { State.reset with
        link := { address := addr, downPartner := dn, upReceiver := up }
        pending := s.pending
        freeIndex := s.freeIndex } ∧
    ∃ t : State, exec (.powerOnReset addr true dn up) s = .next t ∧
      t.step = { state := .halted } ∧ t.halt = { others := true } ∧ t.reports.created = 5 ∧ t.link.address = addr ∧
      t.engine = State.reset.engine ∧ t.sockets = State.reset.sockets ∧ t.pending = s.pending ∧
      ∀ z : ZoneId, (t.zone z).rail = { state := .tripped, tripCause := some .halt } ∧ (t.zone z).heat = {}

/-- The reset state has every property of Sys2Proof/Safety.lean. -/
def Obligations.ResetStateIsSound : Prop :=
  State.reset.QueuesBounded ∧ State.reset.ReportsBalance ∧ State.reset.SwitchesFollow ∧ State.reset.OutputFollows ∧
    State.reset.TargetsKept ∧ State.reset.SocketsInRange ∧ State.reset.RailsConsistent ∧ State.reset.HeatConsistent ∧
    State.reset.TimersWatched ∧ State.reset.HaltHolds ∧ State.reset.TransmittersServe ∧ State.reset.QualifiedHold ∧
    State.reset.StepConsistent ∧ State.reset.GatesRun ∧ State.reset.EngineConsistent ∧ State.reset.ReasonsFollow

/-! ### What every step keeps -/

/-- Every step keeps the five queues within their sizes (R51, R125, R175, R176, R179) and the balance of the three report
counts (R53). -/
def Obligations.StepKeepsQueueCounts : Prop :=
  ∀ s t : State, step s = .next t →
    (s.QueuesBounded → t.QueuesBounded) ∧ (s.ReportsBalance → t.ReportsBalance)

/-- Every step keeps every switch as the switch rule gives it (R87), the own HALT output asserted exactly while its enable is
yes and a source holds (R166), and frequency gates running exactly where R150 runs them, with the lane fields of R140 and
R141 consistent. -/
def Obligations.StepKeepsDerivedState : Prop :=
  ∀ s t : State, step s = .next t →
    (s.SwitchesFollow → t.SwitchesFollow) ∧ (s.OutputFollows → t.OutputFollows) ∧ (s.GatesRun → t.GatesRun)

/-- Every step keeps sockets whose credit has reached a nonzero target out of the armed states, with every socket's record in
its ranges (R33 to R35, R37, R40). It keeps an armed socket SUSPECT exactly while its reason set is not empty, with STUCK and
LOCK in step with its lanes (section 1.4 of 01_sockets.md, R12, R13) and a clean count only under SCORE (R44). -/
def Obligations.StepKeepsSocketBounds : Prop :=
  ∀ s t : State, step s = .next t →
    (s.TargetsKept → s.SocketsInRange → t.TargetsKept ∧ t.SocketsInRange) ∧ (s.ReasonsFollow → t.ReasonsFollow)

/-- Every step keeps rail records and search records consistent (R70, R73, R75, R78, R79, R86, R91), and thermal records
(R107 to R112, R114). -/
def Obligations.StepKeepsZoneRecordsConsistent : Prop :=
  ∀ s t : State, step s = .next t →
    (s.RailsConsistent → t.RailsConsistent) ∧ (s.HeatConsistent → t.HeatConsistent)

/-- Every step keeps a running stale timer for every value present and every value watched (R65 to R67). -/
def Obligations.StepKeepsTimersWatched : Prop :=
  ∀ s t : State, s.RailsConsistent → s.HeatConsistent → s.TimersWatched → step s = .next t → t.TimersWatched

/-- Every step keeps every rail TRIPPED in HALTED, and HALTED in force while the line is asserted with the input enabled,
once the assertion is taken (R166, R167); the engine STOPPED in IDLE, STOPPING and HALTED, the targets of IDLE and STOPPING
absent, and an EMPTY staged step without written flags (R157, R165). -/
def Obligations.StepKeepsStepControl : Prop :=
  ∀ s t : State, s.RailsConsistent → s.HeatConsistent → step s = .next t →
    (s.HaltHolds → t.HaltHolds) ∧ (s.StepConsistent → t.StepConsistent)

/-- Every step leaves no frame, reply or record waiting for a free transmitter (R175, R177). -/
def Obligations.StepKeepsTransmittersServing : Prop :=
  ∀ s t : State, s.TransmittersServe → step s = .next t → t.TransmittersServe

/-- Every step keeps a vector in play whenever the engine is STREAMING or LOOPING (R128), and then the conditions of accrual
in force for every qualified socket, with its zone's latches clear (R22, R25): every way in which they can fail clears the
flag. -/
def Obligations.StepKeepsQualificationEarned : Prop :=
  ∀ s t : State, s.EngineConsistent → step s = .next t →
    t.EngineConsistent ∧ (s.RailsConsistent → s.HeatConsistent → s.QualifiedHold → t.QualifiedHold)

/-! ### Rules of the whole part -/

/-- The step number goes up by one at a promotion of a staged step that is not EMPTY, returns to 0 only at power-on reset or
RUN_RESET, and otherwise stands (R160). -/
def Obligations.StepNumberMovesByPromotion : Prop :=
  ∀ (c : Instr) (s t : State), exec c s = .next t →
    t.step.cur.number = s.step.cur.number ∨
    (t.step.cur.number = s.step.cur.number + 1 ∧ s.step.cur.number < 4294967295 ∧ s.step.stagedState ≠ .empty ∧
      t.step.state = .running) ∨
    (t.step.cur.number = 0 ∧ mayRestart c = true)

/-- Credit rises only at an interval expiry, and only for a qualified socket that meets the conditions of accrual; it falls
only to 0, at power-on reset or SOCKET_ARM with CLEAR (R25, R34). -/
def Obligations.CreditMovesAsEarned : Prop :=
  ∀ (c : Instr) (s t : State) (i : SocketId), s.SocketsInRange → exec c s = .next t →
    let a := s.socket i
    let b := t.socket i
    (b.credit = a.credit ∧ b.fraction = a.fraction) ∨
    (c = .intervalExpiry ∧ a.qualified = true ∧ s.meetsConditions i = true ∧ a.credit ≤ b.credit) ∨
    (b.credit = 0 ∧ b.fraction = 0 ∧ mayClearCredit c = true)

/-- The frame of every command over what the host configures: each table's writable fields change only by a write to that
table, by power-on reset or by a frame that may carry such a write; the Loop Store only by LOOP_LOAD; the port states and the
address only by their events. Run seconds counts interval expiries (R21) and bad-word counts sample words (R58). The transfer
number goes up by one at each interval expiry in AUTO mode, in MANUAL mode by at most one and only at SNAPSHOT or a frame
that may carry it, to 0 at power-on reset, and otherwise stands (R38, R39, R41). -/
def Obligations.ConfigurationMovesByItsWrites : Prop :=
  ∀ (c : Instr) (s t : State), exec c s = .next t →
    (mayWrite 1 c = false → t.settings = s.settings) ∧
    (mayWrite 2 c = false → ∀ i : SocketId,
      let a := s.socket i
      let b := t.socket i
      b.populated = a.populated ∧ b.zone = a.zone ∧ b.policy = a.policy ∧ b.target = a.target ∧
        b.tjOffset = a.tjOffset ∧ b.tjSlope = a.tjSlope) ∧
    (mayWrite 3 c = false → ∀ z : ZoneId, (t.zone z).cfg = (s.zone z).cfg) ∧
    (mayWrite 4 c = false → t.policies = s.policies) ∧ (mayWrite 5 c = false → t.accel = s.accel) ∧
    (mayWrite 6 c = false → t.volt = s.volt) ∧ (mayWrite 7 c = false → t.drive = s.drive) ∧
    (mayWrite 8 c = false → ∀ n : LaneId, (t.lane n).row = (s.lane n).row) ∧
    (mayWrite 9 c = false → ∀ m : Fin 16, t.channels.get m = { s.channels.get m with lastRaw := (t.channels.get m).lastRaw }) ∧
    (mayWrite 10 c = false → t.order = s.order) ∧
    (mayLoadLoop c = false → t.engine.store = s.engine.store ∧ t.engine.loopLength = s.engine.loopLength ∧
      t.engine.loopValid = s.engine.loopValid) ∧
    ((∀ addr o d u, c ≠ .powerOnReset addr o d u) →
      t.link.address = s.link.address ∧ ((∀ p, c ≠ .downPartnerChange p) → t.link.downPartner = s.link.downPartner) ∧
        ((∀ p, c ≠ .upReceiverChange p) → t.link.upReceiver = s.link.upReceiver)) ∧
    (t.runSeconds =
      match c with
      | .intervalExpiry => min 4294967295 (s.runSeconds + 1)
      | .powerOnReset .. => 0
      | _ => s.runSeconds) ∧
    (t.badWords =
      match c with
      | .sampleWord word => if sampleParityOdd word then s.badWords else min 65535 (s.badWords + 1)
      | .powerOnReset .. => 0
      | _ => s.badWords) ∧
    let transfers := min 4294967295 (s.transferNumber + 1)
    match c with
    | .intervalExpiry => t.transferNumber = if s.settings.reportMode = .auto then transfers else s.transferNumber
    | .snapshot .. | .upFrameTaken _ =>
      t.transferNumber = s.transferNumber ∨ (s.settings.reportMode = .manual ∧ t.transferNumber = transfers)
    | .powerOnReset .. => t.transferNumber = 0
    | _ => t.transferNumber = s.transferNumber

/-- A command that is refused changes no state, apart from STEP_CLEAR refused with HALTED (R181). -/
def Obligations.RefusedCommandChangesNothing : Prop :=
  ∀ (code : Byte) (args : List Byte) (s : State),
    let out := State.command code args s
    out.status ≠ .ok → out.status ≠ .clamped → (code = 21 ∧ out.status = .halted) ∨ (out.state = s ∧ out.result = [])

/-- The MGMT frame that carries a management command to the slot does what the command's own row does (R180, R190). With four
replies waiting it is counted as a reply drop and not executed (R179). That the row, as a command of its own, does nothing at
an unaddressed slot is the model's reading (R173; log 18). -/
def Obligations.FramesCarryCommands : Prop :=
  ∀ (c : Instr) (f : Frame) (s : State), c.wellFormed = true → commandFrame s.link.srcByte c = some f →
    (s.link.addressed = true → exec (.upFrameTaken f.bytes) s = exec c s) ∧
    (s.link.addressed = true → 4 ≤ s.link.replies.length →
      exec c s =
        .next (s.updLink fun l =>
          { l with counts := { l.counts with replyDrop := min 65535 (s.link.counts.replyDrop + 1) } }).arbitrate) ∧
    (s.link.addressed = false → exec c s = .next s)

/-- The fields of a TBL_WRITE that replies OK read back as written, byte for byte (R183, R184, R188, R191). In table STEP an
absent target reads back with a value of zeros, whatever value bytes it was written with, so there the bytes read hold the
same field values. -/
def Obligations.WrittenFieldsReadBack : Prop :=
  ∀ (table first count : Byte) (mask : BitVec 64) (values : List Byte) (s : State),
    let out := State.tableWrite table first count mask values s
    out.status = .ok →
    (table ≠ 12 → State.tableRead table first count mask out.state = out.state.accept values) ∧
    (table = 12 →
      ∃ result : List Byte, State.tableRead 12 first count mask out.state = out.state.accept result ∧
        checkWrite 12 first count mask result = checkWrite 12 first count mask values)

/-! ### The link -/

/-- UP_FRAME_TAKEN (R172 to R175, R179, R180, R187). A frame for neither this slot nor broadcast is sent at once, joins the
queue, or is dropped and counted. Bytes that fail the check are counted; that fewer than 8 bytes fail it is the model's
reading (log 19). To this slot, a wrong KIND and a malformed block count as malformed, and a MGMT frame meets a full Reply
Queue, has no code (log 6) or an unknown one. A broadcast frame is forwarded and also delivered like the slot's own; the
forwarding first and a loss counted on each side are the model's choices (logs 38, 39). -/
def Obligations.UpFrameForwards : Prop :=
  ∀ s : State,
    (∀ bytes : List Byte, parseFrame bytes = none →
      exec (.upFrameTaken bytes) s =
        .next (s.updLink fun l =>
          { l with counts := { l.counts with upBad := min 65535 (s.link.counts.upBad + 1) } }).arbitrate) ∧
    ∀ f : Frame, f.payload.length ≤ 1024 →
      let run := exec (.upFrameTaken f.bytes) s
      let toSlot := s.link.addressed = true ∧ f.dest = s.link.srcByte
      let malformed := fun u : State => u.updLink fun l =>
        { l with counts := { l.counts with upMalformed := min 65535 (u.link.counts.upMalformed + 1) } }
      let forwarded := fun u : State =>
        (s.link.downPartner = false → u = s) ∧
        (s.link.downPartner = true → s.link.downQueue = [] → s.link.downSending = none →
          u = s.updLink fun l => { l with downSending := some f.bytes }) ∧
        (s.link.downPartner = true → s.link.downQueue.length < 4 → s.link.downSending ≠ none →
          u = s.updLink fun l => { l with downQueue := s.link.downQueue ++ [f.bytes] }) ∧
        (s.link.downPartner = true → 4 ≤ s.link.downQueue.length →
          u = s.updLink fun l => { l with counts := { l.counts with downDrop := min 65535 (s.link.counts.downDrop + 1) } })
      (f.dest ≠ 63 → ¬ toSlot → ∃ u : State, run = .next u.arbitrate ∧ forwarded u) ∧
      (f.dest = 63 →
        ∃ u : State, forwarded u ∧
          (s.link.addressed = true → run = exec (.upFrameTaken ({ f with dest := s.link.srcByte } : Frame).bytes) u) ∧
          (s.link.addressed = false → run = .next (if f.kind = 1 ∨ f.kind = 2 then u else malformed u).arbitrate)) ∧
      (toSlot →
        (f.kind ≠ 1 → f.kind ≠ 2 → run = .next (malformed s).arbitrate) ∧
        (f.kind = 1 →
          let count := (f.payload.getD 3 0).toNat
          f.payload.length < 4 ∨ count = 0 ∨ 32 < count ∨ f.payload.length ≠ 4 + 6 * count →
          run = .next (malformed s).arbitrate) ∧
        (f.kind = 2 →
          (f.payload ≠ [] → 4 ≤ s.link.replies.length →
            run = .next (s.updLink fun l =>
              { l with counts := { l.counts with replyDrop := min 65535 (s.link.counts.replyDrop + 1) } }).arbitrate) ∧
          (f.payload = [] → s.link.replies.length < 4 →
            ∃ code : Byte, run = .next (State.replied { s with freeIndex := s.freeIndex + 1 } f.src f.tag code .length [])) ∧
          ∀ (code : Byte) (args : List Byte), f.payload = code :: args → s.link.replies.length < 4 →
            code.toNat ∉ [1, 2, 3, 16, 17, 18, 19, 20, 21, 32, 48, 49, 50, 51, 52, 64, 80, 90] →
            run = .next (s.replied f.src f.tag code .unknown [])))

/-- UP_FRAME_TAKEN of a VECTOR frame for this slot whose block is well formed (R122 to R124, R131, R174). The expected number
advances whatever becomes of the block. A number other than the one expected, without RESTART, creates a GAP record. A block
that fails the vector check or does not fit is refused whole with its record; one that fits joins the queue, and ends STARVED
under a source that plays the queue. A GAP and a refusal disturb every zone's exercise, and nothing else does. The loop index
outside LOOPING is the model's (log 31). -/
def Obligations.VectorBlockJoinsQueue : Prop :=
  ∀ (f : Frame) (b : Block) (s : State), f.payload.length ≤ 1024 → s.link.addressed = true → f.dest = s.link.srcByte →
    f.kind = 1 → parseBlock f.payload = some b →
    let gap := !b.restart && decide (s.engine.expected ≠ none ∧ s.engine.expected ≠ some b.number)
    let passes := b.vectors.all (·.passes s.settings.vectorCheck)
    let fits := decide (s.engine.queue.length + b.vectors.length ≤ 512)
    let resumes := passes && fits &&
      decide (s.engine.state = .starved ∧ (s.step.cur.source = .stream ∨ s.step.cur.source = .streamLoop))
    ∃ u : State, exec (.upFrameTaken f.bytes) s = .next u.arbitrate ∧
      u.engine = { s.engine with
        expected := some ((b.number + 1) % 65536)
        queue :=
          if passes && fits then
            s.engine.queue ++ b.vectors.mapIdx fun k v => { block := b.number, index := k, vec := v.vec }
          else s.engine.queue
        state := if resumes then .streaming else s.engine.state
        loopIndex := if resumes then 0 else s.engine.loopIndex
        cycle := if resumes then 0 else s.engine.cycle } ∧
      u.reports = s.created
        ((if gap then [Record.pattern .gap (some b.number) s.engine.expected] else []) ++
          (if !passes then [Record.pattern .checkError (some b.number) none]
            else if !fits then [Record.pattern .overrun (some b.number) none]
            else if resumes then [Record.pattern .resumed none none]
            else [])) ∧
      (if gap || !passes || !fits then
        (∀ z : ZoneId, u.zone z = { s.zone z with latches := { (s.zone z).latches with exercise := true } }) ∧
          ∀ i : SocketId, u.socket i = { s.socket i with qualified := false }
      else u.zones = s.zones ∧ u.sockets = s.sockets) ∧
      u.step = s.step ∧ u.link = s.link ∧ u.lanes = s.lanes

/-- DOWN_FRAME_TAKEN: a frame joins the Upstream Forward Queue whatever its DEST, or is dropped when that holds 8; bytes that
fail the check are discarded; each loss is counted (R172, R176). That fewer than 8 bytes fail the check is the model's
reading (log 19). -/
def Obligations.DownFrameJoinsUpQueue : Prop :=
  ∀ (f : Frame) (s : State), f.payload.length ≤ 1024 →
    (s.link.upQueue.length < 8 →
      exec (.downFrameTaken f.bytes) s =
        .next (s.updLink fun l => { l with upQueue := s.link.upQueue ++ [f.bytes] }).arbitrate) ∧
    (8 ≤ s.link.upQueue.length →
      exec (.downFrameTaken f.bytes) s =
        .next (s.updLink fun l =>
          { l with counts := { l.counts with upDrop := min 65535 (s.link.counts.upDrop + 1) } }).arbitrate) ∧
    ∀ bytes : List Byte, parseFrame bytes = none →
      exec (.downFrameTaken bytes) s =
        .next (s.updLink fun l =>
          { l with counts := { l.counts with downBad := min 65535 (s.link.counts.downBad + 1) } }).arbitrate

/-- UP_TRANSMIT_END: the arbiter's choice (R177, R178). Forwarded and local traffic alternate when both wait; within local
traffic replies pass reports; a report takes the sequence number and counts as sent. -/
def Obligations.UpArbiterAlternates : Prop :=
  ∀ s : State, s.link.upReceiver = true →
    let localTraffic := s.link.addressed = true ∧ (s.link.replies ≠ [] ∨ s.reports.queue ≠ [])
    (∀ (g : List Byte) (rest : List (List Byte)), s.link.upQueue = g :: rest →
      (s.link.lastServed = .locals ∨ ¬ localTraffic) →
      exec .upTransmitEnd s =
        .next { s with link := { s.link with upQueue := rest, upSending := some g, lastServed := .forward } }) ∧
    (s.link.addressed = true → (s.link.upQueue = [] ∨ s.link.lastServed = .forward) →
      (∀ (r : Reply) (rest : List Reply), s.link.replies = r :: rest →
        exec .upTransmitEnd s =
          .next { s with link := { s.link with
            replies := rest
            upSending := some (Frame.bytes
              { dest := r.dest, src := s.link.srcByte, kind := 3, tag := r.tag
                payload := [r.code, BitVec.ofNat 8 r.status.code] ++ r.result })
            lastServed := .locals } }) ∧
      (∀ (r : Record) (rest : List Record), s.link.replies = [] → s.reports.queue = r :: rest →
        exec .upTransmitEnd s =
          .next { s with
            link := { s.link with
              upSending := some (Frame.bytes
                { dest := 0, src := s.link.srcByte, kind := 4, tag := s.link.sequence, payload := r.payload })
              sequence := s.link.sequence + 1
              lastServed := .locals }
            reports := { s.reports with queue := rest, sent := min 65535 (s.reports.sent + 1) } })) ∧
    (s.link.upQueue = [] → ¬ localTraffic →
      exec .upTransmitEnd s = .next { s with link := { s.link with upSending := none } })

/-- DOWN_TRANSMIT_END takes the head of the queue, or the transmitter waits (R175). DOWN_PARTNER_CHANGE and
UP_RECEIVER_CHANGE: a lost partner discards every frame for it uncounted (R175); a lost receiver loses the frame being sent,
and with none the transmitter is not free (R177). -/
def Obligations.PortEventsServe : Prop :=
  ∀ s : State,
    (∀ (g : List Byte) (rest : List (List Byte)), s.link.downQueue = g :: rest →
      exec .downTransmitEnd s = .next { s with link := { s.link with downSending := some g, downQueue := rest } }) ∧
    (s.link.downQueue = [] → exec .downTransmitEnd s = .next { s with link := { s.link with downSending := none } }) ∧
    exec (.downPartnerChange true) s = .next { s with link := { s.link with downPartner := true } } ∧
    exec (.downPartnerChange false) s =
      .next { s with link := { s.link with downPartner := false, downQueue := [], downSending := none } } ∧
    exec (.upReceiverChange true) s = .next (s.updLink fun l => { l with upReceiver := true }).arbitrate ∧
    exec (.upReceiverChange false) s = .next { s with link := { s.link with upReceiver := false, upSending := none } }

/-! ### Tables -/

/-- TBL_WRITE to a table without a row of its own that passes its stages: POLICY, ACCEL, VOLT, DRIVE and CHANNEL rows hold
the written fields and nothing else changes; DRIVE rows come into effect at once only while the engine is STOPPED (R29, R31,
R42, R60, R133). That such a write puts in effect the whole rows it names, and no row that still waits, is the model's
reading (log 17). -/
def Obligations.PlainTableWriteTakes : Prop :=
  ∀ (src tag table first count : Byte) (mask : BitVec 64) (values : List Byte) (rows : List (Nat × RowWrite)) (s : State),
    s.Ready → checkWrite table first count mask values = .ok rows →
    let run := exec (.tblWrite src tag table first count mask values) s
    let at_ := rowWriteAt rows
    (table = 4 →
      ((∀ p : Fin 4, let r := (at_ p.val).apply Policy.put (s.policies.get p); r.failM ≤ r.failN ∨ rows.lookup p.val = none) →
        run = .next (State.replied { s with
          policies := Table.ofFn fun p => (at_ p.val).apply Policy.put (s.policies.get p) } src tag 1 .ok [])) ∧
      ((∃ p : Fin 4, (rows.lookup p.val).isSome = true ∧
          ((at_ p.val).apply Policy.put (s.policies.get p)).failN < ((at_ p.val).apply Policy.put (s.policies.get p)).failM) →
        run = .next (s.replied src tag 1 .range []))) ∧
    (table = 5 → run = .next (State.replied { s with accel := (at_ 0).apply Accel.put s.accel } src tag 1 .ok [])) ∧
    (table = 6 → run = .next (State.replied { s with volt := (at_ 0).apply Volt.put s.volt } src tag 1 .ok [])) ∧
    (table = 7 →
      let drive : Table 64 DriveRow := Table.ofFn fun n => (at_ n.val).apply DriveRow.put (s.drive.get n)
      run = .next (State.replied { s with
        drive
        driveInEffect :=
          if s.engine.state = .stopped then
            Table.ofFn fun n => if (rows.lookup n.val).isSome then drive.get n else s.driveInEffect.get n
          else s.driveInEffect } src tag 1 .ok [])) ∧
    (table = 9 →
      run = .next (State.replied { s with
        channels := Table.ofFn fun m => (at_ m.val).apply Channel.put (s.channels.get m) } src tag 1 .ok []))

/-- SETTINGS_WRITE that passes its stages: the row holds the written fields; a write of the output enable re-evaluates the
own output, a write of the input enable halts the slot while the line is asserted, and any other write changes nothing else
(R166, R169). -/
def Obligations.SettingsWriteTakes : Prop :=
  ∀ (src tag first count : Byte) (mask : BitVec 64) (values : List Byte) (w : RowWrite) (s : State),
    s.Ready → checkWrite 1 first count mask values = .ok [(0, w)] →
    let settings := w.apply Settings.put s.settings
    ∃ u : State, exec (.settingsWrite src tag first count mask values) s = .next (u.replied src tag 1 .ok []) ∧
      u.settings = settings ∧
      (w.selects 9 = false → w.selects 10 = false → u = { s with settings }) ∧
      (w.selects 9 = false → w.selects 10 = true →
        u.halt.own = (settings.haltOut && s.anyHaltSource) ∧ u.halt.others = s.halt.others ∧
          u = { s with settings, halt := u.halt }) ∧
      (w.selects 9 = true → w.selects 10 = false → (settings.haltIn = false ∨ s.halt.line = false) →
        u = { s with settings }) ∧
      (w.selects 9 = true → w.selects 10 = false → settings.haltIn = true → s.halt.line = true →
        u.step.state = .halted ∧ u.halt = s.halt)

/-- SOCKET_TABLE_WRITE whose values are in range and whose rows meet no busy condition: the writable fields are as written,
populated moves the socket between VACANT and READY, a target that is reached completes an armed socket, and rows not named
stand (R1, R3 to R5). -/
def Obligations.SocketWriteTakes : Prop :=
  ∀ (src tag first count : Byte) (mask : BitVec 64) (values : List Byte) (rows : List (Nat × RowWrite)) (s : State),
    s.Ready → checkWrite 2 first count mask values = .ok rows →
    let new := fun i : SocketId => (rowWriteAt rows i.val).apply Socket.put (s.socket i)
    let sel := fun (i : SocketId) (n : Nat) => (rowWriteAt rows i.val).selects n
    let searching := fun z : ZoneId => (s.zone z).rail.state = .searching
    let busy := fun i : SocketId =>
      ((sel i 0 = true ∨ sel i 1 = true ∨ sel i 2 = true) ∧ ((s.socket i).switch = true ∨ searching (s.socket i).zone)) ∨
      (sel i 1 = true ∧ searching (new i).zone) ∨
      (sel i 0 = true ∧ (new i).populated = false ∧ (s.socket i).state.armed = true)
    ((∃ i, busy i) →
      exec (.socketTableWrite src tag first count mask values) s = .next (s.replied src tag 1 .busy [])) ∧
    ((∀ i, ¬ busy i) →
      ∃ u : State, exec (.socketTableWrite src tag first count mask values) s = .next (u.replied src tag 1 .ok []) ∧
        u.zones = s.zones ∧ u.step = s.step ∧ u.engine = s.engine ∧ u.halt = s.halt ∧ u.link = s.link ∧
        ∀ i : SocketId,
          let k := s.socket i
          let n := new i
          let v := u.socket i
          (rows.lookup i.val = none → v = k) ∧
          (v.populated = n.populated ∧ v.zone = n.zone ∧ v.policy = n.policy ∧ v.target = n.target ∧
            v.tjOffset = n.tjOffset ∧ v.tjSlope = n.tjSlope) ∧
          (v.credit = k.credit ∧ v.fraction = k.fraction ∧ v.running = k.running ∧ v.last = k.last ∧
            v.history = k.history ∧ v.clean = k.clean ∧ v.cause = k.cause ∧ v.reasons = k.reasons ∧
            v.firstFail = k.firstFail) ∧
          (v.state =
            if sel i 0 = true ∧ n.populated = true ∧ k.state = .vacant then .ready
            else if sel i 0 = true ∧ n.populated = false then .vacant
            else if sel i 3 = true ∧ k.state.armed = true ∧ n.target ≠ 0 ∧ n.target * 256 ≤ k.credit then .complete
            else k.state))

/-- ZONE_TABLE_WRITE whose values are in range: BUSY for a searching zone; otherwise the fields are as written, goals above a
lowered max_mv come down with it, and a write that selects none of max_mv, band and hard_limit changes nothing else (R69,
R71, R104). That a goal is formed again from the goal held is the model's choice (log 11). -/
def Obligations.ZoneWriteTakes : Prop :=
  ∀ (src tag first count : Byte) (mask : BitVec 64) (values : List Byte) (rows : List (Nat × RowWrite)) (s : State),
    s.Ready → checkWrite 3 first count mask values = .ok rows →
    let new := fun z : ZoneId => (rowWriteAt rows z.val).apply ZoneCfg.put (s.zone z).cfg
    let sel := fun (z : ZoneId) (n : Nat) => (rowWriteAt rows z.val).selects n
    let named := fun z : ZoneId => (rows.lookup z.val).isSome = true
    let run := exec (.zoneTableWrite src tag first count mask values) s
    ((∃ z, named z ∧ ((new z).fullScaleMv < (new z).maxMv ∨ (new z).tripMa < (new z).limitMa)) →
      run = .next (s.replied src tag 1 .range [])) ∧
    ((∀ z, named z → (new z).maxMv ≤ (new z).fullScaleMv ∧ (new z).limitMa ≤ (new z).tripMa) →
      ((∃ z, named z ∧ (s.zone z).rail.state = .searching) → run = .next (s.replied src tag 1 .busy [])) ∧
      ((∀ z, named z → (s.zone z).rail.state ≠ .searching) →
        (∃ u : State, run = .next (u.replied src tag 1 .ok []) ∧ (s.step.state ≠ .stopping → u.step = s.step) ∧ u.order = s.order ∧
          ∀ z : ZoneId, (u.zone z).cfg = new z ∧
            (u.zone z).rail.goal =
              if sel z 1 = true then
                match (s.zone z).rail.goal with
                | none => none
                | some g => if min g (new z).maxMv = 0 then none else some (min g (new z).maxMv)
              else (s.zone z).rail.goal) ∧
        ((∀ z, sel z 1 = false ∧ sel z 9 = false ∧ sel z 12 = false) →
          run = .next (State.replied (s.setZones fun z => { s.zone z with cfg := new z }) src tag 1 .ok []))))

/-- ORDER_WRITE of a list without duplicates: the list is replaced, and with no zone waiting nothing else changes (R72). -/
def Obligations.OrderWriteTakes : Prop :=
  ∀ (src tag first count : Byte) (mask : BitVec 64) (values : List Byte) (w : RowWrite) (s : State),
    s.Ready → checkWrite 10 first count mask values = .ok [(0, w)] →
    (∃ u : State, exec (.orderWrite src tag first count mask values) s = .next (u.replied src tag 1 .ok []) ∧
      u.order = orderOf w ∧ u.sockets.cells.map (·.state) = s.sockets.cells.map (·.state) ∧ u.settings = s.settings ∧
      ∀ z : ZoneId, (u.zone z).cfg = (s.zone z).cfg ∧ (u.zone z).rail.goal = (s.zone z).rail.goal ∧
        (u.zone z).heat = (s.zone z).heat) ∧
    ((∀ z : ZoneId, (s.zone z).rail.waiting = .none) →
      exec (.orderWrite src tag first count mask values) s =
        .next (State.replied { s with order := orderOf w } src tag 1 .ok []))

/-- STEP_STAGE_WRITE to row 1: the staged step opens, each selected field holds its value with its flag set, with the codes
of R188, targets above their limit are stored at it, and the reply is CLAMPED exactly when one was (R158). That a temperature
target of -80 never counts as stored at its limit is the model's choice (log 42). -/
def Obligations.StageWriteTakes : Prop :=
  ∀ (src tag first count : Byte) (mask : BitVec 64) (values : List Byte) (w : RowWrite) (s : State),
    s.Ready → checkWrite 12 first count mask values = .ok [(1, w)] →
    ∃ (g : Staged) (status : Status),
      exec (.stepStageWrite src tag first count mask values) s =
        .next (State.replied { s with step := { s.step with staged := g, stagedState := .opened } } src tag 1 status []) ∧
      (g.endKind = match w.lookup 1 with
        | some v => some (if v.nat = 0 then .time else if v.nat = 1 then .credit else .host)
        | none => s.step.staged.endKind) ∧
      (g.duration = match w.lookup 2 with
        | some v => some v.nat
        | none => s.step.staged.duration) ∧
      (∀ z : ZoneId, g.railTarget.get z = match w.lookup (3 + z.val) with
        | some v => some (v.optional.map fun mv => min mv.toNat (s.zone z).cfg.maxMv)
        | none => s.step.staged.railTarget.get z) ∧
      (∀ z : ZoneId, g.tempTarget.get z = match w.lookup (7 + z.val) with
        | some v => some (v.optional.map fun t => min t (max (-80) ((s.zone z).cfg.hardLimit - (s.zone z).cfg.band)))
        | none => s.step.staged.tempTarget.get z) ∧
      (g.source = match w.lookup 11 with
        | some v => some (if v.nat = 0 then .none else if v.nat = 1 then .stream else if v.nat = 2 then .streamLoop else .loop)
        | none => s.step.staged.source) ∧
      (g.period = match w.lookup 12 with
        | some v => some v.nat
        | none => s.step.staged.period) ∧
      (g.advance = match w.lookup 13 with
        | some v => some v.flag
        | none => s.step.staged.advance) ∧
      (status = .clamped ∨ status = .ok) ∧
      (status = .clamped ↔
        ∃ z : ZoneId,
          (∃ mv, w.lookup (3 + z.val) = some (.opt (some mv)) ∧ ((s.zone z).cfg.maxMv : Int) < mv) ∨
          ∃ t, w.lookup (7 + z.val) = some (.opt (some t)) ∧
            max (-80) ((s.zone z).cfg.hardLimit - (s.zone z).cfg.band) < t)

/-- SENSE_MODE_WRITE whose values are in range: FREQ on a primary lane is refused with RANGE; otherwise the rows are as
written, and a lane whose mode is written is reset, with a new gate at once on a secondary lane in FREQ mode whose socket's
switch is on (R140, R142). -/
def Obligations.SenseWriteTakes : Prop :=
  ∀ (src tag first count : Byte) (mask : BitVec 64) (values : List Byte) (rows : List (Nat × RowWrite)) (s : State),
    s.Ready → checkWrite 8 first count mask values = .ok rows →
    let new := fun n : LaneId => (rowWriteAt rows n.val).apply SenseRow.put (s.lane n).row
    let resets := fun n : LaneId => (rowWriteAt rows n.val).selects 0
    ((∃ n : LaneId, (rows.lookup n.val).isSome = true ∧ n.val % 2 = 0 ∧ (new n).mode = .freq) →
      exec (.senseModeWrite src tag first count mask values) s = .next (s.replied src tag 1 .range [])) ∧
    ((∀ n : LaneId, (rows.lookup n.val).isSome = true → n.val % 2 = 0 → (new n).mode ≠ .freq) →
      ∃ u : State, exec (.senseModeWrite src tag first count mask values) s = .next (u.replied src tag 1 .ok []) ∧
        u.zones = s.zones ∧ u.step = s.step ∧ u.engine = s.engine ∧
        (∀ n : LaneId, u.lane n =
          if resets n = true then
            { row := new n
              gate := { raw := if n.val % 2 = 1 ∧ (new n).mode = .freq ∧ (s.socket (laneSocket n)).switch = true then some 0
                               else none } }
          else { s.lane n with row := new n }) ∧
        ∀ i : SocketId,
          (u.socket i).estimate = (if resets (secondaryLane i) = true then none else (s.socket i).estimate) ∧
          (u.socket i).reasons.score = (s.socket i).reasons.score ∧ (u.socket i).hold = (s.socket i).hold ∧
          (u.socket i).credit = (s.socket i).credit ∧
          (resets (primaryLane i) = true → resets (secondaryLane i) = true → (s.socket i).state.armed = true →
            ((s.lane (primaryLane i)).watch.stuck = true ∨ (s.lane (secondaryLane i)).watch.stuck = true) →
            (u.socket i).reasons.stuck = false))

/-- TBL_READ within a table whose result fits changes nothing and returns the selected fields row by row; the credit field of
a SOCKET row is four bytes (R184, R188, R191). One that does not fit is refused with LENGTH. -/
def Obligations.TableReadReturnsFields : Prop :=
  ∀ (src tag table first count : Byte) (mask : BitVec 64) (s : State), s.Ready →
    let t := table.toNat
    let fields := selectedFields t mask
    let result := (List.range count.toNat).flatMap fun r => s.readRow t (first.toNat + r) fields
    (1 ≤ t → t ≤ 12 → 1 ≤ count.toNat → first.toNat + count.toNat ≤ tableRows t → mask ≠ 0 →
      mask.toNat < 2 ^ (tableFields t).length →
      (result.length ≤ 1022 → exec (.tblRead src tag table first count mask) s = .next (s.replied src tag 2 .ok result)) ∧
      (1022 < result.length → exec (.tblRead src tag table first count mask) s = .next (s.replied src tag 2 .length []))) ∧
    ∀ i : SocketId,
      exec (.tblRead src tag 2 (BitVec.ofNat 8 i.val) 1 (1 <<< 10)) s =
        .next (s.replied src tag 2 .ok
          [BitVec.ofNat 8 ((s.socket i).credit / 16777216), BitVec.ofNat 8 ((s.socket i).credit / 65536),
            BitVec.ofNat 8 ((s.socket i).credit / 256), BitVec.ofNat 8 (s.socket i).credit])

/-- STATUS_READ changes nothing and returns 53 bytes, beginning with the step state, the step number and the staged state,
and ending with run seconds (R185, R190). -/
def Obligations.StatusReadReturns53Bytes : Prop :=
  ∀ (src tag : Byte) (s : State), s.Ready →
    ∃ middle : List Byte, middle.length = 43 ∧
      exec (.statusRead src tag) s =
        .next (s.replied src tag 80 .ok
          ([BitVec.ofNat 8 s.step.state.code] ++ be 4 s.step.cur.number ++ [BitVec.ofNat 8 s.step.stagedState.code] ++ middle ++
            be 4 s.runSeconds)) ∧
      (middle.drop 16).take 5 =
        [flagByte s.halt.line, flagByte s.halt.own, BitVec.ofNat 8 s.engine.state.code] ++ be 2 s.engine.queue.length

/-- LOOP_LOAD: its refusals in their order, and an accepted load writes its vectors, clears the valid flag at index 0, and
with LAST sets the length and the flag (R127). The engine is not STARVED here. -/
def Obligations.LoopLoadWritesStore : Prop :=
  ∀ (src tag first count flags : Byte) (vectors : List Byte) (s : State), s.Ready →
    let run := exec (.loopLoad src tag first count flags vectors) s
    ((count = 0 ∨ 32 < count.toNat ∨ vectors.length ≠ 6 * count.toNat) → run = .next (s.replied src tag 3 .length [])) ∧
    ∀ vs : List SentVector, parseVectors vectors = some vs → vs.length = count.toNat → 1 ≤ count.toNat → count.toNat ≤ 32 →
      (s.engine.state = .looping → run = .next (s.replied src tag 3 .busy [])) ∧
      (s.engine.state ≠ .looping → 256 < first.toNat + count.toNat → run = .next (s.replied src tag 3 .range [])) ∧
      (s.engine.state ≠ .looping → first.toNat + count.toNat ≤ 256 →
        (vs.all (·.passes s.settings.vectorCheck) = false → run = .next (s.replied src tag 3 .range [])) ∧
        (vs.all (·.passes s.settings.vectorCheck) = true → s.engine.state ≠ .starved →
          let last := flags.getLsbD 0
          let valid := last || (s.engine.loopValid && decide (first ≠ 0))
          let length := if last then first.toNat + count.toNat else s.engine.loopLength
          ∃ store : Table 256 Vec,
            (∀ k : Fin 256, store.get k =
              if h : first.toNat ≤ k.val ∧ k.val - first.toNat < vs.length then (vs[k.val - first.toNat]'h.2).vec
              else s.engine.store.get k) ∧
            run = .next (State.replied
              { s with engine := { s.engine with store, loopLength := length, loopValid := valid } } src tag 3 .ok
              (flagByte valid :: be 2 length))))

/-! ### Step control -/

/-- STAGE_SETTLE and STAGE_UNSETTLE move the staged step between OPEN and SETTLED and are refused as the table of R159 gives;
a settle in HOLDING under advance, which also promotes, is the next statement's. -/
def Obligations.StageSettlesAndUnsettles : Prop :=
  ∀ (src tag : Byte) (s : State), s.Ready →
    (s.step.stagedState = .empty →
      exec (.stageSettle src tag) s = .next (s.replied src tag 16 .state []) ∧
      exec (.stageUnsettle src tag) s = .next (s.replied src tag 17 .state [])) ∧
    (s.step.stagedState ≠ .empty →
      (s.step.state ≠ .holding ∨ s.step.cur.advance = false ∨ s.step.cur.number = 4294967295) →
      exec (.stageSettle src tag) s =
        .next (State.replied { s with step := { s.step with stagedState := .settled } } src tag 16 .ok [])) ∧
    (s.step.stagedState = .opened → exec (.stageUnsettle src tag) s = .next (s.replied src tag 17 .state [])) ∧
    (s.step.stagedState = .settled →
      exec (.stageUnsettle src tag) s =
        .next (State.replied { s with step := { s.step with stagedState := .opened } } src tag 17 .ok []))

/-- A promotion, by STEP_START from IDLE or HOLDING and by STAGE_SETTLE in HOLDING under advance (R160, R161, R164): written
fields as staged, the others inherited, the number one higher, the staged step EMPTY, the timer 0, the STEP record first, and
each zone's goal and heat target formed from the new step (R71, R106). The engine takes the promotion as `Engine.promoted`
says (R128, R129, R131). One that starts it begins the first vector cycle (R128), with pending DRIVE rows in effect (R133)
and the lanes of zones in HOLD driving (R136); its sense levels are free (log 37), and due window ends come before it (log
8). The loop index outside LOOPING is the model's (log 31). With no zone at its hard limit, each rail takes its new goal as
`State.RailPromoted` says (R73, R74, R77, R78; by the model's reading, logs 10 and 29). -/
def Obligations.PromotionMakesStagedCurrent : Prop :=
  ∀ (src tag : Byte) (s : State), s.Ready → s.RailsConsistent → s.HeatConsistent → s.step.cur.number < 4294967295 →
    let g := s.step.staged
    let c := s.step.cur
    let number := c.number + 1
    let promoted := fun (u : State) (event : StepEvent) =>
      u.step = { state := .running, elapsed := 0, staged := {}, stagedState := .empty, cur := u.step.cur } ∧
      u.step.cur.number = number ∧ u.step.cur.endKind = g.endKind.getD c.endKind ∧
      u.step.cur.duration = g.duration.getD c.duration ∧ u.step.cur.source = g.source.getD c.source ∧
      u.step.cur.period = g.period.getD c.period ∧ u.step.cur.advance = g.advance.getD c.advance ∧
      (∀ z : ZoneId,
        u.step.cur.railTarget.get z = (g.railTarget.get z).getD (c.railTarget.get z) ∧
        u.step.cur.tempTarget.get z = (g.tempTarget.get z).getD (c.tempTarget.get z) ∧
        (u.zone z).rail.goal =
          (match u.step.cur.railTarget.get z with
          | none => none
          | some mv => if min mv (s.zone z).cfg.maxMv = 0 then none else some (min mv (s.zone z).cfg.maxMv)) ∧
        (u.zone z).heat.target =
          (u.step.cur.tempTarget.get z).map fun t =>
            min t (max (-80) ((s.zone z).cfg.hardLimit - (s.zone z).cfg.band))) ∧
      u.engine = s.engine.promoted c.source u.step.cur.source u.step.cur.period ∧
      (s.engine.state = .stopped → u.step.cur.source ≠ .none →
        ∃ (w : State) (sense : BitVec 64), u = w.startCycle sense ∧ w.NoWindowDue ∧ w.step = u.step ∧
          w.drive = s.drive ∧ w.driveInEffect = s.drive ∧ u.driveInEffect = s.drive ∧
          w.engine = { s.engine with
            state := u.engine.state, loopIndex := 0, cycle := 0, period := u.step.cur.period
            prbsA := BitVec.allOnes 9, prbsB := BitVec.allOnes 15, clockPhase := false } ∧
          (∀ z : ZoneId, (w.zone z).rail = (u.zone z).rail ∧ (u.zone z).driving = (u.zone z).rail.state.ungated) ∧
          (∀ i : SocketId, (w.socket i).running = (s.socket i).running ∧ (w.socket i).firstFail = (s.socket i).firstFail) ∧
          ∀ n : LaneId, (w.lane n).row = (s.lane n).row ∧
            (s.NoWindowDue → (w.lane n).prbs = (s.lane n).prbs ∧ (w.lane n).watch = (s.lane n).watch)) ∧
      (s.engine.state ≠ .stopped ∨ u.step.cur.source = .none → u.driveInEffect = s.driveInEffect) ∧
      ((∀ (z : ZoneId) (t : Int), (s.zone z).values.temperature = some t → t < (s.zone z).cfg.hardLimit) →
        ∀ z : ZoneId, s.RailPromoted u z) ∧
      (s.settings.step = true → s.reports.queue.length < 64 →
        ∃ later, u.reports.queue = s.reports.queue ++ Record.step event number s.runSeconds :: later)
    (s.step.stagedState = .settled → (s.step.state = .idle ∨ s.step.state = .holding) →
      ∃ u : State, exec (.stepStart src tag) s = .next (u.replied src tag 18 .ok []) ∧ promoted u .started) ∧
    (s.step.stagedState ≠ .empty → s.step.state = .holding → c.advance = true →
      ∃ u : State, exec (.stageSettle src tag) s = .next (u.replied src tag 16 .ok []) ∧ promoted u .advanced)

/-- STEP_STOP in RUNNING or HOLDING takes every target away, stops the engine with its queue emptied, opens a SETTLED staged
step, creates its STOPPING record first, and goes on to IDLE in the same command exactly when every rail is then OFF or
TRIPPED; elsewhere it is refused (R165). That the elapsed count stands, at IDLE too, is the model's reading (log 15). -/
def Obligations.StepStopTakesTargetsAway : Prop :=
  ∀ (src tag : Byte) (s : State), s.Ready → s.RailsConsistent → s.HeatConsistent →
    (s.step.state = .halted → exec (.stepStop src tag) s = .next (s.replied src tag 19 .halted [])) ∧
    (s.step.state = .idle ∨ s.step.state = .stopping →
      exec (.stepStop src tag) s = .next (s.replied src tag 19 .state [])) ∧
    (s.step.state = .running ∨ s.step.state = .holding →
      ∃ u : State, exec (.stepStop src tag) s = .next (u.replied src tag 19 .ok []) ∧
        u.step.state = (if ∀ z : ZoneId, (u.zone z).rail.state.powered = false then .idle else .stopping) ∧
        u.step.cur.number = s.step.cur.number ∧ u.step.elapsed = s.step.elapsed ∧ u.step.staged = s.step.staged ∧
        u.step.stagedState = (if s.step.stagedState = .settled then .opened else s.step.stagedState) ∧
        u.engine.state = .stopped ∧ u.engine.queue = [] ∧
        (∀ z : ZoneId, u.step.cur.railTarget.get z = none ∧ u.step.cur.tempTarget.get z = none ∧ (u.zone z).rail.goal = none ∧
          ((s.zone z).heat.state ≠ .overtemp → (u.zone z).heat.state = .off)) ∧
        (s.settings.step = true → s.reports.queue.length < 64 →
          ∃ later, u.reports.queue =
            s.reports.queue ++ Record.step .stopping s.step.cur.number s.runSeconds :: later))

/-- STEP_ABORT enters HALTED (R167): the HALTED record first, every rail TRIPPED, one not TRIPPED before with cause HALT,
goals and targets kept, no duty, the engine STOPPED with its queue emptied, a SETTLED staged step OPEN, and the own output
and the line not touched. In HALTED it changes nothing and replies OK. -/
def Obligations.StepAbortHalts : Prop :=
  ∀ (src tag : Byte) (s : State), s.Ready → s.RailsConsistent →
    (s.step.state = .halted → exec (.stepAbort src tag) s = .next (s.replied src tag 20 .ok [])) ∧
    (s.step.state ≠ .halted →
      ∃ u : State, exec (.stepAbort src tag) s = .next (u.replied src tag 20 .ok []) ∧
        u.step = { s.step with
          state := .halted
          stagedState := if s.step.stagedState = .settled then .opened else s.step.stagedState } ∧
        u.halt = s.halt ∧ u.engine.state = .stopped ∧ u.engine.queue = [] ∧
        (∀ z : ZoneId,
          (u.zone z).rail.state = .tripped ∧ (u.zone z).rail.goal = (s.zone z).rail.goal ∧
          (u.zone z).rail.tripCause =
            (if (s.zone z).rail.state = .tripped then (s.zone z).rail.tripCause else some .halt) ∧
          (u.zone z).heat = { (s.zone z).heat with duty := 0 }) ∧
        (s.settings.step = true → s.reports.queue.length < 64 →
          ∃ later, u.reports.queue = s.reports.queue ++ Record.step .halted s.step.cur.number s.runSeconds :: later))

/-- STEP_CLEAR (R168): refused with STATE outside HALTED; with the line still held by another slot and the input enabled it
replies HALTED, and each OVERCURRENT zone ends as a source with its cause rewritten to HALT; otherwise every trip is cleared
and step control is IDLE with its number kept. That elapsed is kept at IDLE is the model's choice (log 15). -/
def Obligations.StepClearEndsHalted : Prop :=
  ∀ (src tag : Byte) (s : State), s.Ready → s.RailsConsistent → s.HeatConsistent →
    (s.step.state ≠ .halted → exec (.stepClear src tag) s = .next (s.replied src tag 21 .state [])) ∧
    (s.step.state = .halted → s.halt.others = true → s.settings.haltIn = true →
      ∃ u : State, exec (.stepClear src tag) s = .next (u.replied src tag 21 .halted [1, flagByte u.halt.own]) ∧
        u.step = s.step ∧ u.halt.others = true ∧
        u.halt.own = (s.settings.haltOut && decide (∃ z : ZoneId, (s.zone z).heat.state = .overtemp)) ∧
        ∀ z : ZoneId, (u.zone z).rail.haltSource = false ∧ (u.zone z).rail.state = (s.zone z).rail.state ∧
          (u.zone z).rail.tripCause =
            (if (s.zone z).rail.tripCause = some .overcurrent then some .halt else (s.zone z).rail.tripCause)) ∧
    (s.step.state = .halted → s.halt.others = false →
      (s.settings.haltIn = false ∨ s.settings.haltOut = false ∨ ∀ z : ZoneId, (s.zone z).heat.state ≠ .overtemp) →
      (∀ z : ZoneId, (s.zone z).rail.state = .tripped) →
      ∃ u : State,
        exec (.stepClear src tag) s = .next (u.replied src tag 21 .ok [flagByte u.halt.line, flagByte u.halt.own]) ∧
        u.step = { s.step with state := .idle, cur := { number := s.step.cur.number } } ∧ u.halt.others = false ∧
        (∀ z : ZoneId, (u.zone z).rail.state = .off ∧ (u.zone z).rail.tripCause = none ∧ (u.zone z).rail.goal = none ∧
          (u.zone z).rail.haltSource = false ∧
          ((s.zone z).heat.state ≠ .overtemp → (u.zone z).heat.state = .off)))

/-- HALT_LINE_ASSERTED: with the input enabled, an assertion of a released line halts the slot; with the input disabled, or
with the line asserted and taken before, step control stands (R166). HALT_LINE_RELEASED changes only the line. The operand of
the assertion and the pending own assertion are the model's (logs 9 and 23). -/
def Obligations.HaltLineHalts : Prop :=
  ∀ s : State,
    (s.halt.line = false → s.settings.haltIn = true →
      ∃ u : State, exec (.haltLineAsserted true) s = .next u.arbitrate ∧ u.step.state = .halted ∧ u.step.cur = s.step.cur ∧
        u.halt = { own := s.halt.own, others := true, edge := false } ∧
        (s.RailsConsistent → s.step.state ≠ .halted →
          u.engine.state = .stopped ∧ u.engine.queue = [] ∧ ∀ z : ZoneId, (u.zone z).rail.state = .tripped)) ∧
    (s.settings.haltIn = false ∨ (s.halt.line = true ∧ s.halt.edge = false) →
      exec (.haltLineAsserted true) s =
        .next (State.arbitrate { s with halt := { own := s.halt.own, others := true, edge := false } })) ∧
    (s.halt.edge = true → s.settings.haltIn = true →
      ∃ u : State, exec (.haltLineAsserted false) s = .next u.arbitrate ∧ u.step.state = .halted ∧
        u.halt = { s.halt with edge := false }) ∧
    exec .haltLineReleased s = .next { s with halt := { s.halt with others := false } }

/-- ZONE_CLEAR: its refusals in their order, and an accepted set takes each named rail from TRIPPED to OFF, its cause absent
and its source released; a rail with no goal stays OFF (R85). -/
def Obligations.ZoneClearClearsTrips : Prop :=
  ∀ (src tag zones : Byte) (s : State), s.Ready → s.RailsConsistent →
    let named := fun z : ZoneId => zones.getLsbD z.val = true
    let run := exec (.zoneClear src tag zones) s
    (16 ≤ zones.toNat → run = .next (s.replied src tag 32 .range [])) ∧
    (zones.toNat < 16 → s.step.state = .halted → run = .next (s.replied src tag 32 .halted [])) ∧
    (zones.toNat < 16 → s.step.state ≠ .halted →
      ((∃ z, named z ∧ ((s.zone z).rail.state ≠ .tripped ∨ (s.zone z).heat.state = .overtemp)) →
        run = .next (s.replied src tag 32 .state [])) ∧
      ((∀ z, named z → (s.zone z).rail.state = .tripped ∧ (s.zone z).heat.state ≠ .overtemp) →
        ∃ u : State, run = .next (u.replied src tag 32 .ok []) ∧ (s.step.state ≠ .stopping → u.step = s.step) ∧
          ∀ z, (u.zone z).rail.goal = (s.zone z).rail.goal ∧ (u.zone z).cfg = (s.zone z).cfg ∧
            (u.zone z).heat = (s.zone z).heat ∧
            (named z → (u.zone z).rail.tripCause = none ∧ (u.zone z).rail.haltSource = false ∧
              ((u.zone z).rail.state = .off ∨ (s.zone z).rail.goal.isSome = true ∧ (u.zone z).rail.state = .ramping))))

/-! ### Sockets -/

/-- SOCKET_ARM: refused with STATE for a VACANT socket; otherwise an armed socket and one not named stand, and each other is
cleared as R7 lists, its two lanes reset, and goes to COMPLETE when its kept or cleared credit meets a nonzero target and to
RUNNING otherwise (R7, R15), with one VERDICT record for each state that changed and no other record (R17). That a COMPLETE
socket whose target is met enters COMPLETE again, hold DONE included, is the model's reading (log 16). -/
def Obligations.ArmStartsBurnIn : Prop :=
  ∀ (src tag : Byte) (sockets : BitVec 32) (options : Byte) (s : State), s.Ready →
    let named := fun i : SocketId => sockets.getLsbD i.val = true
    ((∃ i, named i ∧ (s.socket i).state = .vacant) →
      exec (.socketArm src tag sockets options) s = .next (s.replied src tag 48 .state [])) ∧
    ((∀ i, named i → (s.socket i).state ≠ .vacant) →
      ∃ u : State, exec (.socketArm src tag sockets options) s = .next (u.replied src tag 48 .ok []) ∧
        u.zones = s.zones ∧ u.step = s.step ∧ u.engine = s.engine ∧ u.runSeconds = s.runSeconds ∧
        u.reports = s.created (s.verdicts u) ∧
        ∀ i : SocketId,
          let k := s.socket i
          let v := u.socket i
          let credit := if options.getLsbD 0 = true then 0 else k.credit
          let done := k.target ≠ 0 ∧ k.target * 256 ≤ credit
          ((¬ named i ∨ k.state.armed = true) →
            v = k ∧ u.lane (primaryLane i) = s.lane (primaryLane i) ∧ u.lane (secondaryLane i) = s.lane (secondaryLane i)) ∧
          (named i → k.state.armed = false →
            v.state = (if done then .complete else .running) ∧ v.credit = credit ∧
            v.fraction = (if options.getLsbD 0 = true then 0 else k.fraction) ∧
            (v.running = 0 ∧ v.last = 0 ∧ v.history = [] ∧ v.reasons = {} ∧ v.clean = 0) ∧
            (v.firstFail = none ∧ v.cause = none ∧ v.qualified = false ∧ v.estimate = none) ∧
            v.hold = (if done ∧ (s.policyOf i).stopOnComplete = true then some (k.hold.getD .done) else k.hold) ∧
            (u.lane (primaryLane i)).prbs = {} ∧ (u.lane (primaryLane i)).watch = {} ∧
            (u.lane (secondaryLane i)).prbs = {} ∧ (u.lane (secondaryLane i)).watch = {} ∧
            (u.lane (secondaryLane i)).gate.monitor = .none))

/-- SOCKET_RELEASE: refused with STATE for a VACANT socket; otherwise each named socket is READY, its FAIL or DONE hold
removed and its other holds kept, its reasons and clean count cleared, and its credit, fraction, cause, scores, history and
first-fail record kept (R8), with one VERDICT record for each state that changed and no other record (R17). -/
def Obligations.ReleaseEndsBurnIn : Prop :=
  ∀ (src tag : Byte) (sockets : BitVec 32) (s : State), s.Ready →
    let named := fun i : SocketId => sockets.getLsbD i.val = true
    ((∃ i, named i ∧ (s.socket i).state = .vacant) →
      exec (.socketRelease src tag sockets) s = .next (s.replied src tag 49 .state [])) ∧
    ((∀ i, named i → (s.socket i).state ≠ .vacant) →
      ∃ u : State, exec (.socketRelease src tag sockets) s = .next (u.replied src tag 49 .ok []) ∧
        u.zones = s.zones ∧ u.step = s.step ∧ u.engine = s.engine ∧ u.runSeconds = s.runSeconds ∧
        u.reports = s.created (s.verdicts u) ∧
        ∀ i : SocketId,
          let k := s.socket i
          let v := u.socket i
          (¬ named i → v = k) ∧
          (named i → v.state = .ready ∧ v.reasons = {} ∧ v.clean = 0 ∧
            v.hold = (if k.hold = some .fail ∨ k.hold = some .done then none else k.hold) ∧
            v.credit = k.credit ∧ v.fraction = k.fraction ∧ v.cause = k.cause ∧ v.firstFail = k.firstFail ∧
            v.running = k.running ∧ v.last = k.last ∧ v.history = k.history ∧
            (v.switch = (v.populated && v.hold.isNone && (s.zone v.zone).search.candidate != some i &&
              (s.zone v.zone).rail.state.powered))))

/-- SOCKET_HOLD and SOCKET_RESTORE, taken in every state: HOLD places FORCED where there is no hold, keeps a hold of any
kind, and the switch is open; RESTORE removes the hold whatever its reason, and the switch follows its rule (R87), a shed
candidate staying off. A socket with no hold is left as it is by RESTORE. Neither changes a socket's state, and sockets not
named stand (R9, R10). -/
def Obligations.HoldAndRestoreMoveHolds : Prop :=
  ∀ (src tag : Byte) (sockets : BitVec 32) (s : State), s.Ready →
    let named := fun i : SocketId => sockets.getLsbD i.val = true
    let rule := fun (i : SocketId) (k : Socket) =>
      k.populated && k.hold.isNone && (s.zone k.zone).search.candidate != some i && (s.zone k.zone).rail.state.powered
    (∃ u : State, exec (.socketHold src tag sockets) s = .next (u.replied src tag 50 .ok []) ∧
      u.zones = s.zones ∧ u.step = s.step ∧ u.engine = s.engine ∧ u.reports = s.reports ∧
      ∀ i : SocketId,
        let k := s.socket i
        let v := u.socket i
        (¬ named i → v = k) ∧
        (named i → v.hold = some (k.hold.getD .forced) ∧ v.switch = false ∧ v.state = k.state ∧ v.reasons = k.reasons ∧
          v.credit = k.credit ∧ v.history = k.history ∧ v.cause = k.cause)) ∧
    (∃ u : State, exec (.socketRestore src tag sockets) s = .next (u.replied src tag 51 .ok []) ∧
      u.zones = s.zones ∧ u.step = s.step ∧ u.engine = s.engine ∧ u.reports = s.reports ∧
      ∀ i : SocketId,
        let k := s.socket i
        let v := u.socket i
        ((¬ named i ∨ k.hold = none) → v = k) ∧
        (named i → k.hold ≠ none → v.hold = none ∧ v.switch = rule i v ∧ v.state = k.state ∧ v.reasons = k.reasons ∧
          v.credit = k.credit ∧ v.history = k.history ∧ v.cause = k.cause))

/-- SOCKET_FAIL: refused with STATE unless every named socket is armed; otherwise each is FAILED with cause FORCED, a FAIL
hold placed under isolate_on_fail where there is no hold, its reasons, scores, history and credit kept (R11, R14, R16), with
one VERDICT record for each and no other record (R17). -/
def Obligations.FailForcesVerdict : Prop :=
  ∀ (src tag : Byte) (sockets : BitVec 32) (s : State), s.Ready →
    let named := fun i : SocketId => sockets.getLsbD i.val = true
    ((∃ i, named i ∧ (s.socket i).state.armed = false) →
      exec (.socketFail src tag sockets) s = .next (s.replied src tag 52 .state [])) ∧
    ((∀ i, named i → (s.socket i).state.armed = true) →
      ∃ u : State, exec (.socketFail src tag sockets) s = .next (u.replied src tag 52 .ok []) ∧
        u.zones = s.zones ∧ u.step = s.step ∧ u.engine = s.engine ∧ u.runSeconds = s.runSeconds ∧
        u.reports = s.created (s.verdicts u) ∧
        ∀ i : SocketId,
          let k := s.socket i
          let v := u.socket i
          (¬ named i → v = k) ∧
          (named i → v.state = .failed ∧ v.cause = some .forced ∧ v.qualified = false ∧
            v.hold = (if (s.policyOf i).isolateOnFail = true then some (k.hold.getD .fail) else k.hold) ∧
            v.reasons = k.reasons ∧ v.running = k.running ∧ v.last = k.last ∧ v.history = k.history ∧
            v.credit = k.credit ∧ v.fraction = k.fraction ∧ v.firstFail = k.firstFail))

/-! ### Verdicts and credit -/

/-- SNAPSHOT: refused with STATE in AUTO mode; in MANUAL mode it makes one transfer (R39 to R41, R43, R44): each armed
socket's score moves into its history, the M-of-N test fails it or its SCORE reason and clean count follow the table of R44,
and the reply holds the new transfer number and the number of sockets judged. A VERDICT record is created for each state that
changed (R17), and then one SUMMARY record of the scores transferred that are not 0, if there are any (R46). -/
def Obligations.SnapshotTransfersScores : Prop :=
  ∀ (src tag : Byte) (s : State), s.Ready →
    (s.settings.reportMode = .auto → exec (.snapshot src tag) s = .next (s.replied src tag 64 .state [])) ∧
    (s.settings.reportMode = .manual →
      let entries := (allSockets.filter fun i => (s.socket i).state.armed && (s.socket i).running != 0).map fun i =>
        (i, (s.socket i).running)
      ∃ u : State,
        exec (.snapshot src tag) s =
          .next (u.replied src tag 64 .ok
            (be 4 u.transferNumber ++
              [BitVec.ofNat 8 (allSockets.countP fun i => (s.socket i).state.armed)])) ∧
        u.transferNumber = min 4294967295 (s.transferNumber + 1) ∧ u.zones = s.zones ∧ u.step = s.step ∧
        u.runSeconds = s.runSeconds ∧
        u.reports = s.created
          (s.verdicts u ++ if entries = [] then [] else [Record.summary (min 4294967295 (s.transferNumber + 1)) entries]) ∧
        ∀ i : SocketId,
          let k := s.socket i
          let v := u.socket i
          let p := s.policyOf i
          let history := (k.history ++ [k.running]).drop (k.history.length + 1 - 8)
          let failing := p.failM ≤ (history.drop (history.length - p.failN)).countP fun x => decide (p.failThreshold ≤ x)
          (k.state.armed = false → v = { k with running := 0 }) ∧
          (k.state.armed = true →
            v.running = 0 ∧ v.last = k.running ∧ v.history = history ∧ v.credit = k.credit ∧ v.fraction = k.fraction ∧
            v.firstFail = k.firstFail ∧
            (failing → v.state = .failed ∧ v.cause = some .score ∧ v.reasons = k.reasons ∧ v.clean = k.clean ∧
              v.hold = (if p.isolateOnFail = true then some (k.hold.getD .fail) else k.hold)) ∧
            (¬ failing → v.state.armed = true ∧ v.cause = k.cause ∧ v.hold = k.hold ∧
              v.reasons.stuck = k.reasons.stuck ∧ v.reasons.lock = k.reasons.lock ∧
              v.reasons.score =
                (if p.suspectThreshold ≤ k.running then true else k.reasons.score && decide (k.clean + 1 < p.clearK)) ∧
              v.clean =
                (if k.reasons.score = true then
                  if p.suspectThreshold ≤ k.running ∨ p.clearK ≤ k.clean + 1 then 0 else k.clean + 1
                else k.clean))))

/-- INTERVAL_EXPIRY: run seconds counts one (R21), and in AUTO mode alone a transfer is made (R20, R38). A socket that meets
all seven conditions adds the product of its factors to its fraction and its credit, up to the top, and completes when that
meets its target (R25, R28, R33 to R35); in AUTO this is said of one that the transfer does not fail, since its place is open
(log 5). No other credit moves. In RUNNING the step timer counts, and a TIME or CREDIT step that ends goes to HOLDING, or
under advance promotes a SETTLED staged step (R162, R163; log 27). A promotion that starts the engine begins its first vector
cycle in the same event, whose checks may score, one for each lane of a socket (R128, R37; logs 8 and 37). Without a
promotion every latch is clear and every flag is as conditions 2 to 6 give (R26). -/
def Obligations.IntervalExpiryAccrues : Prop :=
  ∀ s : State,
    let isAuto := decide (s.settings.reportMode = .auto)
    let seconds := min 4294967295 (s.runSeconds + 1)
    let elapsed := min 4000000 (s.step.elapsed + 1)
    ∃ u : State, exec .intervalExpiry s = .next u.arbitrate ∧ u.runSeconds = seconds ∧
      u.transferNumber = (if isAuto then min 4294967295 (s.transferNumber + 1) else s.transferNumber) ∧
      let ends := decide (s.step.state = .running) &&
        (match s.step.cur.endKind with
        | .time => decide (s.step.cur.duration ≤ elapsed)
        | .credit => decide (∀ i : SocketId, (u.socket i).state.armed = false)
        | .host => false)
      let promotes := ends && s.step.cur.advance &&
        decide (s.step.stagedState = .settled ∧ s.step.cur.number < 4294967295)
      let starts := promotes && decide (s.engine.state = .stopped ∧ s.step.staged.source.getD s.step.cur.source ≠ .none)
      ((s.step.state ≠ .running → u.step = s.step) ∧
        (s.step.state = .running → ends = false → u.step = { s.step with elapsed }) ∧
        (ends = true → promotes = false →
          u.step = { s.step with state := .holding, elapsed } ∧
          (s.settings.step = true → ∃ before : List Record,
            u.reports = (before ++ [Record.step .ended s.step.cur.number seconds]).foldl Reports.create s.reports)) ∧
        (promotes = true →
          u.step = s.step.promoted ∧
          (s.settings.step = true → ∃ before later : List Record,
            u.reports =
              (before ++ Record.step .advanced (s.step.cur.number + 1) seconds :: later).foldl Reports.create s.reports)) ∧
        (promotes = false →
          (∀ z : ZoneId, (u.zone z).latches = {}) ∧ ∀ i : SocketId, (u.socket i).qualified = u.meetsConditions i)) ∧
      ∀ i : SocketId,
        let k := s.socket i
        let v := u.socket i
        let p := s.policyOf i
        let history := (k.history ++ [k.running]).drop (k.history.length + 1 - 8)
        let fails := isAuto && k.state.armed &&
          decide (p.failM ≤ (history.drop (history.length - p.failN)).countP fun x => decide (p.failThreshold ≤ x))
        let temperature := k.estimate.or (s.zone k.zone).values.temperature
        let earns := k.qualified && s.meetsConditions i && temperature.isSome
        let score := if isAuto then 0 else k.running
        (starts = false → v.running = score) ∧ v.running ≤ score + 2 ∧
        (isAuto = true → k.state.armed = true → earns = false ∨ v.state ≠ .complete →
          v.last = k.running ∧ v.history = history) ∧
        (isAuto = false → v.last = k.last ∧ v.history = k.history ∧ v.clean = k.clean ∧ (starts = false → v.reasons = k.reasons)) ∧
        (earns = true → fails = false → ∀ (t : Int) (mv : Nat), temperature = some t →
          (s.zone k.zone).values.voltage = some mv →
          let sum := k.fraction + s.accel.factor t * s.volt.factor mv
          v.credit = min 4294967295 (k.credit + sum / 256) ∧
          v.fraction = (if 4294967295 ≤ k.credit + sum / 256 then 0 else sum % 256) ∧
          (if k.target ≠ 0 ∧ k.target * 256 ≤ v.credit then v.state = .complete
            else v.state.armed = true ∧ (isAuto = false → starts = false → v.state = k.state))) ∧
        (earns = false → v.credit = k.credit ∧ v.fraction = k.fraction ∧
          (fails = true → v.state = .failed ∧ v.cause = some .score) ∧
          (fails = false → v.state.armed = k.state.armed ∧
            ((isAuto = false ∧ starts = false) ∨ k.state.armed = false → v.state = k.state)))

/-- RUN_RESET (R19, R36, R68, R90, R103, R120, R139, R155, R171, R186): every block as its chapter gives, and what each
keeps. With the line held by another slot and the input enabled step control is HALTED again, with every rail TRIPPED for
HALT. The VERDICT records come first, then RUN_RESET, then HALTED and the four trips. The model's choices: whether a VERDICT
record shows the reasons and last score before or after they are cleared (log 20), the pending own assertion kept (log 9),
and the loop index and cycle at 0 with the period kept (log 31). -/
def Obligations.RunResetRestartsBlocks : Prop :=
  ∀ (src tag : Byte) (s : State), s.Ready →
    let halts := s.halt.others && s.settings.haltIn
    let verdicts := fun cleared : Bool => (allSockets.filter fun i => (s.socket i).state.armed).map fun i =>
      let k := s.socket i
      Record.verdict i k.state .ready none (if cleared then {} else k.reasons) s.runSeconds (k.credit / 256)
        (if cleared then 0 else k.last)
    let trips := allZones.map fun z =>
      let v := (s.zone z).values
      Record.zone z (.railTripped .halt) s.runSeconds v.voltage v.current v.temperature
    ∃ u : State, exec (.runReset src tag) s = .next (u.replied src tag 90 .ok [if halts then 4 else 0]) ∧
      u.step = { state := if halts then .halted else .idle } ∧ u.halt = { s.halt with own := false } ∧
      (∃ cleared : Bool, u.reports = s.created (verdicts cleared ++ [Record.step .runReset 0 s.runSeconds] ++
        if halts then Record.step .halted 0 s.runSeconds :: trips else [])) ∧
      (u.settings = s.settings ∧ u.order = s.order ∧ u.policies = s.policies ∧ u.accel = s.accel ∧ u.volt = s.volt ∧
        u.channels = s.channels ∧ u.drive = s.drive ∧ u.link = s.link) ∧
      (u.runSeconds = s.runSeconds ∧ u.transferNumber = s.transferNumber ∧ u.badWords = s.badWords) ∧
      u.engine = { s.engine with
        state := .stopped, queue := [], expected := none, lastDrive := 0, loopIndex := 0, cycle := 0
        prbsA := BitVec.allOnes 9, prbsB := BitVec.allOnes 15, clockPhase := true } ∧
      (∀ z : ZoneId, u.zone z =
        { cfg := (s.zone z).cfg
          values := (s.zone z).values
          rail := if halts then { state := .tripped, tripCause := some .halt } else {} }) ∧
      (∀ n : LaneId, u.lane n = { row := (s.lane n).row }) ∧
      ∀ i : SocketId,
        let k := s.socket i
        u.socket i = { k with
          state := if k.state.armed then .ready else k.state
          running := 0, last := 0, history := [], reasons := {}, clean := 0
          qualified := false, switch := false, estimate := none }

/-! ### Samples and stale timers -/

/-- SAMPLE_WORD: a word of even parity only counts as bad (R58); an accepted one sets its channel's last raw, and under
quantity NONE nothing else (R59); under a quantity the value of R61, clamped, is stored present with its timer started and is
then handed to the rails, the search or the heat controller (R62), and while the zone's rail and heat are OFF nothing else
happens. -/
def Obligations.SampleIsConvertedAndStored : Prop :=
  ∀ (word : BitVec 17) (s : State),
    (sampleParityOdd word = false →
      exec (.sampleWord word) s = .next (State.arbitrate { s with badWords := min 65535 (s.badWords + 1) })) ∧
    (sampleParityOdd word = true →
      let m : Fin 16 := ⟨word.toNat / 4096 % 16, Nat.mod_lt _ (by decide)⟩
      let raw := word.toNat % 4096
      let c := s.channels.get m
      let x : Int := c.offset + ((raw * c.scale / 4096 : Nat) : Int)
      let stored := fun f : Values → Values =>
        State.updValues { s with channels := s.channels.upd m fun c => { c with lastRaw := some raw } } c.zone f
      ∃ u : State, exec (.sampleWord word) s = .next u.arbitrate ∧
        u.channels = s.channels.upd m (fun c => { c with lastRaw := some raw }) ∧
        (c.quantity = .none → u = { s with channels := u.channels }) ∧
        (c.quantity = .voltage →
          let mv := (max 0 (min 6000 x)).toNat
          u = (stored fun v => { v with voltage := some mv, voltageTimer := true }).voltageSample c.zone mv ∧
            (u.zone c.zone).values.voltage = some mv ∧ (u.zone c.zone).values.voltageTimer = true) ∧
        (c.quantity = .current →
          let ma := (max 0 (min 60000 x)).toNat
          u = (stored fun v => { v with current := some ma, currentTimer := true }).currentSample c.zone ma ∧
            (u.zone c.zone).values.current = some ma ∧ (u.zone c.zone).values.currentTimer = true) ∧
        (c.quantity = .temperature →
          let t := max (-80) (min 400 x)
          u = (stored fun v => { v with temperature := some t, temperatureTimer := true }).temperatureSample c.zone t ∧
            (u.zone c.zone).values.temperature = some t ∧ (u.zone c.zone).values.temperatureTimer = true) ∧
        ((s.zone c.zone).rail.state = .off → (s.zone c.zone).heat.state = .off →
          (∀ z : ZoneId, u.zone z = { s.zone z with values := (u.zone z).values }) ∧ u.sockets = s.sockets ∧
            u.reports = s.reports ∧ u.step = s.step))

/-- The rails' actions on a voltage sample, which SAMPLE_WORD hands over, for a rail record that hangs together (R79, R80):
in CONFIRMING one in the window takes the rail to HOLD with its RAIL_HOLD record and no other, and one outside is noted; in
HOLD one in the window clears the count, and one outside counts, disturbs the zone and at reg_count trips, the trip record
first. -/
def Obligations.VoltageSampleRegulates : Prop :=
  ∀ (z : ZoneId) (mv : Nat) (s : State),
    let v := s.zone z
    let low := mv + v.cfg.windowMv < v.rail.setpoint
    let high := v.rail.setpoint + v.cfg.windowMv < mv
    let u := s.voltageSample z mv
    let zoneRecord := fun event : ZoneEvent =>
      Record.zone z event s.runSeconds v.values.voltage v.values.current v.values.temperature
    v.RailConsistent →
    (v.rail.state = .confirming →
      (¬ low → ¬ high →
        (u.zone z).rail = { v.rail with state := .hold, confirmTimer := false, oowCount := 0 } ∧
          u.reports = s.created [zoneRecord .railHold]) ∧
      (low → u = s.updRail z fun r => { r with side := some .low }) ∧
      (high → u = s.updRail z fun r => { r with side := some .high })) ∧
    (v.rail.state = .hold →
      (¬ low → ¬ high → u = s.updRail z fun r => { r with oowCount := 0 }) ∧
      (low ∨ high →
        (u.zone z).latches.rail = true ∧
        (∀ i : SocketId, (s.socket i).zone = z → (u.socket i).qualified = false) ∧
        (v.rail.oowCount + 1 < v.cfg.regCount →
          (u.zone z).rail = { v.rail with oowCount := v.rail.oowCount + 1 } ∧ u.reports = s.reports) ∧
        (v.cfg.regCount ≤ v.rail.oowCount + 1 →
          let cause := if low then TripCause.undervolt else .overvolt
          (u.zone z).rail.state = .tripped ∧ (u.zone z).rail.setpoint = 0 ∧ (u.zone z).rail.tripCause = some cause ∧
            ∃ later : List Record, u.reports = s.created (zoneRecord (.railTripped cause) :: later)))) ∧
    (v.rail.state = .off ∨ v.rail.state = .ramping ∨ v.rail.state = .searching ∨ v.rail.state = .tripped → u = s)

/-- STALE_TIMER_EXPIRY of a running timer: the value is absent; a powered rail trips with cause SAMPLE_LOSS, and a zone under
heat control enters BLIND and is watched again (R66, R82, R114). A stopped timer does not expire (log 2). -/
def Obligations.StaleExpiryLosesValue : Prop :=
  ∀ (z : ZoneId) (q : Quantity) (s : State),
    let v := s.zone z
    (v.values.timer q = false → exec (.staleTimerExpiry z q) s = .next s.arbitrate) ∧
    (v.values.timer q = true →
      ∃ u : State, exec (.staleTimerExpiry z q) s = .next u.arbitrate ∧
        (match q with
        | .voltage => (u.zone z).values.voltage = none
        | .current => (u.zone z).values.current = none
        | .temperature => (u.zone z).values.temperature = none) ∧
        (q ≠ .temperature → v.rail.state.powered = true →
          (u.zone z).rail.state = .tripped ∧ (u.zone z).rail.tripCause = some .sampleLoss ∧ (u.zone z).heat = v.heat) ∧
        (q ≠ .temperature → v.rail.state.powered = false → u = s.updValues z (·.expire q)) ∧
        (q = .temperature → v.heat.state = .off → u = s.updValues z (·.expire q)) ∧
        (q = .temperature → v.heat.state.lawful = true →
          (u.zone z).heat = { state := .blind, target := v.heat.target, duty := 0, integral := v.heat.integral } ∧
          (u.zone z).values.temperatureTimer = true ∧ (u.zone z).rail = v.rail))

/-! ### Rails and search -/

/-- RAMP_STEP_EXPIRY: the setpoint moves toward the ramp's goal by ramp_rate or what remains; on a present goal the rail
enters CONFIRMING, and on 0 in power-down it enters OFF (R75, R78, R79). A stopped timer does not expire (log 2), and the
out-of-window count stands at the entry to OFF (log 12), by the model's reading. -/
def Obligations.RampStepMovesSetpoint : Prop :=
  ∀ (z : ZoneId) (s : State),
    let v := s.zone z
    let goal := v.rail.goal.getD 0
    let x := if v.rail.setpoint ≤ goal then min goal (v.rail.setpoint + v.cfg.rampRate)
      else max goal (v.rail.setpoint - v.cfg.rampRate)
    (v.rail.state ≠ .ramping ∨ v.rail.rampTimer = false → exec (.rampStepExpiry z) s = .next s.arbitrate) ∧
    (v.rail.state = .ramping → v.rail.rampTimer = true →
      (x ≠ goal → exec (.rampStepExpiry z) s = .next (s.updRail z fun r => { r with setpoint := x }).arbitrate) ∧
      (x = goal → v.rail.goal.isSome = true →
        ∃ u : State, exec (.rampStepExpiry z) s = .next u.arbitrate ∧
          (u.zone z).rail =
            { v.rail with state := .confirming, setpoint := goal, rampTimer := false, confirmTimer := true, side := none } ∧
          ∀ w : ZoneId, w ≠ z → u.zone w = s.zone w) ∧
      (x = goal → v.rail.goal = none →
        ∃ u : State, exec (.rampStepExpiry z) s = .next u.arbitrate ∧
          (u.zone z).rail =
            { v.rail with state := .off, setpoint := 0, rampTimer := false, confirmTimer := false, waiting := .none }))

/-- CONFIRM_TIMER_EXPIRY trips the rail, by the side noted or for sample loss (R79, R84). SETTLE_TIMER_EXPIRY lets the search
measure (R94). SOAK_TIMER_EXPIRY takes a soaking zone to STABLE with its record, and GRACE_TIMER_EXPIRY an excursion to
HEATING or COOLING by its side (R110, R111). No timer expires while stopped (log 2). -/
def Obligations.StateTimersExpire : Prop :=
  ∀ (z : ZoneId) (s : State),
    let v := s.zone z
    let h := v.heat
    (v.rail.state ≠ .confirming ∨ v.rail.confirmTimer = false → exec (.confirmTimerExpiry z) s = .next s.arbitrate) ∧
    (v.rail.state = .confirming → v.rail.confirmTimer = true → v.search = {} →
      ∃ u : State, exec (.confirmTimerExpiry z) s = .next u.arbitrate ∧
        (u.zone z).rail.state = .tripped ∧ (u.zone z).rail.setpoint = 0 ∧ (u.zone z).rail.goal = v.rail.goal ∧
        (u.zone z).rail.tripCause = some
          (match v.rail.side with
          | some .low => .undervolt
          | some .high => .overvolt
          | none => .sampleLoss) ∧
        (u.zone z).rail.haltSource = v.rail.haltSource ∧ (u.zone z).heat = v.heat) ∧
    (v.search.phase = .settling → v.search.settleTimer = true →
      exec (.settleTimerExpiry z) s = .next (s.updSearch z fun q => { q with phase := .measuring, settleTimer := false })) ∧
    (v.search.phase ≠ .settling ∨ v.search.settleTimer = false → exec (.settleTimerExpiry z) s = .next s) ∧
    (h.state = .soaking → h.soak.isSome = true →
      exec (.soakTimerExpiry z) s =
        .next (State.reportZone (s.updHeat z fun h => { h with state := .stable, soak := none, grace := none, side := none }) z
          .thermalStable).arbitrate) ∧
    (h.state ≠ .soaking ∨ h.soak = none → exec (.soakTimerExpiry z) s = .next s.arbitrate) ∧
    (h.state = .excursion → h.grace.isSome = true →
      (h.side = some .low →
        exec (.graceTimerExpiry z) s = .next (s.updHeat z fun h => { h with state := .heating, soak := none, grace := none })) ∧
      (h.side = some .high →
        exec (.graceTimerExpiry z) s =
          .next (s.updHeat z fun h => { h with state := .cooling, soak := none, grace := none }))) ∧
    (h.state ≠ .excursion ∨ h.grace = none → exec (.graceTimerExpiry z) s = .next s)

/-- A current sample at the rails, for a rail record that hangs together (R81, R92, R95 to R97): at trip_ma a powered rail
trips for OVERCURRENT as a HALT source; from limit_ma a rail in HOLD starts a search over the zone's switched-on sockets,
shedding the lowest; a measurement that fell by share_ma holds the candidate SHORT, and below limit_ma the rail returns to
HOLD. -/
def Obligations.CurrentSampleSearches : Prop :=
  ∀ (z : ZoneId) (ma : Nat) (s : State),
    let v := s.zone z
    let u := s.currentSample z ma
    v.RailConsistent →
    (v.rail.state.powered = false → u = s) ∧
    (v.rail.state.powered = true → v.cfg.tripMa ≤ ma →
      (u.zone z).rail.state = .tripped ∧ (u.zone z).rail.tripCause = some .overcurrent ∧ (u.zone z).rail.haltSource = true ∧
        u.halt.own = s.settings.haltOut) ∧
    (v.rail.state = .hold → v.cfg.limitMa ≤ ma → ma < v.cfg.tripMa →
      (∀ (i : SocketId) (rest : List SocketId),
        (allSockets.filter fun j => decide ((s.socket j).zone = z) && (s.socket j).switch) = i :: rest →
        (u.zone z).rail.state = .searching ∧
        (u.zone z).search =
          { phase := .settling, candidate := some i, baseline := some ma, pending := rest, settleTimer := true } ∧
        (u.socket i).switch = false ∧ (u.zone z).latches.rail = true)) ∧
    (∀ (i : SocketId) (baseline : Nat), v.rail.state = .searching → v.search.phase = .measuring →
      v.search.candidate = some i → v.search.baseline = some baseline → ma < v.cfg.tripMa →
      (ma + v.cfg.shareMa ≤ baseline →
        (u.socket i).hold = Hold.place (s.socket i).hold .short ∧
        ((s.socket i).state.armed = true → (u.socket i).state = .failed ∧ (u.socket i).cause = some .short) ∧
        (ma < v.cfg.limitMa → (u.zone z).rail.state = .hold ∧ (u.zone z).search = {})) ∧
      (baseline < ma + v.cfg.shareMa → ∀ (j : SocketId) (rest : List SocketId), v.search.pending = j :: rest →
        (u.zone z).search =
          { phase := .settling, candidate := some j, baseline := some baseline, pending := rest, settleTimer := true } ∧
        (u.socket i).hold = (s.socket i).hold ∧ (u.socket i).state = (s.socket i).state))

/-! ### Heat -/

/-- A temperature sample at the heat controller, which SAMPLE_WORD hands over. At or above hard_limit the zone enters
OVERTEMP, its rail TRIPPED and the own output asserted under its enable (R112), and it leaves it 20 half-degrees below
(R113). Otherwise the band decides by thermal state (R109 to R111), or places a BLIND zone (R114), and the heater law then
sets the integral and the duty unless step control is HALTED (R115, R116). Each clause names the record it creates, and
outside OVERTEMP the rail stands. -/
def Obligations.TemperatureSampleHeats : Prop :=
  ∀ (z : ZoneId) (t : Int) (s : State),
    let v := s.zone z
    let c := v.cfg
    let h := v.heat
    let u := s.temperatureSample z t
    let zoneRecord := fun event : ZoneEvent =>
      Record.zone z event s.runSeconds v.values.voltage v.values.current v.values.temperature
    let driven := fun (g : Int) (h : Heat) =>
      let e := g - t
      let integral :=
        if (h.duty = c.dutyMax ∧ 0 < e) ∨ (h.duty = 0 ∧ e < 0) then h.integral
        else max (-4096) (min 4096 (h.integral + e))
      if s.step.state = .halted then h
      else { h with integral, duty := (max 0 (min (c.dutyMax : Int) (c.kp * e + c.ki * integral / 64))).toNat }
    let below := fun g : Int => decide (t < g - c.band)
    let inside := fun g : Int => decide (g - c.band ≤ t ∧ t ≤ g + c.band)
    let toSide := fun g : Int =>
      { h with
        state := if below g then .heating else .cooling
        soak := none, grace := none, side := some (if below g then .low else .high) }
    let placed := fun g : Int =>
      if !inside g then toSide g
      else if c.soakS = 0 then { h with state := .stable, soak := none, grace := none, side := none }
      else { h with state := .soaking, soak := some c.soakS, grace := none, side := none }
    let disturbed := (u.zone z).latches.thermal = true ∧ ∀ i : SocketId, (s.socket i).zone = z → (u.socket i).qualified = false
    (h.state = .off ∨ (h.state = .overtemp ∧ c.hardLimit - 20 < t) → u = s) ∧
    (h.state = .overtemp → t ≤ c.hardLimit - 20 →
      (h.target = none → (u.zone z).heat = {}) ∧
      (∀ g : Int, h.target = some g → (u.zone z).heat = driven g (placed g)) ∧
      (u.zone z).rail = v.rail ∧ u.halt.own = (s.settings.haltOut && u.anyHaltSource) ∧
      ∃ later : List Record, u.reports = s.created (zoneRecord .overtempClear :: later)) ∧
    (h.state.lawful = true ∨ h.state = .blind →
      (c.hardLimit ≤ t →
        (u.zone z).heat =
          { h with state := .overtemp, duty := 0, soak := none, grace := none, side := none } ∧
        (u.zone z).rail.state = .tripped ∧ (v.rail.state ≠ .tripped → (u.zone z).rail.tripCause = some .overtemp) ∧
        u.halt.own = s.settings.haltOut ∧ (h.state = .stable ∨ h.state = .excursion → disturbed) ∧
        ∃ later : List Record, u.reports = s.created (zoneRecord .overtempSet :: later)) ∧
      ∀ g : Int, h.target = some g → t < c.hardLimit →
        (u.zone z).rail = v.rail ∧
        (h.state = .heating ∨ h.state = .cooling ∨ h.state = .blind →
          (u.zone z).heat = driven g (placed g) ∧
          u.reports = s.created (if inside g && c.soakS == 0 then [zoneRecord .thermalStable] else [])) ∧
        (h.state = .soaking →
          (u.zone z).heat = driven g (if inside g then h else toSide g) ∧ u.reports = s.reports) ∧
        (h.state = .stable → inside g = true → (u.zone z).heat = driven g h ∧ u.reports = s.reports) ∧
        (h.state = .stable → inside g = false →
          (u.zone z).heat = driven g
            (if c.graceS = 0 then toSide g
            else { toSide g with state := .excursion, grace := some c.graceS }) ∧
          disturbed ∧ u.reports = s.created [zoneRecord .thermalExcursion]) ∧
        (h.state = .excursion →
          disturbed ∧
          (inside g = true →
            (u.zone z).heat = driven g { h with state := .stable, soak := none, grace := none, side := none } ∧
            u.reports = s.created [zoneRecord .thermalStable]) ∧
          (inside g = false →
            (u.zone z).heat = driven g { h with side := some (if below g then .low else .high) } ∧
            u.reports = s.reports)))

/-! ### The pattern engine -/

/-- VECTOR_CYCLE: a STOPPED engine runs none (R128); with no boundary and no window end due it is the start of a cycle and no
more. In one, of the vector in play, DRIVE writes take effect, with the EXERCISE notice for a zone whose last active lane
they take away (R137), the lanes of zones in HOLD and SEARCHING drive, the drive word is held, the generators advance, and
the repeat cycle counts on (R129, R133, R135, R136); STARVED advances only the generators. -/
def Obligations.VectorCycleAdvancesEngine : Prop :=
  ∀ (sense : BitVec 64) (s : State),
    (s.engine.state = .stopped → exec (.vectorCycle sense) s = .next s.arbitrate) ∧
    (s.engine.state ≠ .stopped → s.NoWindowDue →
      (s.engine.boundaryDue = false → exec (.vectorCycle sense) s = .next (s.startCycle sense).arbitrate) ∧
      (∀ (vec : Vec) (source : VectorSource), s.engine.inPlay = some (vec, source) → s.engine.cycle < vec.reps →
        ∃ u : State, exec (.vectorCycle sense) s = .next u.arbitrate ∧
          u.engine = { s.engine with
            cycle := s.engine.cycle + 1
            lastDrive := vec.drive
            prbsA := prbsANext s.engine.prbsA
            prbsB := prbsBNext s.engine.prbsB
            clockPhase := !s.engine.clockPhase } ∧
          u.driveInEffect = s.drive ∧ u.step = s.step ∧
          (∀ z : ZoneId, (u.zone z).driving = (s.zone z).rail.state.ungated ∧ (u.zone z).rail = (s.zone z).rail ∧
            (u.zone z).heat = (s.zone z).heat ∧
            let lost := s.hasActiveLane z && !State.hasActiveLane { s with driveInEffect := s.drive } z
            (u.zone z).latches =
              { (s.zone z).latches with exercise := (s.zone z).latches.exercise || lost } ∧
            ∀ i : SocketId, (s.socket i).zone = z → (u.socket i).qualified = ((s.socket i).qualified && !lost)) ∧
          ∀ i : SocketId, (s.socket i).state.armed = false → (u.socket i).running = (s.socket i).running ∧
            (u.socket i).firstFail = (s.socket i).firstFail) ∧
      (s.engine.state = .starved →
        ∃ u : State, exec (.vectorCycle sense) s = .next u.arbitrate ∧
          u.engine = { s.engine with
            prbsA := prbsANext s.engine.prbsA
            prbsB := prbsBNext s.engine.prbsB
            clockPhase := !s.engine.clockPhase } ∧
          u.lanes = s.lanes ∧ u.sockets = s.sockets ∧ u.driveInEffect = s.drive ∧
          ∀ z : ZoneId, (u.zone z).latches = (s.zone z).latches))

/-- The checks of the one eligible lane in a vector cycle. COMPARE finds a failing check on a mismatch of an unmasked bit
(R144). PRBS fills its register, then predicts, counts predictions and errors, and in LOCKED finds a failing check on an
error, the register taking the predicted bit there and the received one in UNLOCKED (R145, R146). A toggle watch counts the
cycle and its edge, and holds the value (R148). A failing check adds one to the score of the lane's socket and is captured,
with its FIRST_FAIL record, when the socket has no first-fail record (R37, R47, R49). -/
def Obligations.CompareMismatchScores : Prop :=
  ∀ (n : LaneId) (sense : BitVec 64) (s : State) (vec : Vec) (source : VectorSource),
    let i := laneSocket n
    let k := s.socket i
    let row := (s.lane n).row
    let p := (s.lane n).prbs
    let w := (s.lane n).watch
    let sample := sense.getLsbD n.val
    let corrected := sample != row.invert
    s.NoWindowDue → s.engine.inPlay = some (vec, source) → s.engine.cycle < vec.reps →
    s.eligible n = true → (∀ m : LaneId, m ≠ n → (s.lane m).row.mode.cycled = false) → s.drive = s.driveInEffect →
    ∃ u : State, exec (.vectorCycle sense) s = .next u.arbitrate ∧
      (∀ m : LaneId, m ≠ n → u.lane m = s.lane m) ∧ (u.lane n).row = row ∧ (u.lane n).gate = (s.lane n).gate ∧
      (let fails := fun (kind : CheckKind) (expected observed : Bool) =>
          let captured : FirstFail :=
            { check := { kind, lane := n, source, repeatCycle := s.engine.cycle + 1, expected, observed }
              runSeconds := s.runSeconds
              credit := k.credit / 256
              temperature := k.estimate.or (s.zone k.zone).values.temperature }
          u.socket i = { k with
            running := min 65535 (k.running + 1), firstFail := some (k.firstFail.getD captured) } ∧
          (∀ j : SocketId, j ≠ i → u.socket j = s.socket j) ∧
          u.reports = s.created (if k.firstFail = none then [Record.firstFail i captured] else [])
        let passes := u.sockets = s.sockets ∧ u.reports = s.reports
        (row.mode = .compare →
          let expected := vec.expect.getLsbD row.expectChannel.val != row.invert
          (u.lane n).prbs = p ∧
          if vec.mask.getLsbD row.expectChannel.val = true ∧ expected ≠ sample then fails .compare expected sample else passes) ∧
        (row.mode = .prbs →
          let length := if row.polynomial = .a then 9 else 15
          let predicted :=
            if row.polynomial = .a then p.register.getLsbD 8 != p.register.getLsbD 4
            else p.register.getLsbD 14 != p.register.getLsbD 13
          let shifted := fun bit : Bool =>
            { p with register := (p.register <<< 1) ||| BitVec.ofNat 15 bit.toNat, fill := min 15 (p.fill + 1) }
          (p.fill < length → (u.lane n).prbs = shifted corrected ∧ passes) ∧
          (length ≤ p.fill →
            (u.lane n).prbs = { shifted (if p.locked then predicted else corrected) with
              predictions := p.predictions + 1
              errors := p.errors + if predicted = corrected then 0 else 1 } ∧
            if p.locked = true ∧ predicted ≠ corrected then fails .prbs predicted corrected else passes)) ∧
        (row.mode = .toggle → (u.lane n).prbs = p ∧ passes) ∧
        (u.lane n).watch =
          if row.mode = .toggle ∨ row.watch = true then
            let counted := match row.edgeKind with
              | .rising => w.previous == some false && corrected
              | .falling => w.previous == some true && !corrected
              | .both => w.previous == some (!corrected)
            { w with
              cycles := w.cycles + 1
              edges := w.edges + if counted then 1 else 0
              previous := some corrected }
          else w)

/-- VECTOR_BOUNDARY when it is due: a streamed vector leaves the queue, the period of the current step comes into force, and
the next vector is chosen by the source as the table of R130 gives; starving disturbs every zone (R129 to R131). A boundary
that is not due changes nothing (log 7). The loop index and cycle of a STARVED engine are the model's (log 31). -/
def Obligations.VectorBoundaryChoosesNext : Prop :=
  ∀ s : State,
    let e := s.engine
    let source := s.step.cur.source
    let run := exec .vectorBoundary s
    let starves := fun queue : List QueueEntry =>
      ∃ u : State, run = .next u.arbitrate ∧
        u.engine = { e with state := .starved, queue, loopIndex := 0, cycle := 0, period := s.step.cur.period } ∧
        (∀ z : ZoneId, (u.zone z).latches.exercise = true) ∧ ∀ i : SocketId, (u.socket i).qualified = false
    let streams := fun queue : List QueueEntry =>
      run = .next (s.updEngine fun e =>
        { e with state := .streaming, queue, loopIndex := 0, cycle := 0, period := s.step.cur.period }).arbitrate
    let loops := fun (queue : List QueueEntry) (index : Nat) =>
      run = .next (s.updEngine fun e =>
        { e with state := .looping, queue, loopIndex := index, cycle := 0, period := s.step.cur.period }).arbitrate
    (e.boundaryDue = false → run = .next s.arbitrate) ∧
    (e.boundaryDue = true → source = .none →
      ∃ u : State, run = .next u.arbitrate ∧ u.engine.state = .stopped ∧ u.engine.period = s.step.cur.period ∧
        u.engine.queue = if e.state = .streaming then e.queue.tail else e.queue) ∧
    (e.boundaryDue = true → e.state = .streaming →
      (source = .stream ∨ source = .streamLoop → e.queue.tail ≠ [] → streams e.queue.tail) ∧
      (source = .stream → e.queue.tail = [] → starves []) ∧
      (source = .streamLoop → e.queue.tail = [] →
        (e.loopValid = true →
          run = .next (State.reportPattern (s.updEngine fun e =>
            { e with state := .looping, queue := [], loopIndex := 0, cycle := 0, period := s.step.cur.period })
            .loopFallback none none).arbitrate) ∧
        (e.loopValid = false → starves [])) ∧
      (source = .loop → (e.loopValid = true → loops e.queue.tail 0) ∧ (e.loopValid = false → starves e.queue.tail))) ∧
    (e.boundaryDue = true → e.state = .looping →
      let index := if e.loopIndex + 1 < e.loopLength then e.loopIndex + 1 else 0
      (source = .loop → loops e.queue index) ∧
      (source = .streamLoop →
        (index = 0 ∧ e.queue ≠ [] → streams e.queue) ∧ (index ≠ 0 ∨ e.queue = [] → loops e.queue index)) ∧
      (source = .stream → (e.queue ≠ [] → streams e.queue) ∧ (e.queue = [] → starves [])))

/-! ### The checker -/

/-- PRBS_WINDOW_END with the 48th prediction made (R147): a window of at most 4 errors is good; a second window running that
disagrees with the lock changes it, with its LANE record first. TOGGLE_WINDOW_END with the 1024th cycle made (R149): fewer
than 4 edges is low, and a second window running that disagrees changes STUCK, with its LANE record first. A lock lost and a
lane stuck give an armed socket the reason (R12); a lock gained and a lane unstuck leave it only the reasons that a lane
still gives (R13); the state follows the set, with a VERDICT record when it changes (R17). An end not due changes nothing
(log 8). -/
def Obligations.WindowEndsJudgeLanes : Prop :=
  ∀ (n : LaneId) (s : State),
    let i := laneSocket n
    let k := s.socket i
    let p := (s.lane n).prbs
    let w := (s.lane n).watch
    let stands := fun u : State => u.sockets = s.sockets ∧ u.reports = s.reports
    let changes := fun (u : State) (event : LaneEvent) (reasons : Reasons) =>
      (∀ j : SocketId, j ≠ i → u.socket j = s.socket j) ∧
      u.socket i =
        (if k.state.armed = true then { k with reasons, state := if reasons = {} then .running else .suspect } else k) ∧
      u.reports = s.created (Record.lane i n event :: s.verdicts u)
    let reviewed := fun u : State =>
      let a := u.lane (primaryLane i)
      let b := u.lane (secondaryLane i)
      { k.reasons with
        stuck := k.reasons.stuck && (a.watch.stuck || b.watch.stuck)
        lock := k.reasons.lock && (a.prbs.lockLost || b.prbs.lockLost) }
    (p.predictions < 48 → exec (.prbsWindowEnd n) s = .next s.arbitrate) ∧
    (48 ≤ p.predictions →
      ∃ u : State, exec (.prbsWindowEnd n) s = .next u.arbitrate ∧ u.zones = s.zones ∧ u.runSeconds = s.runSeconds ∧
        (∀ m : LaneId, m ≠ n → u.lane m = s.lane m) ∧
        (u.lane n).row = (s.lane n).row ∧ (u.lane n).watch = w ∧ (u.lane n).gate = (s.lane n).gate ∧
        let disagrees := decide (p.errors ≤ 4) != p.locked
        (disagrees = false → (u.lane n).prbs = { p with predictions := 0, errors := 0, run := 0 } ∧ stands u) ∧
        (disagrees = true → p.run = 0 → (u.lane n).prbs = { p with predictions := 0, errors := 0, run := 1 } ∧ stands u) ∧
        (disagrees = true → 1 ≤ p.run →
          (u.lane n).prbs =
            { p with predictions := 0, errors := 0, run := 0, locked := !p.locked, lockLost := p.locked } ∧
          if p.locked = true then changes u .lockLost { k.reasons with lock := true }
          else changes u .lockGained (reviewed u))) ∧
    (w.cycles < 1024 → exec (.toggleWindowEnd n) s = .next s.arbitrate) ∧
    (1024 ≤ w.cycles →
      ∃ u : State, exec (.toggleWindowEnd n) s = .next u.arbitrate ∧ u.zones = s.zones ∧ u.runSeconds = s.runSeconds ∧
        (∀ m : LaneId, m ≠ n → u.lane m = s.lane m) ∧
        (u.lane n).row = (s.lane n).row ∧ (u.lane n).prbs = p ∧ (u.lane n).gate = (s.lane n).gate ∧
        let disagrees := decide (w.edges < 4) != w.stuck
        (disagrees = false → (u.lane n).watch = { w with cycles := 0, edges := 0, run := 0 } ∧ stands u) ∧
        (disagrees = true → w.run = 0 → (u.lane n).watch = { w with cycles := 0, edges := 0, run := 1 } ∧ stands u) ∧
        (disagrees = true → 1 ≤ w.run →
          (u.lane n).watch = { w with cycles := 0, edges := 0, run := 0, stuck := !w.stuck } ∧
          if w.stuck = true then changes u .stuckClear (reviewed u)
          else changes u .stuckSet { k.reasons with stuck := true }))

/-- FREQ_LANE_RISING_EDGE counts on a running gate (R150). GATE_EXPIRY (R151, R152, R117): the divided count saturates; 0 and
65535 are invalid and lose the monitor and the estimate; any other gives the clamped estimate, which at runaway_limit places
hold RUNAWAY by its precedence and fails an armed socket; the next gate starts at 0. No gate, no effect (log 2). -/
def Obligations.GatesMeasureJunctions : Prop :=
  ∀ (i : SocketId) (s : State),
    let n := secondaryLane i
    let g := (s.lane n).gate
    let k := s.socket i
    (∀ raw : Nat, g.raw = some raw →
      exec (.freqLaneRisingEdge i) s =
        .next (s.updLane n fun l => { l with gate := { l.gate with raw := some (min 4294967295 (raw + 1)) } })) ∧
    (g.raw = none → exec (.freqLaneRisingEdge i) s = .next s ∧ exec (.gateExpiry i) s = .next s.arbitrate) ∧
    ∀ raw : Nat, g.raw = some raw →
      let count := min 65535 (raw / 2 ^ (s.lane n).row.prescale)
      let estimate := max (-80) (min 400 (k.tjOffset + k.tjSlope * count / 4096))
      ∃ u : State, exec (.gateExpiry i) s = .next u.arbitrate ∧ u.zones = s.zones ∧
        (u.lane n).gate.lastCount = some count ∧
        (count = 0 ∨ count = 65535 →
          (u.lane n).gate = { raw := some 0, monitor := .lost, lastCount := some count } ∧
            u.socket i = { k with estimate := none } ∧
            u.reports = (if g.monitor = .lost then s else s.report (.lane i n .monitorLost)).reports) ∧
        (count ≠ 0 → count ≠ 65535 →
          (u.lane n).gate.monitor = .valid ∧
          (estimate < (s.policyOf i).runawayLimit →
            (u.lane n).gate.raw = some 0 ∧ u.socket i = { k with estimate := some estimate }) ∧
          ((s.policyOf i).runawayLimit ≤ estimate →
            (u.socket i).hold = Hold.place k.hold .runaway ∧ (u.socket i).switch = false ∧
            (k.state.armed = true → (u.socket i).state = .failed ∧ (u.socket i).cause = some .runaway) ∧
            (k.state.armed = false → (u.socket i).state = k.state)))
end

