-- ==== Sys2Proof/Laws/State.lean ====
section
/-! SUPPORT. One lemma per field of State for each of the fifteen updates of Machine/Ops.lean, and what the three readers of a bank see
after an update, so that no proof unfolds one. -/

namespace Sys2Proof.Machine.State

variable (s : State)

/-! ### updSocket -/

@[simp] theorem updSocket_zones (i : SocketId) (f : Socket → Socket) : (s.updSocket i f).zones = s.zones := rfl
@[simp] theorem updSocket_order (i : SocketId) (f : Socket → Socket) : (s.updSocket i f).order = s.order := rfl
@[simp] theorem updSocket_policies (i : SocketId) (f : Socket → Socket) : (s.updSocket i f).policies = s.policies := rfl
@[simp] theorem updSocket_accel (i : SocketId) (f : Socket → Socket) : (s.updSocket i f).accel = s.accel := rfl
@[simp] theorem updSocket_volt (i : SocketId) (f : Socket → Socket) : (s.updSocket i f).volt = s.volt := rfl
@[simp] theorem updSocket_channels (i : SocketId) (f : Socket → Socket) : (s.updSocket i f).channels = s.channels := rfl
@[simp] theorem updSocket_drive (i : SocketId) (f : Socket → Socket) : (s.updSocket i f).drive = s.drive := rfl
@[simp] theorem updSocket_driveInEffect (i : SocketId) (f : Socket → Socket) : (s.updSocket i f).driveInEffect = s.driveInEffect := rfl
@[simp] theorem updSocket_lanes (i : SocketId) (f : Socket → Socket) : (s.updSocket i f).lanes = s.lanes := rfl
@[simp] theorem updSocket_engine (i : SocketId) (f : Socket → Socket) : (s.updSocket i f).engine = s.engine := rfl
@[simp] theorem updSocket_step (i : SocketId) (f : Socket → Socket) : (s.updSocket i f).step = s.step := rfl
@[simp] theorem updSocket_halt (i : SocketId) (f : Socket → Socket) : (s.updSocket i f).halt = s.halt := rfl
@[simp] theorem updSocket_settings (i : SocketId) (f : Socket → Socket) : (s.updSocket i f).settings = s.settings := rfl
@[simp] theorem updSocket_reports (i : SocketId) (f : Socket → Socket) : (s.updSocket i f).reports = s.reports := rfl
@[simp] theorem updSocket_link (i : SocketId) (f : Socket → Socket) : (s.updSocket i f).link = s.link := rfl
@[simp] theorem updSocket_runSeconds (i : SocketId) (f : Socket → Socket) : (s.updSocket i f).runSeconds = s.runSeconds := rfl
@[simp] theorem updSocket_transferNumber (i : SocketId) (f : Socket → Socket) : (s.updSocket i f).transferNumber = s.transferNumber := rfl
@[simp] theorem updSocket_badWords (i : SocketId) (f : Socket → Socket) : (s.updSocket i f).badWords = s.badWords := rfl
@[simp] theorem updSocket_freeIndex (i : SocketId) (f : Socket → Socket) : (s.updSocket i f).freeIndex = s.freeIndex := rfl
@[simp] theorem updSocket_pending (i : SocketId) (f : Socket → Socket) : (s.updSocket i f).pending = s.pending := rfl
@[simp] theorem updSocket_zone (i : SocketId) (f : Socket → Socket) (w : ZoneId) : (s.updSocket i f).zone w = s.zone w := rfl
@[simp] theorem updSocket_lane (i : SocketId) (f : Socket → Socket) (m : LaneId) : (s.updSocket i f).lane m = s.lane m := rfl

theorem updSocket_socket (i j : SocketId) (f : Socket → Socket) :
    (s.updSocket i f).socket j = if i = j then f (s.socket i) else s.socket j := Table.get_upd ..

@[simp] theorem updSocket_socket_same (i : SocketId) (f : Socket → Socket) : (s.updSocket i f).socket i = f (s.socket i) := by
  simp [updSocket_socket]

/-! ### updZone -/

@[simp] theorem updZone_sockets (z : ZoneId) (f : Zone → Zone) : (s.updZone z f).sockets = s.sockets := rfl
@[simp] theorem updZone_order (z : ZoneId) (f : Zone → Zone) : (s.updZone z f).order = s.order := rfl
@[simp] theorem updZone_policies (z : ZoneId) (f : Zone → Zone) : (s.updZone z f).policies = s.policies := rfl
@[simp] theorem updZone_accel (z : ZoneId) (f : Zone → Zone) : (s.updZone z f).accel = s.accel := rfl
@[simp] theorem updZone_volt (z : ZoneId) (f : Zone → Zone) : (s.updZone z f).volt = s.volt := rfl
@[simp] theorem updZone_channels (z : ZoneId) (f : Zone → Zone) : (s.updZone z f).channels = s.channels := rfl
@[simp] theorem updZone_drive (z : ZoneId) (f : Zone → Zone) : (s.updZone z f).drive = s.drive := rfl
@[simp] theorem updZone_driveInEffect (z : ZoneId) (f : Zone → Zone) : (s.updZone z f).driveInEffect = s.driveInEffect := rfl
@[simp] theorem updZone_lanes (z : ZoneId) (f : Zone → Zone) : (s.updZone z f).lanes = s.lanes := rfl
@[simp] theorem updZone_engine (z : ZoneId) (f : Zone → Zone) : (s.updZone z f).engine = s.engine := rfl
@[simp] theorem updZone_step (z : ZoneId) (f : Zone → Zone) : (s.updZone z f).step = s.step := rfl
@[simp] theorem updZone_halt (z : ZoneId) (f : Zone → Zone) : (s.updZone z f).halt = s.halt := rfl
@[simp] theorem updZone_settings (z : ZoneId) (f : Zone → Zone) : (s.updZone z f).settings = s.settings := rfl
@[simp] theorem updZone_reports (z : ZoneId) (f : Zone → Zone) : (s.updZone z f).reports = s.reports := rfl
@[simp] theorem updZone_link (z : ZoneId) (f : Zone → Zone) : (s.updZone z f).link = s.link := rfl
@[simp] theorem updZone_runSeconds (z : ZoneId) (f : Zone → Zone) : (s.updZone z f).runSeconds = s.runSeconds := rfl
@[simp] theorem updZone_transferNumber (z : ZoneId) (f : Zone → Zone) : (s.updZone z f).transferNumber = s.transferNumber := rfl
@[simp] theorem updZone_badWords (z : ZoneId) (f : Zone → Zone) : (s.updZone z f).badWords = s.badWords := rfl
@[simp] theorem updZone_freeIndex (z : ZoneId) (f : Zone → Zone) : (s.updZone z f).freeIndex = s.freeIndex := rfl
@[simp] theorem updZone_pending (z : ZoneId) (f : Zone → Zone) : (s.updZone z f).pending = s.pending := rfl
@[simp] theorem updZone_socket (z : ZoneId) (f : Zone → Zone) (i : SocketId) : (s.updZone z f).socket i = s.socket i := rfl
@[simp] theorem updZone_lane (z : ZoneId) (f : Zone → Zone) (m : LaneId) : (s.updZone z f).lane m = s.lane m := rfl

theorem updZone_zone (z w : ZoneId) (f : Zone → Zone) :
    (s.updZone z f).zone w = if z = w then f (s.zone z) else s.zone w := Table.get_upd ..

@[simp] theorem updZone_zone_same (z : ZoneId) (f : Zone → Zone) : (s.updZone z f).zone z = f (s.zone z) := by
  simp [updZone_zone]

/-! ### updRail -/

@[simp] theorem updRail_sockets (z : ZoneId) (f : Rail → Rail) : (s.updRail z f).sockets = s.sockets := rfl
@[simp] theorem updRail_order (z : ZoneId) (f : Rail → Rail) : (s.updRail z f).order = s.order := rfl
@[simp] theorem updRail_policies (z : ZoneId) (f : Rail → Rail) : (s.updRail z f).policies = s.policies := rfl
@[simp] theorem updRail_accel (z : ZoneId) (f : Rail → Rail) : (s.updRail z f).accel = s.accel := rfl
@[simp] theorem updRail_volt (z : ZoneId) (f : Rail → Rail) : (s.updRail z f).volt = s.volt := rfl
@[simp] theorem updRail_channels (z : ZoneId) (f : Rail → Rail) : (s.updRail z f).channels = s.channels := rfl
@[simp] theorem updRail_drive (z : ZoneId) (f : Rail → Rail) : (s.updRail z f).drive = s.drive := rfl
@[simp] theorem updRail_driveInEffect (z : ZoneId) (f : Rail → Rail) : (s.updRail z f).driveInEffect = s.driveInEffect := rfl
@[simp] theorem updRail_lanes (z : ZoneId) (f : Rail → Rail) : (s.updRail z f).lanes = s.lanes := rfl
@[simp] theorem updRail_engine (z : ZoneId) (f : Rail → Rail) : (s.updRail z f).engine = s.engine := rfl
@[simp] theorem updRail_step (z : ZoneId) (f : Rail → Rail) : (s.updRail z f).step = s.step := rfl
@[simp] theorem updRail_halt (z : ZoneId) (f : Rail → Rail) : (s.updRail z f).halt = s.halt := rfl
@[simp] theorem updRail_settings (z : ZoneId) (f : Rail → Rail) : (s.updRail z f).settings = s.settings := rfl
@[simp] theorem updRail_reports (z : ZoneId) (f : Rail → Rail) : (s.updRail z f).reports = s.reports := rfl
@[simp] theorem updRail_link (z : ZoneId) (f : Rail → Rail) : (s.updRail z f).link = s.link := rfl
@[simp] theorem updRail_runSeconds (z : ZoneId) (f : Rail → Rail) : (s.updRail z f).runSeconds = s.runSeconds := rfl
@[simp] theorem updRail_transferNumber (z : ZoneId) (f : Rail → Rail) : (s.updRail z f).transferNumber = s.transferNumber := rfl
@[simp] theorem updRail_badWords (z : ZoneId) (f : Rail → Rail) : (s.updRail z f).badWords = s.badWords := rfl
@[simp] theorem updRail_freeIndex (z : ZoneId) (f : Rail → Rail) : (s.updRail z f).freeIndex = s.freeIndex := rfl
@[simp] theorem updRail_pending (z : ZoneId) (f : Rail → Rail) : (s.updRail z f).pending = s.pending := rfl
@[simp] theorem updRail_socket (z : ZoneId) (f : Rail → Rail) (i : SocketId) : (s.updRail z f).socket i = s.socket i := rfl
@[simp] theorem updRail_lane (z : ZoneId) (f : Rail → Rail) (m : LaneId) : (s.updRail z f).lane m = s.lane m := rfl

theorem updRail_zone (z w : ZoneId) (f : Rail → Rail) :
    (s.updRail z f).zone w = if z = w then { s.zone z with rail := f (s.zone z).rail } else s.zone w := Table.get_upd ..

@[simp] theorem updRail_zone_same (z : ZoneId) (f : Rail → Rail) :
    (s.updRail z f).zone z = { s.zone z with rail := f (s.zone z).rail } := by
  simp [updRail_zone]

/-! ### updSearch -/

@[simp] theorem updSearch_sockets (z : ZoneId) (f : Search → Search) : (s.updSearch z f).sockets = s.sockets := rfl
@[simp] theorem updSearch_order (z : ZoneId) (f : Search → Search) : (s.updSearch z f).order = s.order := rfl
@[simp] theorem updSearch_policies (z : ZoneId) (f : Search → Search) : (s.updSearch z f).policies = s.policies := rfl
@[simp] theorem updSearch_accel (z : ZoneId) (f : Search → Search) : (s.updSearch z f).accel = s.accel := rfl
@[simp] theorem updSearch_volt (z : ZoneId) (f : Search → Search) : (s.updSearch z f).volt = s.volt := rfl
@[simp] theorem updSearch_channels (z : ZoneId) (f : Search → Search) : (s.updSearch z f).channels = s.channels := rfl
@[simp] theorem updSearch_drive (z : ZoneId) (f : Search → Search) : (s.updSearch z f).drive = s.drive := rfl
@[simp] theorem updSearch_driveInEffect (z : ZoneId) (f : Search → Search) : (s.updSearch z f).driveInEffect = s.driveInEffect := rfl
@[simp] theorem updSearch_lanes (z : ZoneId) (f : Search → Search) : (s.updSearch z f).lanes = s.lanes := rfl
@[simp] theorem updSearch_engine (z : ZoneId) (f : Search → Search) : (s.updSearch z f).engine = s.engine := rfl
@[simp] theorem updSearch_step (z : ZoneId) (f : Search → Search) : (s.updSearch z f).step = s.step := rfl
@[simp] theorem updSearch_halt (z : ZoneId) (f : Search → Search) : (s.updSearch z f).halt = s.halt := rfl
@[simp] theorem updSearch_settings (z : ZoneId) (f : Search → Search) : (s.updSearch z f).settings = s.settings := rfl
@[simp] theorem updSearch_reports (z : ZoneId) (f : Search → Search) : (s.updSearch z f).reports = s.reports := rfl
@[simp] theorem updSearch_link (z : ZoneId) (f : Search → Search) : (s.updSearch z f).link = s.link := rfl
@[simp] theorem updSearch_runSeconds (z : ZoneId) (f : Search → Search) : (s.updSearch z f).runSeconds = s.runSeconds := rfl
@[simp] theorem updSearch_transferNumber (z : ZoneId) (f : Search → Search) : (s.updSearch z f).transferNumber = s.transferNumber := rfl
@[simp] theorem updSearch_badWords (z : ZoneId) (f : Search → Search) : (s.updSearch z f).badWords = s.badWords := rfl
@[simp] theorem updSearch_freeIndex (z : ZoneId) (f : Search → Search) : (s.updSearch z f).freeIndex = s.freeIndex := rfl
@[simp] theorem updSearch_pending (z : ZoneId) (f : Search → Search) : (s.updSearch z f).pending = s.pending := rfl
@[simp] theorem updSearch_socket (z : ZoneId) (f : Search → Search) (i : SocketId) : (s.updSearch z f).socket i = s.socket i := rfl
@[simp] theorem updSearch_lane (z : ZoneId) (f : Search → Search) (m : LaneId) : (s.updSearch z f).lane m = s.lane m := rfl

theorem updSearch_zone (z w : ZoneId) (f : Search → Search) :
    (s.updSearch z f).zone w = if z = w then { s.zone z with search := f (s.zone z).search } else s.zone w := Table.get_upd ..

@[simp] theorem updSearch_zone_same (z : ZoneId) (f : Search → Search) :
    (s.updSearch z f).zone z = { s.zone z with search := f (s.zone z).search } := by
  simp [updSearch_zone]

/-! ### updHeat -/

@[simp] theorem updHeat_sockets (z : ZoneId) (f : Heat → Heat) : (s.updHeat z f).sockets = s.sockets := rfl
@[simp] theorem updHeat_order (z : ZoneId) (f : Heat → Heat) : (s.updHeat z f).order = s.order := rfl
@[simp] theorem updHeat_policies (z : ZoneId) (f : Heat → Heat) : (s.updHeat z f).policies = s.policies := rfl
@[simp] theorem updHeat_accel (z : ZoneId) (f : Heat → Heat) : (s.updHeat z f).accel = s.accel := rfl
@[simp] theorem updHeat_volt (z : ZoneId) (f : Heat → Heat) : (s.updHeat z f).volt = s.volt := rfl
@[simp] theorem updHeat_channels (z : ZoneId) (f : Heat → Heat) : (s.updHeat z f).channels = s.channels := rfl
@[simp] theorem updHeat_drive (z : ZoneId) (f : Heat → Heat) : (s.updHeat z f).drive = s.drive := rfl
@[simp] theorem updHeat_driveInEffect (z : ZoneId) (f : Heat → Heat) : (s.updHeat z f).driveInEffect = s.driveInEffect := rfl
@[simp] theorem updHeat_lanes (z : ZoneId) (f : Heat → Heat) : (s.updHeat z f).lanes = s.lanes := rfl
@[simp] theorem updHeat_engine (z : ZoneId) (f : Heat → Heat) : (s.updHeat z f).engine = s.engine := rfl
@[simp] theorem updHeat_step (z : ZoneId) (f : Heat → Heat) : (s.updHeat z f).step = s.step := rfl
@[simp] theorem updHeat_halt (z : ZoneId) (f : Heat → Heat) : (s.updHeat z f).halt = s.halt := rfl
@[simp] theorem updHeat_settings (z : ZoneId) (f : Heat → Heat) : (s.updHeat z f).settings = s.settings := rfl
@[simp] theorem updHeat_reports (z : ZoneId) (f : Heat → Heat) : (s.updHeat z f).reports = s.reports := rfl
@[simp] theorem updHeat_link (z : ZoneId) (f : Heat → Heat) : (s.updHeat z f).link = s.link := rfl
@[simp] theorem updHeat_runSeconds (z : ZoneId) (f : Heat → Heat) : (s.updHeat z f).runSeconds = s.runSeconds := rfl
@[simp] theorem updHeat_transferNumber (z : ZoneId) (f : Heat → Heat) : (s.updHeat z f).transferNumber = s.transferNumber := rfl
@[simp] theorem updHeat_badWords (z : ZoneId) (f : Heat → Heat) : (s.updHeat z f).badWords = s.badWords := rfl
@[simp] theorem updHeat_freeIndex (z : ZoneId) (f : Heat → Heat) : (s.updHeat z f).freeIndex = s.freeIndex := rfl
@[simp] theorem updHeat_pending (z : ZoneId) (f : Heat → Heat) : (s.updHeat z f).pending = s.pending := rfl
@[simp] theorem updHeat_socket (z : ZoneId) (f : Heat → Heat) (i : SocketId) : (s.updHeat z f).socket i = s.socket i := rfl
@[simp] theorem updHeat_lane (z : ZoneId) (f : Heat → Heat) (m : LaneId) : (s.updHeat z f).lane m = s.lane m := rfl

theorem updHeat_zone (z w : ZoneId) (f : Heat → Heat) :
    (s.updHeat z f).zone w = if z = w then { s.zone z with heat := f (s.zone z).heat } else s.zone w := Table.get_upd ..

@[simp] theorem updHeat_zone_same (z : ZoneId) (f : Heat → Heat) :
    (s.updHeat z f).zone z = { s.zone z with heat := f (s.zone z).heat } := by
  simp [updHeat_zone]

/-! ### updValues -/

@[simp] theorem updValues_sockets (z : ZoneId) (f : Values → Values) : (s.updValues z f).sockets = s.sockets := rfl
@[simp] theorem updValues_order (z : ZoneId) (f : Values → Values) : (s.updValues z f).order = s.order := rfl
@[simp] theorem updValues_policies (z : ZoneId) (f : Values → Values) : (s.updValues z f).policies = s.policies := rfl
@[simp] theorem updValues_accel (z : ZoneId) (f : Values → Values) : (s.updValues z f).accel = s.accel := rfl
@[simp] theorem updValues_volt (z : ZoneId) (f : Values → Values) : (s.updValues z f).volt = s.volt := rfl
@[simp] theorem updValues_channels (z : ZoneId) (f : Values → Values) : (s.updValues z f).channels = s.channels := rfl
@[simp] theorem updValues_drive (z : ZoneId) (f : Values → Values) : (s.updValues z f).drive = s.drive := rfl
@[simp] theorem updValues_driveInEffect (z : ZoneId) (f : Values → Values) : (s.updValues z f).driveInEffect = s.driveInEffect := rfl
@[simp] theorem updValues_lanes (z : ZoneId) (f : Values → Values) : (s.updValues z f).lanes = s.lanes := rfl
@[simp] theorem updValues_engine (z : ZoneId) (f : Values → Values) : (s.updValues z f).engine = s.engine := rfl
@[simp] theorem updValues_step (z : ZoneId) (f : Values → Values) : (s.updValues z f).step = s.step := rfl
@[simp] theorem updValues_halt (z : ZoneId) (f : Values → Values) : (s.updValues z f).halt = s.halt := rfl
@[simp] theorem updValues_settings (z : ZoneId) (f : Values → Values) : (s.updValues z f).settings = s.settings := rfl
@[simp] theorem updValues_reports (z : ZoneId) (f : Values → Values) : (s.updValues z f).reports = s.reports := rfl
@[simp] theorem updValues_link (z : ZoneId) (f : Values → Values) : (s.updValues z f).link = s.link := rfl
@[simp] theorem updValues_runSeconds (z : ZoneId) (f : Values → Values) : (s.updValues z f).runSeconds = s.runSeconds := rfl
@[simp] theorem updValues_transferNumber (z : ZoneId) (f : Values → Values) : (s.updValues z f).transferNumber = s.transferNumber := rfl
@[simp] theorem updValues_badWords (z : ZoneId) (f : Values → Values) : (s.updValues z f).badWords = s.badWords := rfl
@[simp] theorem updValues_freeIndex (z : ZoneId) (f : Values → Values) : (s.updValues z f).freeIndex = s.freeIndex := rfl
@[simp] theorem updValues_pending (z : ZoneId) (f : Values → Values) : (s.updValues z f).pending = s.pending := rfl
@[simp] theorem updValues_socket (z : ZoneId) (f : Values → Values) (i : SocketId) : (s.updValues z f).socket i = s.socket i := rfl
@[simp] theorem updValues_lane (z : ZoneId) (f : Values → Values) (m : LaneId) : (s.updValues z f).lane m = s.lane m := rfl

theorem updValues_zone (z w : ZoneId) (f : Values → Values) :
    (s.updValues z f).zone w = if z = w then { s.zone z with values := f (s.zone z).values } else s.zone w := Table.get_upd ..

@[simp] theorem updValues_zone_same (z : ZoneId) (f : Values → Values) :
    (s.updValues z f).zone z = { s.zone z with values := f (s.zone z).values } := by
  simp [updValues_zone]

/-! ### updLane -/

@[simp] theorem updLane_sockets (n : LaneId) (f : Lane → Lane) : (s.updLane n f).sockets = s.sockets := rfl
@[simp] theorem updLane_zones (n : LaneId) (f : Lane → Lane) : (s.updLane n f).zones = s.zones := rfl
@[simp] theorem updLane_order (n : LaneId) (f : Lane → Lane) : (s.updLane n f).order = s.order := rfl
@[simp] theorem updLane_policies (n : LaneId) (f : Lane → Lane) : (s.updLane n f).policies = s.policies := rfl
@[simp] theorem updLane_accel (n : LaneId) (f : Lane → Lane) : (s.updLane n f).accel = s.accel := rfl
@[simp] theorem updLane_volt (n : LaneId) (f : Lane → Lane) : (s.updLane n f).volt = s.volt := rfl
@[simp] theorem updLane_channels (n : LaneId) (f : Lane → Lane) : (s.updLane n f).channels = s.channels := rfl
@[simp] theorem updLane_drive (n : LaneId) (f : Lane → Lane) : (s.updLane n f).drive = s.drive := rfl
@[simp] theorem updLane_driveInEffect (n : LaneId) (f : Lane → Lane) : (s.updLane n f).driveInEffect = s.driveInEffect := rfl
@[simp] theorem updLane_engine (n : LaneId) (f : Lane → Lane) : (s.updLane n f).engine = s.engine := rfl
@[simp] theorem updLane_step (n : LaneId) (f : Lane → Lane) : (s.updLane n f).step = s.step := rfl
@[simp] theorem updLane_halt (n : LaneId) (f : Lane → Lane) : (s.updLane n f).halt = s.halt := rfl
@[simp] theorem updLane_settings (n : LaneId) (f : Lane → Lane) : (s.updLane n f).settings = s.settings := rfl
@[simp] theorem updLane_reports (n : LaneId) (f : Lane → Lane) : (s.updLane n f).reports = s.reports := rfl
@[simp] theorem updLane_link (n : LaneId) (f : Lane → Lane) : (s.updLane n f).link = s.link := rfl
@[simp] theorem updLane_runSeconds (n : LaneId) (f : Lane → Lane) : (s.updLane n f).runSeconds = s.runSeconds := rfl
@[simp] theorem updLane_transferNumber (n : LaneId) (f : Lane → Lane) : (s.updLane n f).transferNumber = s.transferNumber := rfl
@[simp] theorem updLane_badWords (n : LaneId) (f : Lane → Lane) : (s.updLane n f).badWords = s.badWords := rfl
@[simp] theorem updLane_freeIndex (n : LaneId) (f : Lane → Lane) : (s.updLane n f).freeIndex = s.freeIndex := rfl
@[simp] theorem updLane_pending (n : LaneId) (f : Lane → Lane) : (s.updLane n f).pending = s.pending := rfl
@[simp] theorem updLane_socket (n : LaneId) (f : Lane → Lane) (i : SocketId) : (s.updLane n f).socket i = s.socket i := rfl
@[simp] theorem updLane_zone (n : LaneId) (f : Lane → Lane) (w : ZoneId) : (s.updLane n f).zone w = s.zone w := rfl

theorem updLane_lane (n m : LaneId) (f : Lane → Lane) :
    (s.updLane n f).lane m = if n = m then f (s.lane n) else s.lane m := Table.get_upd ..

@[simp] theorem updLane_lane_same (n : LaneId) (f : Lane → Lane) : (s.updLane n f).lane n = f (s.lane n) := by
  simp [updLane_lane]

/-! ### setSockets -/

@[simp] theorem setSockets_zones (f : SocketId → Socket) : (s.setSockets f).zones = s.zones := rfl
@[simp] theorem setSockets_order (f : SocketId → Socket) : (s.setSockets f).order = s.order := rfl
@[simp] theorem setSockets_policies (f : SocketId → Socket) : (s.setSockets f).policies = s.policies := rfl
@[simp] theorem setSockets_accel (f : SocketId → Socket) : (s.setSockets f).accel = s.accel := rfl
@[simp] theorem setSockets_volt (f : SocketId → Socket) : (s.setSockets f).volt = s.volt := rfl
@[simp] theorem setSockets_channels (f : SocketId → Socket) : (s.setSockets f).channels = s.channels := rfl
@[simp] theorem setSockets_drive (f : SocketId → Socket) : (s.setSockets f).drive = s.drive := rfl
@[simp] theorem setSockets_driveInEffect (f : SocketId → Socket) : (s.setSockets f).driveInEffect = s.driveInEffect := rfl
@[simp] theorem setSockets_lanes (f : SocketId → Socket) : (s.setSockets f).lanes = s.lanes := rfl
@[simp] theorem setSockets_engine (f : SocketId → Socket) : (s.setSockets f).engine = s.engine := rfl
@[simp] theorem setSockets_step (f : SocketId → Socket) : (s.setSockets f).step = s.step := rfl
@[simp] theorem setSockets_halt (f : SocketId → Socket) : (s.setSockets f).halt = s.halt := rfl
@[simp] theorem setSockets_settings (f : SocketId → Socket) : (s.setSockets f).settings = s.settings := rfl
@[simp] theorem setSockets_reports (f : SocketId → Socket) : (s.setSockets f).reports = s.reports := rfl
@[simp] theorem setSockets_link (f : SocketId → Socket) : (s.setSockets f).link = s.link := rfl
@[simp] theorem setSockets_runSeconds (f : SocketId → Socket) : (s.setSockets f).runSeconds = s.runSeconds := rfl
@[simp] theorem setSockets_transferNumber (f : SocketId → Socket) : (s.setSockets f).transferNumber = s.transferNumber := rfl
@[simp] theorem setSockets_badWords (f : SocketId → Socket) : (s.setSockets f).badWords = s.badWords := rfl
@[simp] theorem setSockets_freeIndex (f : SocketId → Socket) : (s.setSockets f).freeIndex = s.freeIndex := rfl
@[simp] theorem setSockets_pending (f : SocketId → Socket) : (s.setSockets f).pending = s.pending := rfl
@[simp] theorem setSockets_zone (f : SocketId → Socket) (w : ZoneId) : (s.setSockets f).zone w = s.zone w := rfl
@[simp] theorem setSockets_lane (f : SocketId → Socket) (m : LaneId) : (s.setSockets f).lane m = s.lane m := rfl

@[simp] theorem setSockets_socket (f : SocketId → Socket) (i : SocketId) : (s.setSockets f).socket i = f i :=
  Table.get_ofFn ..

/-! ### setZones -/

@[simp] theorem setZones_sockets (f : ZoneId → Zone) : (s.setZones f).sockets = s.sockets := rfl
@[simp] theorem setZones_order (f : ZoneId → Zone) : (s.setZones f).order = s.order := rfl
@[simp] theorem setZones_policies (f : ZoneId → Zone) : (s.setZones f).policies = s.policies := rfl
@[simp] theorem setZones_accel (f : ZoneId → Zone) : (s.setZones f).accel = s.accel := rfl
@[simp] theorem setZones_volt (f : ZoneId → Zone) : (s.setZones f).volt = s.volt := rfl
@[simp] theorem setZones_channels (f : ZoneId → Zone) : (s.setZones f).channels = s.channels := rfl
@[simp] theorem setZones_drive (f : ZoneId → Zone) : (s.setZones f).drive = s.drive := rfl
@[simp] theorem setZones_driveInEffect (f : ZoneId → Zone) : (s.setZones f).driveInEffect = s.driveInEffect := rfl
@[simp] theorem setZones_lanes (f : ZoneId → Zone) : (s.setZones f).lanes = s.lanes := rfl
@[simp] theorem setZones_engine (f : ZoneId → Zone) : (s.setZones f).engine = s.engine := rfl
@[simp] theorem setZones_step (f : ZoneId → Zone) : (s.setZones f).step = s.step := rfl
@[simp] theorem setZones_halt (f : ZoneId → Zone) : (s.setZones f).halt = s.halt := rfl
@[simp] theorem setZones_settings (f : ZoneId → Zone) : (s.setZones f).settings = s.settings := rfl
@[simp] theorem setZones_reports (f : ZoneId → Zone) : (s.setZones f).reports = s.reports := rfl
@[simp] theorem setZones_link (f : ZoneId → Zone) : (s.setZones f).link = s.link := rfl
@[simp] theorem setZones_runSeconds (f : ZoneId → Zone) : (s.setZones f).runSeconds = s.runSeconds := rfl
@[simp] theorem setZones_transferNumber (f : ZoneId → Zone) : (s.setZones f).transferNumber = s.transferNumber := rfl
@[simp] theorem setZones_badWords (f : ZoneId → Zone) : (s.setZones f).badWords = s.badWords := rfl
@[simp] theorem setZones_freeIndex (f : ZoneId → Zone) : (s.setZones f).freeIndex = s.freeIndex := rfl
@[simp] theorem setZones_pending (f : ZoneId → Zone) : (s.setZones f).pending = s.pending := rfl
@[simp] theorem setZones_socket (f : ZoneId → Zone) (i : SocketId) : (s.setZones f).socket i = s.socket i := rfl
@[simp] theorem setZones_lane (f : ZoneId → Zone) (m : LaneId) : (s.setZones f).lane m = s.lane m := rfl

@[simp] theorem setZones_zone (f : ZoneId → Zone) (z : ZoneId) : (s.setZones f).zone z = f z := Table.get_ofFn ..

/-! ### setLanes -/

@[simp] theorem setLanes_sockets (f : LaneId → Lane) : (s.setLanes f).sockets = s.sockets := rfl
@[simp] theorem setLanes_zones (f : LaneId → Lane) : (s.setLanes f).zones = s.zones := rfl
@[simp] theorem setLanes_order (f : LaneId → Lane) : (s.setLanes f).order = s.order := rfl
@[simp] theorem setLanes_policies (f : LaneId → Lane) : (s.setLanes f).policies = s.policies := rfl
@[simp] theorem setLanes_accel (f : LaneId → Lane) : (s.setLanes f).accel = s.accel := rfl
@[simp] theorem setLanes_volt (f : LaneId → Lane) : (s.setLanes f).volt = s.volt := rfl
@[simp] theorem setLanes_channels (f : LaneId → Lane) : (s.setLanes f).channels = s.channels := rfl
@[simp] theorem setLanes_drive (f : LaneId → Lane) : (s.setLanes f).drive = s.drive := rfl
@[simp] theorem setLanes_driveInEffect (f : LaneId → Lane) : (s.setLanes f).driveInEffect = s.driveInEffect := rfl
@[simp] theorem setLanes_engine (f : LaneId → Lane) : (s.setLanes f).engine = s.engine := rfl
@[simp] theorem setLanes_step (f : LaneId → Lane) : (s.setLanes f).step = s.step := rfl
@[simp] theorem setLanes_halt (f : LaneId → Lane) : (s.setLanes f).halt = s.halt := rfl
@[simp] theorem setLanes_settings (f : LaneId → Lane) : (s.setLanes f).settings = s.settings := rfl
@[simp] theorem setLanes_reports (f : LaneId → Lane) : (s.setLanes f).reports = s.reports := rfl
@[simp] theorem setLanes_link (f : LaneId → Lane) : (s.setLanes f).link = s.link := rfl
@[simp] theorem setLanes_runSeconds (f : LaneId → Lane) : (s.setLanes f).runSeconds = s.runSeconds := rfl
@[simp] theorem setLanes_transferNumber (f : LaneId → Lane) : (s.setLanes f).transferNumber = s.transferNumber := rfl
@[simp] theorem setLanes_badWords (f : LaneId → Lane) : (s.setLanes f).badWords = s.badWords := rfl
@[simp] theorem setLanes_freeIndex (f : LaneId → Lane) : (s.setLanes f).freeIndex = s.freeIndex := rfl
@[simp] theorem setLanes_pending (f : LaneId → Lane) : (s.setLanes f).pending = s.pending := rfl
@[simp] theorem setLanes_socket (f : LaneId → Lane) (i : SocketId) : (s.setLanes f).socket i = s.socket i := rfl
@[simp] theorem setLanes_zone (f : LaneId → Lane) (w : ZoneId) : (s.setLanes f).zone w = s.zone w := rfl

@[simp] theorem setLanes_lane (f : LaneId → Lane) (n : LaneId) : (s.setLanes f).lane n = f n := Table.get_ofFn ..

/-! ### updEngine -/

@[simp] theorem updEngine_sockets (f : Engine → Engine) : (s.updEngine f).sockets = s.sockets := rfl
@[simp] theorem updEngine_zones (f : Engine → Engine) : (s.updEngine f).zones = s.zones := rfl
@[simp] theorem updEngine_order (f : Engine → Engine) : (s.updEngine f).order = s.order := rfl
@[simp] theorem updEngine_policies (f : Engine → Engine) : (s.updEngine f).policies = s.policies := rfl
@[simp] theorem updEngine_accel (f : Engine → Engine) : (s.updEngine f).accel = s.accel := rfl
@[simp] theorem updEngine_volt (f : Engine → Engine) : (s.updEngine f).volt = s.volt := rfl
@[simp] theorem updEngine_channels (f : Engine → Engine) : (s.updEngine f).channels = s.channels := rfl
@[simp] theorem updEngine_drive (f : Engine → Engine) : (s.updEngine f).drive = s.drive := rfl
@[simp] theorem updEngine_driveInEffect (f : Engine → Engine) : (s.updEngine f).driveInEffect = s.driveInEffect := rfl
@[simp] theorem updEngine_lanes (f : Engine → Engine) : (s.updEngine f).lanes = s.lanes := rfl
@[simp] theorem updEngine_engine (f : Engine → Engine) : (s.updEngine f).engine = f s.engine := rfl
@[simp] theorem updEngine_step (f : Engine → Engine) : (s.updEngine f).step = s.step := rfl
@[simp] theorem updEngine_halt (f : Engine → Engine) : (s.updEngine f).halt = s.halt := rfl
@[simp] theorem updEngine_settings (f : Engine → Engine) : (s.updEngine f).settings = s.settings := rfl
@[simp] theorem updEngine_reports (f : Engine → Engine) : (s.updEngine f).reports = s.reports := rfl
@[simp] theorem updEngine_link (f : Engine → Engine) : (s.updEngine f).link = s.link := rfl
@[simp] theorem updEngine_runSeconds (f : Engine → Engine) : (s.updEngine f).runSeconds = s.runSeconds := rfl
@[simp] theorem updEngine_transferNumber (f : Engine → Engine) : (s.updEngine f).transferNumber = s.transferNumber := rfl
@[simp] theorem updEngine_badWords (f : Engine → Engine) : (s.updEngine f).badWords = s.badWords := rfl
@[simp] theorem updEngine_freeIndex (f : Engine → Engine) : (s.updEngine f).freeIndex = s.freeIndex := rfl
@[simp] theorem updEngine_pending (f : Engine → Engine) : (s.updEngine f).pending = s.pending := rfl
@[simp] theorem updEngine_socket (f : Engine → Engine) (i : SocketId) : (s.updEngine f).socket i = s.socket i := rfl
@[simp] theorem updEngine_zone (f : Engine → Engine) (w : ZoneId) : (s.updEngine f).zone w = s.zone w := rfl
@[simp] theorem updEngine_lane (f : Engine → Engine) (m : LaneId) : (s.updEngine f).lane m = s.lane m := rfl

/-! ### updStep -/

@[simp] theorem updStep_sockets (f : StepCtl → StepCtl) : (s.updStep f).sockets = s.sockets := rfl
@[simp] theorem updStep_zones (f : StepCtl → StepCtl) : (s.updStep f).zones = s.zones := rfl
@[simp] theorem updStep_order (f : StepCtl → StepCtl) : (s.updStep f).order = s.order := rfl
@[simp] theorem updStep_policies (f : StepCtl → StepCtl) : (s.updStep f).policies = s.policies := rfl
@[simp] theorem updStep_accel (f : StepCtl → StepCtl) : (s.updStep f).accel = s.accel := rfl
@[simp] theorem updStep_volt (f : StepCtl → StepCtl) : (s.updStep f).volt = s.volt := rfl
@[simp] theorem updStep_channels (f : StepCtl → StepCtl) : (s.updStep f).channels = s.channels := rfl
@[simp] theorem updStep_drive (f : StepCtl → StepCtl) : (s.updStep f).drive = s.drive := rfl
@[simp] theorem updStep_driveInEffect (f : StepCtl → StepCtl) : (s.updStep f).driveInEffect = s.driveInEffect := rfl
@[simp] theorem updStep_lanes (f : StepCtl → StepCtl) : (s.updStep f).lanes = s.lanes := rfl
@[simp] theorem updStep_engine (f : StepCtl → StepCtl) : (s.updStep f).engine = s.engine := rfl
@[simp] theorem updStep_step (f : StepCtl → StepCtl) : (s.updStep f).step = f s.step := rfl
@[simp] theorem updStep_halt (f : StepCtl → StepCtl) : (s.updStep f).halt = s.halt := rfl
@[simp] theorem updStep_settings (f : StepCtl → StepCtl) : (s.updStep f).settings = s.settings := rfl
@[simp] theorem updStep_reports (f : StepCtl → StepCtl) : (s.updStep f).reports = s.reports := rfl
@[simp] theorem updStep_link (f : StepCtl → StepCtl) : (s.updStep f).link = s.link := rfl
@[simp] theorem updStep_runSeconds (f : StepCtl → StepCtl) : (s.updStep f).runSeconds = s.runSeconds := rfl
@[simp] theorem updStep_transferNumber (f : StepCtl → StepCtl) : (s.updStep f).transferNumber = s.transferNumber := rfl
@[simp] theorem updStep_badWords (f : StepCtl → StepCtl) : (s.updStep f).badWords = s.badWords := rfl
@[simp] theorem updStep_freeIndex (f : StepCtl → StepCtl) : (s.updStep f).freeIndex = s.freeIndex := rfl
@[simp] theorem updStep_pending (f : StepCtl → StepCtl) : (s.updStep f).pending = s.pending := rfl
@[simp] theorem updStep_socket (f : StepCtl → StepCtl) (i : SocketId) : (s.updStep f).socket i = s.socket i := rfl
@[simp] theorem updStep_zone (f : StepCtl → StepCtl) (w : ZoneId) : (s.updStep f).zone w = s.zone w := rfl
@[simp] theorem updStep_lane (f : StepCtl → StepCtl) (m : LaneId) : (s.updStep f).lane m = s.lane m := rfl

/-! ### updHalt -/

@[simp] theorem updHalt_sockets (f : Halt → Halt) : (s.updHalt f).sockets = s.sockets := rfl
@[simp] theorem updHalt_zones (f : Halt → Halt) : (s.updHalt f).zones = s.zones := rfl
@[simp] theorem updHalt_order (f : Halt → Halt) : (s.updHalt f).order = s.order := rfl
@[simp] theorem updHalt_policies (f : Halt → Halt) : (s.updHalt f).policies = s.policies := rfl
@[simp] theorem updHalt_accel (f : Halt → Halt) : (s.updHalt f).accel = s.accel := rfl
@[simp] theorem updHalt_volt (f : Halt → Halt) : (s.updHalt f).volt = s.volt := rfl
@[simp] theorem updHalt_channels (f : Halt → Halt) : (s.updHalt f).channels = s.channels := rfl
@[simp] theorem updHalt_drive (f : Halt → Halt) : (s.updHalt f).drive = s.drive := rfl
@[simp] theorem updHalt_driveInEffect (f : Halt → Halt) : (s.updHalt f).driveInEffect = s.driveInEffect := rfl
@[simp] theorem updHalt_lanes (f : Halt → Halt) : (s.updHalt f).lanes = s.lanes := rfl
@[simp] theorem updHalt_engine (f : Halt → Halt) : (s.updHalt f).engine = s.engine := rfl
@[simp] theorem updHalt_step (f : Halt → Halt) : (s.updHalt f).step = s.step := rfl
@[simp] theorem updHalt_halt (f : Halt → Halt) : (s.updHalt f).halt = f s.halt := rfl
@[simp] theorem updHalt_settings (f : Halt → Halt) : (s.updHalt f).settings = s.settings := rfl
@[simp] theorem updHalt_reports (f : Halt → Halt) : (s.updHalt f).reports = s.reports := rfl
@[simp] theorem updHalt_link (f : Halt → Halt) : (s.updHalt f).link = s.link := rfl
@[simp] theorem updHalt_runSeconds (f : Halt → Halt) : (s.updHalt f).runSeconds = s.runSeconds := rfl
@[simp] theorem updHalt_transferNumber (f : Halt → Halt) : (s.updHalt f).transferNumber = s.transferNumber := rfl
@[simp] theorem updHalt_badWords (f : Halt → Halt) : (s.updHalt f).badWords = s.badWords := rfl
@[simp] theorem updHalt_freeIndex (f : Halt → Halt) : (s.updHalt f).freeIndex = s.freeIndex := rfl
@[simp] theorem updHalt_pending (f : Halt → Halt) : (s.updHalt f).pending = s.pending := rfl
@[simp] theorem updHalt_socket (f : Halt → Halt) (i : SocketId) : (s.updHalt f).socket i = s.socket i := rfl
@[simp] theorem updHalt_zone (f : Halt → Halt) (w : ZoneId) : (s.updHalt f).zone w = s.zone w := rfl
@[simp] theorem updHalt_lane (f : Halt → Halt) (m : LaneId) : (s.updHalt f).lane m = s.lane m := rfl

/-! ### updReports -/

@[simp] theorem updReports_sockets (f : Reports → Reports) : (s.updReports f).sockets = s.sockets := rfl
@[simp] theorem updReports_zones (f : Reports → Reports) : (s.updReports f).zones = s.zones := rfl
@[simp] theorem updReports_order (f : Reports → Reports) : (s.updReports f).order = s.order := rfl
@[simp] theorem updReports_policies (f : Reports → Reports) : (s.updReports f).policies = s.policies := rfl
@[simp] theorem updReports_accel (f : Reports → Reports) : (s.updReports f).accel = s.accel := rfl
@[simp] theorem updReports_volt (f : Reports → Reports) : (s.updReports f).volt = s.volt := rfl
@[simp] theorem updReports_channels (f : Reports → Reports) : (s.updReports f).channels = s.channels := rfl
@[simp] theorem updReports_drive (f : Reports → Reports) : (s.updReports f).drive = s.drive := rfl
@[simp] theorem updReports_driveInEffect (f : Reports → Reports) : (s.updReports f).driveInEffect = s.driveInEffect := rfl
@[simp] theorem updReports_lanes (f : Reports → Reports) : (s.updReports f).lanes = s.lanes := rfl
@[simp] theorem updReports_engine (f : Reports → Reports) : (s.updReports f).engine = s.engine := rfl
@[simp] theorem updReports_step (f : Reports → Reports) : (s.updReports f).step = s.step := rfl
@[simp] theorem updReports_halt (f : Reports → Reports) : (s.updReports f).halt = s.halt := rfl
@[simp] theorem updReports_settings (f : Reports → Reports) : (s.updReports f).settings = s.settings := rfl
@[simp] theorem updReports_reports (f : Reports → Reports) : (s.updReports f).reports = f s.reports := rfl
@[simp] theorem updReports_link (f : Reports → Reports) : (s.updReports f).link = s.link := rfl
@[simp] theorem updReports_runSeconds (f : Reports → Reports) : (s.updReports f).runSeconds = s.runSeconds := rfl
@[simp] theorem updReports_transferNumber (f : Reports → Reports) : (s.updReports f).transferNumber = s.transferNumber := rfl
@[simp] theorem updReports_badWords (f : Reports → Reports) : (s.updReports f).badWords = s.badWords := rfl
@[simp] theorem updReports_freeIndex (f : Reports → Reports) : (s.updReports f).freeIndex = s.freeIndex := rfl
@[simp] theorem updReports_pending (f : Reports → Reports) : (s.updReports f).pending = s.pending := rfl
@[simp] theorem updReports_socket (f : Reports → Reports) (i : SocketId) : (s.updReports f).socket i = s.socket i := rfl
@[simp] theorem updReports_zone (f : Reports → Reports) (w : ZoneId) : (s.updReports f).zone w = s.zone w := rfl
@[simp] theorem updReports_lane (f : Reports → Reports) (m : LaneId) : (s.updReports f).lane m = s.lane m := rfl

/-! ### updLink -/

@[simp] theorem updLink_sockets (f : Link → Link) : (s.updLink f).sockets = s.sockets := rfl
@[simp] theorem updLink_zones (f : Link → Link) : (s.updLink f).zones = s.zones := rfl
@[simp] theorem updLink_order (f : Link → Link) : (s.updLink f).order = s.order := rfl
@[simp] theorem updLink_policies (f : Link → Link) : (s.updLink f).policies = s.policies := rfl
@[simp] theorem updLink_accel (f : Link → Link) : (s.updLink f).accel = s.accel := rfl
@[simp] theorem updLink_volt (f : Link → Link) : (s.updLink f).volt = s.volt := rfl
@[simp] theorem updLink_channels (f : Link → Link) : (s.updLink f).channels = s.channels := rfl
@[simp] theorem updLink_drive (f : Link → Link) : (s.updLink f).drive = s.drive := rfl
@[simp] theorem updLink_driveInEffect (f : Link → Link) : (s.updLink f).driveInEffect = s.driveInEffect := rfl
@[simp] theorem updLink_lanes (f : Link → Link) : (s.updLink f).lanes = s.lanes := rfl
@[simp] theorem updLink_engine (f : Link → Link) : (s.updLink f).engine = s.engine := rfl
@[simp] theorem updLink_step (f : Link → Link) : (s.updLink f).step = s.step := rfl
@[simp] theorem updLink_halt (f : Link → Link) : (s.updLink f).halt = s.halt := rfl
@[simp] theorem updLink_settings (f : Link → Link) : (s.updLink f).settings = s.settings := rfl
@[simp] theorem updLink_reports (f : Link → Link) : (s.updLink f).reports = s.reports := rfl
@[simp] theorem updLink_link (f : Link → Link) : (s.updLink f).link = f s.link := rfl
@[simp] theorem updLink_runSeconds (f : Link → Link) : (s.updLink f).runSeconds = s.runSeconds := rfl
@[simp] theorem updLink_transferNumber (f : Link → Link) : (s.updLink f).transferNumber = s.transferNumber := rfl
@[simp] theorem updLink_badWords (f : Link → Link) : (s.updLink f).badWords = s.badWords := rfl
@[simp] theorem updLink_freeIndex (f : Link → Link) : (s.updLink f).freeIndex = s.freeIndex := rfl
@[simp] theorem updLink_pending (f : Link → Link) : (s.updLink f).pending = s.pending := rfl
@[simp] theorem updLink_socket (f : Link → Link) (i : SocketId) : (s.updLink f).socket i = s.socket i := rfl
@[simp] theorem updLink_zone (f : Link → Link) (w : ZoneId) : (s.updLink f).zone w = s.zone w := rfl
@[simp] theorem updLink_lane (f : Link → Link) (m : LaneId) : (s.updLink f).lane m = s.lane m := rfl

end Sys2Proof.Machine.State
end

