-- ==== Sys2Proof/Laws/Ops.lean ====
section
/-! SUPPORT. What each shared operation of Machine/Ops.lean and Machine/Flags.lean can do, said once: free orders, loops, records, the
arbiter, the delivery of a command, notices, switches, and socket states. -/

namespace Sys2Proof.Machine

/-! ### Free choices of order -/

theorem insertAt_perm {α : Type} (x : α) (l : List α) (k : Nat) : (insertAt x l k).Perm (x :: l) := by
  induction l generalizing k with
  | nil => simp [insertAt]
  | cons y ys ih =>
    cases k with
    | zero => simp [insertAt]
    | succ k => exact ((ih k).cons y).trans (List.Perm.swap x y ys)

/-- A free order leaves no item out and adds none. -/
theorem arrange_perm {α : Type} (l : List α) (k : Nat) : (arrange l k).Perm l := by
  induction l generalizing k with
  | nil => simp [arrange]
  | cons x xs ih => exact (insertAt_perm ..).trans ((ih _).cons x)

theorem freely_perm {α : Type} (xs : List α) (s : State) : (freely xs s).1.Perm xs := by
  match xs with
  | [] => simp [freely]
  | [x] => simp [freely]
  | x :: y :: rest => exact arrange_perm ..

/-- A free choice moves only the counter of free choices. -/
theorem freely_state {α : Type} (xs : List α) (s : State) : (freely xs s).2 = { s with freeIndex := (freely xs s).2.freeIndex } := by
  match xs with
  | [] => rfl
  | [x] => rfl
  | x :: y :: rest => rfl

@[simp] theorem forEach_nil {α : Type} (f : α → State → State) (s : State) : forEach [] f s = s := rfl

@[simp] theorem forEach_cons {α : Type} (x : α) (xs : List α) (f : α → State → State) (s : State) :
    forEach (x :: xs) f s = forEach xs f (f x s) := rfl

/-- What each turn of a loop keeps, the loop keeps. -/
theorem forEach_keeps {α : Type} {P : State → Prop} {xs : List α} {f : α → State → State}
    (hf : ∀ x ∈ xs, ∀ s, P s → P (f x s)) {s : State} (hs : P s) : P (forEach xs f s) := by
  induction xs generalizing s with
  | nil => exact hs
  | cons x xs ih =>
    exact ih (fun y hy => hf y (List.mem_cons_of_mem x hy)) (hf x List.mem_cons_self s hs)

/-- The same for a loop in a free order, for a property that does not look at the counter of free choices. -/
theorem forEachFreely_keeps {α : Type} {P : State → Prop} {xs : List α} {f : α → State → State}
    (hn : ∀ s n, P s → P { s with freeIndex := n }) (hf : ∀ x ∈ xs, ∀ s, P s → P (f x s)) {s : State} (hs : P s) :
    P (forEachFreely xs f s) := by
  have h : P (freely xs s).2 := by
    rw [freely_state]
    exact hn s _ hs
  exact forEach_keeps (fun x hx => hf x ((freely_perm xs s).subset hx)) h

/-! ### Records -/

/-- A record that is created is counted, and joins the queue or is dropped. -/
theorem create_cases (q : Reports) (r : Record) :
    (q.queue.length < 64 ∧
      q.create r = { q with created := min 65535 (q.created + 1), queue := q.queue ++ [r] }) ∨
    (64 ≤ q.queue.length ∧
      q.create r = { q with created := min 65535 (q.created + 1), dropped := min 65535 (q.dropped + 1) }) := by
  unfold Reports.create
  split
  · exact .inl ⟨‹_›, rfl⟩
  · exact .inr ⟨Nat.le_of_not_lt ‹_›, rfl⟩

theorem report_cases (s : State) (r : Record) :
    s.report r = s ∨ (s.settings.enables r = true ∧ s.report r = { s with reports := s.reports.create r }) := by
  unfold State.report
  split
  · exact .inr ⟨‹_›, rfl⟩
  · exact .inl rfl

/-- A record changes the Report Queue and its counts, and nothing else. -/
theorem report_state (s : State) (r : Record) : s.report r = { s with reports := (s.report r).reports } := by
  rcases report_cases s r with h | ⟨-, h⟩ <;> rw [h]

@[simp] theorem report_socket (s : State) (r : Record) (i : SocketId) : (s.report r).socket i = s.socket i := by
  rw [report_state]; rfl

@[simp] theorem report_zone (s : State) (r : Record) (z : ZoneId) : (s.report r).zone z = s.zone z := by
  rw [report_state]; rfl

@[simp] theorem report_lane (s : State) (r : Record) (n : LaneId) : (s.report r).lane n = s.lane n := by
  rw [report_state]; rfl

@[simp] theorem created_nil (s : State) : s.created [] = s.reports := rfl

@[simp] theorem report_settings (s : State) (r : Record) : (s.report r).settings = s.settings := by
  rw [report_state]

/-- A record asked for after others are created joins them (R50). -/
theorem report_created {s t : State} {rs : List Record} (h : t.reports = s.created rs) (hs : t.settings = s.settings)
    (r : Record) : (t.report r).reports = s.created (rs ++ [r]) := by
  unfold State.report State.created State.updReports
  by_cases he : s.settings.enables r = true <;> simp [hs, h, he, State.created, List.filter_append]

/-- A state whose sockets stand in their states owes no VERDICT record (R17). -/
theorem verdicts_nil {s u : State} (h : ∀ i, (u.socket i).state = (s.socket i).state) : s.verdicts u = [] := by
  simp [State.verdicts, h]

/-! ### The arbiter -/

/-- The arbiter changes the link and the Report Queue, and nothing else. -/
theorem arbitrate_state (s : State) : s.arbitrate = { s with link := s.arbitrate.link, reports := s.arbitrate.reports } := by
  unfold State.arbitrate State.serveForward State.serveLocal
  (repeat' split) <;> rfl

/-- With a frame being sent, or with no receiver, the arbiter waits. -/
theorem arbitrate_waits {s : State} (h : s.link.upSending ≠ none ∨ s.link.upReceiver = false) : s.arbitrate = s := by
  unfold State.arbitrate
  rcases h with h | h
  · cases hs : s.link.upSending with
    | none => exact absurd hs h
    | some f => simp
  · simp [h]

/-! ### The delivery of a command -/

/-- A command delivered to a slot that is ready runs, and its reply joins the queue. -/
theorem deliver_ready {s : State} (h : s.Ready) (src tag code : Byte) (cmd : State → CmdOut) :
    s.deliver src tag code cmd = (cmd s).state.replied src tag code (cmd s).status (cmd s).result := by
  have h4 : ¬ Config.replyCapacity ≤ s.link.replies.length := Nat.not_le_of_lt h.2
  simp [State.deliver, State.answer, State.replied, h.1, h4]

/-- A command delivered while four replies wait is counted and not executed. -/
theorem deliver_full {s : State} (ha : s.link.addressed = true) (h : 4 ≤ s.link.replies.length) (src tag code : Byte)
    (cmd : State → CmdOut) :
    s.deliver src tag code cmd =
      (s.updLink fun l =>
        { l with counts := { l.counts with replyDrop := min 65535 (l.counts.replyDrop + 1) } }).arbitrate := by
  have h4 : Config.replyCapacity ≤ s.link.replies.length := h
  simp only [State.deliver, State.answer, ha, h4, if_true]
  rfl

/-- No command reaches an unaddressed slot. -/
theorem deliver_unaddressed {s : State} (h : s.link.addressed = false) (src tag code : Byte) (cmd : State → CmdOut) :
    s.deliver src tag code cmd = s := by
  simp [State.deliver, h]

/-- A delivery answers what any other delivery of a command with the same outcome answers. -/
theorem deliver_congr {s : State} {f g : State → CmdOut} (h : f s = g s) (src tag code : Byte) :
    s.deliver src tag code f = s.deliver src tag code g := by
  simp [State.deliver, State.answer, h]

/-! ### Notices -/

theorem notice_zone (s : State) (l : Latch) (named : ZoneId → Bool) (z : ZoneId) :
    (s.notice l named).zone z =
      if named z then { s.zone z with latches := (s.zone z).latches.setLatch l } else s.zone z := by
  simp [State.notice]

theorem notice_socket (s : State) (l : Latch) (named : ZoneId → Bool) (i : SocketId) :
    (s.notice l named).socket i =
      if named (s.socket i).zone then { s.socket i with qualified := false } else s.socket i := by
  simp [State.notice]

theorem notice_state (s : State) (l : Latch) (named : ZoneId → Bool) :
    s.notice l named = { s with sockets := (s.notice l named).sockets, zones := (s.notice l named).zones } := rfl

/-- A notice that names no zone changes nothing. -/
theorem notice_none (s : State) (l : Latch) : s.notice l (fun _ => false) = s := by
  have hz : (s.notice l fun _ => false).zones = s.zones := Table.ext_get fun z => by
    simpa [State.zone] using notice_zone s l (fun _ => false) z
  have hk : (s.notice l fun _ => false).sockets = s.sockets := Table.ext_get fun i => by
    simpa [State.socket] using notice_socket s l (fun _ => false) i
  rw [notice_state, hz, hk]

/-! ### Switches -/

@[simp] theorem switched_switch (k : Socket) (on : Bool) : (k.switched on).switch = on := by
  unfold Socket.switched
  (repeat' split) <;> simp_all

/-- A switch change moves the switch, and at a change to off the qualification flag and the estimate. -/
theorem switched_cases (k : Socket) (on : Bool) :
    k.switched on = { k with switch := on, qualified := (k.switched on).qualified, estimate := (k.switched on).estimate } := by
  cases k with
  | mk populated zone policy target tjOffset tjSlope state switch =>
    cases switch <;> cases on <;> rfl

theorem evaluateSwitches_socket (s : State) (named : SocketId → Bool) (i : SocketId) :
    (s.evaluateSwitches named).socket i = if named i then (s.socket i).switched (s.switchRule i) else s.socket i := by
  simp [State.evaluateSwitches, State.socket]

theorem evaluateSwitches_lane (s : State) (named : SocketId → Bool) (n : LaneId) :
    (s.evaluateSwitches named).lane n =
      if named (laneSocket n) && n.val % 2 = 1 then
        (s.lane n).switched (s.socket (laneSocket n)).switch (s.switchRule (laneSocket n))
      else s.lane n := by
  simp [State.evaluateSwitches, State.lane]

theorem evaluateSwitches_state (s : State) (named : SocketId → Bool) :
    s.evaluateSwitches named =
      { s with sockets := (s.evaluateSwitches named).sockets, lanes := (s.evaluateSwitches named).lanes } := rfl

/-! ### Holds, socket states and findings -/

theorem placeHold_socket (s : State) (i j : SocketId) (h : Hold) :
    (s.placeHold i h).socket j =
      if i = j then { s.socket i with hold := Hold.place (s.socket i).hold h }.switched false else s.socket j := by
  by_cases hij : i = j
  · subst hij
    have hrule : (s.updSocket i fun k => { k with hold := Hold.place k.hold h }).switchRule i = false := by
      have : (Hold.place (s.socket i).hold h).isNone = false := by
        unfold Hold.place
        split <;> rfl
      simp [State.switchRule, this]
    simp [State.placeHold, State.evaluateSwitch, evaluateSwitches_socket, hrule]
  · have hji : j ≠ i := fun e => hij e.symm
    simp [State.placeHold, State.evaluateSwitch, evaluateSwitches_socket, State.updSocket_socket, hij, hji]

/-- A state change moves the socket's state and qualification flag and may create a record. -/
theorem changeState_cases (s : State) (i : SocketId) (new : SocketState) (cause : Option FailCause) :
    ((s.socket i).state = new ∧ s.changeState i new cause = s) ∨
    ((s.socket i).state ≠ new ∧
      s.changeState i new cause =
        (s.updSocket i (·.toState new)).report
          ((s.updSocket i (·.toState new)).verdictRecord i (s.socket i).state cause)) := by
  unfold State.changeState
  by_cases h : (s.socket i).state = new <;> simp [h]

theorem changeState_socket (s : State) (i j : SocketId) (new : SocketState) (cause : Option FailCause) :
    (s.changeState i new cause).socket j =
      if i = j ∧ (s.socket i).state ≠ new then (s.socket i).toState new else s.socket j := by
  rcases changeState_cases s i new cause with ⟨h, e⟩ | ⟨h, e⟩
  · rw [e]; simp [h]
  · rw [e, report_socket, State.updSocket_socket]
    by_cases hij : i = j
    · subst hij
      simp [h]
    · simp [hij]

/-! ### The checks and window ends -/

/-- From `s` to `t` only the sockets, the lanes, the Report Queue and the counter of free choices may have moved. -/
def State.CheckedTo (s t : State) : Prop :=
  t = { s with sockets := t.sockets, lanes := t.lanes, reports := t.reports, freeIndex := t.freeIndex }

theorem State.CheckedTo.refl (s : State) : s.CheckedTo s := rfl

theorem State.CheckedTo.trans {s t u : State} (h : s.CheckedTo t) (h' : t.CheckedTo u) : s.CheckedTo u := by
  cases s; cases t; cases u
  simp only [State.CheckedTo, State.mk.injEq] at *
  simp_all

theorem report_checked (s : State) (r : Record) : s.CheckedTo (s.report r) := by
  unfold State.CheckedTo; rw [report_state]

theorem changeState_checked (s : State) (i : SocketId) (new : SocketState) (c : Option FailCause) :
    s.CheckedTo (s.changeState i new c) := by
  rcases changeState_cases s i new c with ⟨-, h⟩ | ⟨-, h⟩ <;> rw [h]
  · exact .refl s
  · exact State.CheckedTo.trans (t := s.updSocket i (·.toState new)) rfl (report_checked ..)

/-- A new reason set moves its socket, with the VERDICT record of its state. -/
theorem setReasons_checked (s : State) (i : SocketId) (f : Reasons → Reasons) : s.CheckedTo (s.setReasons i f) := by
  unfold State.setReasons
  dsimp only
  split
  · exact State.CheckedTo.trans (t := s.updSocket i _) rfl (changeState_checked ..)
  · exact .refl s

theorem reviewReasons_checked (s : State) (i : SocketId) : s.CheckedTo (s.reviewReasons i) := by
  unfold State.reviewReasons; exact setReasons_checked ..

theorem failingCheck_checked (s : State) (f : Failing) : s.CheckedTo (s.failingCheck f) := by
  unfold State.failingCheck
  dsimp only
  split
  · split
    · exact State.CheckedTo.trans (t := s.updSocket _ _) rfl (report_checked ..)
    · exact rfl
  · exact .refl s

theorem endPrbsWindow_checked (s : State) (n : LaneId) : s.CheckedTo (s.endPrbsWindow n) := by
  unfold State.endPrbsWindow
  dsimp only
  split
  · refine State.CheckedTo.trans (t := s.updLane n fun l => { l with prbs := (s.lane n).prbs.endWindow.1 }) rfl ?_
    split
    · exact (report_checked ..).trans (setReasons_checked ..)
    · exact (report_checked ..).trans (reviewReasons_checked ..)
    · exact .refl _
  · exact .refl s

theorem endToggleWindow_checked (s : State) (n : LaneId) : s.CheckedTo (s.endToggleWindow n) := by
  unfold State.endToggleWindow
  dsimp only
  split
  · refine State.CheckedTo.trans (t := s.updLane n fun l => { l with watch := (s.lane n).watch.endWindow.1 }) rfl ?_
    split
    · exact (report_checked ..).trans (setReasons_checked ..)
    · exact (report_checked ..).trans (reviewReasons_checked ..)
    · exact .refl _
  · exact .refl s

theorem forEachFreely_checked {α : Type} (xs : List α) {f : α → State → State}
    (h : ∀ (x : α) (s : State), s.CheckedTo (f x s)) (s : State) :
    s.CheckedTo (forEachFreely xs f s) :=
  forEachFreely_keeps (P := s.CheckedTo) (fun _ _ hs => hs.trans rfl) (fun x _ _ hs => hs.trans (h x _)) (.refl s)

/-- The window ends still due move sockets, lanes and records, and nothing else. -/
theorem endDueWindows_checked (s : State) : s.CheckedTo s.endDueWindows :=
  (forEachFreely_checked _ (fun n s => endPrbsWindow_checked s n) s).trans
    (forEachFreely_checked _ (fun n s => endToggleWindow_checked s n) _)

/-- So do the checks of a vector cycle. -/
theorem checkLanes_checked (s : State) (c : CycleWords) (sense : BitVec 64) : s.CheckedTo (s.checkLanes c sense) :=
  State.CheckedTo.trans (t := s.setLanes _) rfl (forEachFreely_checked _ (fun f s => failingCheck_checked s f) _)

theorem State.CheckedTo.engine {s t : State} (h : s.CheckedTo t) : t.engine = s.engine := by rw [h]

theorem State.CheckedTo.step {s t : State} (h : s.CheckedTo t) : t.step = s.step := by rw [h]

/-! ### The engine -/

@[simp] theorem notice_engine (s : State) (l : Latch) (f : ZoneId → Bool) : (s.notice l f).engine = s.engine := rfl

@[simp] theorem reportPattern_engine (s : State) (e : PatternEvent) (b x : Option Nat) :
    (s.reportPattern e b x).engine = s.engine := by
  unfold State.reportPattern; rw [report_state]

/-- Watching the exercised condition adds a notice and no more (R137). -/
@[simp] theorem watchExercise_engine (s : State) (f : State → State) : (s.watchExercise f).engine = (f s).engine := rfl

@[simp] theorem enterStarved_engine (s : State) :
    s.enterStarved.engine = { s.engine with state := .starved, loopIndex := 0, cycle := 0 } := by
  simp [State.enterStarved, State.noticeAll]

/-- The start of a cycle moves the engine by the vector in play and one advance (R129, R135). -/
theorem startCycle_engine (s : State) (sense : BitVec 64) :
    (s.startCycle sense).engine =
      match s.engine.inPlay with
      | some (v, _) => { s.engine.advance with lastDrive := v.drive, cycle := s.engine.cycle + 1 }
      | none => s.engine.advance := by
  have h : s.driveCycle.engine = s.engine := rfl
  unfold State.startCycle
  dsimp only
  rw [h]
  cases s.engine.inPlay with
  | none => rfl
  | some p => exact (checkLanes_checked ..).engine

/-- The engine's first vector is the one its source finds, or none (R128, R131). -/
theorem chooseFirst_engine (s : State) :
    s.chooseFirst.engine =
      let e : Engine :=
        { s.engine with
          prbsA := BitVec.allOnes 9, prbsB := BitVec.allOnes 15, clockPhase := false, period := s.step.cur.period }
      (e.choose s.step.cur.source).getD { e with state := .starved, loopIndex := 0, cycle := 0 } := by
  simp only [State.chooseFirst, State.updEngine_engine]
  split <;> simp_all

/-- A start: the first vector is chosen, and its first cycle begins (R128). -/
theorem startEngine_engine (s : State) :
    s.startEngine.engine =
      let e := ({ s.endDueWindows with driveInEffect := s.endDueWindows.drive }).chooseFirst.engine
      match e.inPlay with
      | some (v, _) => { e.advance with lastDrive := v.drive, cycle := e.cycle + 1 }
      | none => e.advance := startCycle_engine ..

/-- What a promotion makes of the engine (R128, R129, R131). -/
theorem enginePromoted_engine (s : State) (old : PatternSource) :
    (s.enginePromoted old).engine = s.engine.promoted old s.step.cur.source s.step.cur.period := by
  have hd := endDueWindows_checked s
  have he := hd.engine
  have ht := hd.step
  have hz : ∀ v : Vec, (s.engine.store.cells[0]?).getD v = s.engine.store.get 0 := fun v => by
    simp [Table.get, s.engine.store.size]
  cases hs : s.engine.state <;> cases hq : s.engine.queue <;> cases hv : s.engine.loopValid <;> cases hn : s.step.cur.source <;>
    simp [State.enginePromoted, Engine.promoted, startEngine_engine, chooseFirst_engine, State.stopEngine, State.resume,
      Engine.choose, Engine.playQueue, Engine.playLoop, Engine.inPlay, Engine.advance, hz, he, ht, hs, hq, hv, hn] <;>
    split <;> simp_all

/-! ### Rails -/

/-- A rail that is TRIPPED takes no second trip (R83). -/
theorem trip_tripped {s : State} {z : ZoneId} (h : (s.zone z).rail.state = .tripped) (c : TripCause) : s.trip z c = s := by
  simp [State.trip, h]

/-- A rail that is not TRIPPED has no trip to clear (R85). -/
theorem clearTrip_other {s : State} {z : ZoneId} (h : (s.zone z).rail.state ≠ .tripped) : s.clearTrip z = s := by
  simp [State.clearTrip, h]

/-- In HALTED a further entry changes nothing (R167). -/
theorem enterHalted_halted {s : State} (h : s.step.state = .halted) : s.enterHalted = s := by
  simp [State.enterHalted, h]

end Sys2Proof.Machine
end

