-- ==== Sys2Proof/Laws/Frames.lean ====
section
/-! SUPPORT. The frame of the operations inside the part: what the host sets up (the tables' writable fields, the Loop Store, the link,
the run counts and the queue of commands) stands through every one of them. One lemma per operation, each from those before it. -/

namespace Sys2Proof.Machine

/-- The writable fields of a SOCKET row (R1). -/
def Socket.setup (k : Socket) : Bool × ZoneId × Fin 4 × Nat × Int × Int :=
  (k.populated, k.zone, k.policy, k.target, k.tjOffset, k.tjSlope)

/-- What the operations inside the part leave alone. -/
structure Setup where
  sockets : SocketId → Bool × ZoneId × Fin 4 × Nat × Int × Int
  zones : ZoneId → ZoneCfg
  lanes : LaneId → SenseRow
  order : List ZoneId
  policies : Table 4 Policy
  accel : Accel
  volt : Volt
  channels : Table 16 Channel
  drive : Table 64 DriveRow
  settings : Settings
  link : Link
  store : Table 256 Vec
  loopLength : Nat
  loopValid : Bool
  runSeconds : Nat
  badWords : Nat
  pending : List Instr

/-- The set-up of a state. -/
def State.setup (s : State) : Setup where
  sockets := fun i => (s.socket i).setup
  zones := fun z => (s.zone z).cfg
  lanes := fun n => (s.lane n).row
  order := s.order
  policies := s.policies
  accel := s.accel
  volt := s.volt
  channels := s.channels
  drive := s.drive
  settings := s.settings
  link := s.link
  store := s.engine.store
  loopLength := s.engine.loopLength
  loopValid := s.engine.loopValid
  runSeconds := s.runSeconds
  badWords := s.badWords
  pending := s.pending

variable (s : State)

/-! ### The updates -/

theorem updSocket_setup (i : SocketId) (f : Socket → Socket) (h : ∀ k, (f k).setup = k.setup) :
    (s.updSocket i f).setup = s.setup := by
  simp only [State.setup, State.updSocket_socket]
  congr 1
  funext j
  split
  · subst_vars; exact h _
  · rfl

theorem updZone_setup (z : ZoneId) (f : Zone → Zone) (h : ∀ v, (f v).cfg = v.cfg) : (s.updZone z f).setup = s.setup := by
  simp only [State.setup, State.updZone_zone]
  congr 1
  funext w
  split
  · subst_vars; exact h _
  · rfl

@[simp] theorem updRail_setup (z : ZoneId) (f : Rail → Rail) : (s.updRail z f).setup = s.setup := updZone_setup s z _ fun _ => rfl

@[simp] theorem updSearch_setup (z : ZoneId) (f : Search → Search) : (s.updSearch z f).setup = s.setup :=
  updZone_setup s z _ fun _ => rfl

@[simp] theorem updHeat_setup (z : ZoneId) (f : Heat → Heat) : (s.updHeat z f).setup = s.setup := updZone_setup s z _ fun _ => rfl

@[simp] theorem updValues_setup (z : ZoneId) (f : Values → Values) : (s.updValues z f).setup = s.setup :=
  updZone_setup s z _ fun _ => rfl

theorem updLane_setup (n : LaneId) (f : Lane → Lane) (h : ∀ l, (f l).row = l.row) : (s.updLane n f).setup = s.setup := by
  simp only [State.setup, State.updLane_lane]
  congr 1
  funext m
  split
  · subst_vars; exact h _
  · rfl

theorem setSockets_setup (f : SocketId → Socket) (h : ∀ i, (f i).setup = (s.socket i).setup) :
    (s.setSockets f).setup = s.setup := by
  simp only [State.setup, State.setSockets_socket, h]
  rfl

theorem setZones_setup (f : ZoneId → Zone) (h : ∀ z, (f z).cfg = (s.zone z).cfg) : (s.setZones f).setup = s.setup := by
  simp only [State.setup, State.setZones_zone, h]
  rfl

theorem setLanes_setup (f : LaneId → Lane) (h : ∀ n, (f n).row = (s.lane n).row) : (s.setLanes f).setup = s.setup := by
  simp only [State.setup, State.setLanes_lane, h]
  rfl

theorem updEngine_setup (f : Engine → Engine)
    (h : ∀ e, (f e).store = e.store ∧ (f e).loopLength = e.loopLength ∧ (f e).loopValid = e.loopValid) :
    (s.updEngine f).setup = s.setup := by
  have := h s.engine
  simp only [State.setup, State.updEngine_engine, this]
  rfl

@[simp] theorem updStep_setup (f : StepCtl → StepCtl) : (s.updStep f).setup = s.setup := rfl

@[simp] theorem updHalt_setup (f : Halt → Halt) : (s.updHalt f).setup = s.setup := rfl

@[simp] theorem updReports_setup (f : Reports → Reports) : (s.updReports f).setup = s.setup := rfl

theorem forEach_setup {α : Type} {xs : List α} {f : α → State → State} (h : ∀ x s, (f x s).setup = s.setup) :
    (forEach xs f s).setup = s.setup :=
  forEach_keeps (P := fun t => t.setup = s.setup) (fun x _ t ht => (h x t).trans ht) rfl

theorem forEachFreely_setup {α : Type} {xs : List α} {f : α → State → State} (h : ∀ x s, (f x s).setup = s.setup) :
    (forEachFreely xs f s).setup = s.setup :=
  forEachFreely_keeps (P := fun t => t.setup = s.setup) (fun _ _ ht => ht) (fun x _ t ht => (h x t).trans ht) rfl

/-! ### Records, notices and switches -/

@[simp] theorem report_setup (r : Record) : (s.report r).setup = s.setup := by
  rw [report_state]; rfl

@[simp] theorem reportZone_setup (z : ZoneId) (e : ZoneEvent) : (s.reportZone z e).setup = s.setup := report_setup ..

@[simp] theorem reportStep_setup (e : StepEvent) : (s.reportStep e).setup = s.setup := report_setup ..

@[simp] theorem reportPattern_setup (e : PatternEvent) (b x : Option Nat) : (s.reportPattern e b x).setup = s.setup :=
  report_setup ..

@[simp] theorem reportLane_setup (n : LaneId) (e : LaneEvent) : (s.reportLane n e).setup = s.setup := report_setup ..

@[simp] theorem evaluateOutput_setup : s.evaluateOutput.setup = s.setup := rfl

@[simp] theorem notice_setup (l : Latch) (named : ZoneId → Bool) : (s.notice l named).setup = s.setup := by
  refine (setSockets_setup _ _ fun i => ?_).trans (setZones_setup _ _ fun z => ?_)
  · simp only [State.setZones_socket]; split <;> rfl
  · split <;> rfl

@[simp] theorem noticeZone_setup (l : Latch) (z : ZoneId) : (s.noticeZone l z).setup = s.setup := notice_setup ..

@[simp] theorem noticeAll_setup (l : Latch) : (s.noticeAll l).setup = s.setup := notice_setup ..

theorem switched_setup (k : Socket) (on : Bool) : (k.switched on).setup = k.setup := by rw [switched_cases]; rfl

theorem switched_row (n : Lane) (was on : Bool) : (n.switched was on).row = n.row := by
  unfold Lane.switched; (repeat' split) <;> rfl

@[simp] theorem evaluateSwitches_setup (named : SocketId → Bool) : (s.evaluateSwitches named).setup = s.setup := by
  have hs : ∀ i, ((s.evaluateSwitches named).socket i).setup = (s.socket i).setup := fun i => by
    rw [evaluateSwitches_socket]; split
    · exact switched_setup ..
    · rfl
  have hl : ∀ n, ((s.evaluateSwitches named).lane n).row = (s.lane n).row := fun n => by
    rw [evaluateSwitches_lane]; split
    · exact switched_row ..
    · rfl
  simp only [State.setup, hs, hl]
  rfl

@[simp] theorem evaluateSwitch_setup (i : SocketId) : (s.evaluateSwitch i).setup = s.setup := evaluateSwitches_setup ..

@[simp] theorem evaluateZoneSwitches_setup (z : ZoneId) : (s.evaluateZoneSwitches z).setup = s.setup := evaluateSwitches_setup ..

/-! ### Sockets -/

@[simp] theorem placeHold_setup (i : SocketId) (h : Hold) : (s.placeHold i h).setup = s.setup :=
  (evaluateSwitch_setup ..).trans (updSocket_setup _ _ _ fun _ => rfl)

@[simp] theorem placeHold?_setup (i : SocketId) (h : Option Hold) : (s.placeHold? i h).setup = s.setup := by
  cases h with
  | none => rfl
  | some h => exact placeHold_setup ..

@[simp] theorem changeState_setup (i : SocketId) (new : SocketState) (c : Option FailCause) :
    (s.changeState i new c).setup = s.setup := by
  rcases changeState_cases s i new c with ⟨-, e⟩ | ⟨-, e⟩ <;> rw [e]
  exact (report_setup ..).trans (updSocket_setup _ _ _ fun _ => rfl)

@[simp] theorem finding_setup (i : SocketId) (c : FailCause) : (s.finding i c).setup = s.setup := by
  simp only [State.finding]
  split
  · rw [changeState_setup, updSocket_setup, placeHold?_setup]
    intro k
    rfl
  · exact placeHold?_setup ..

@[simp] theorem complete_setup (i : SocketId) : (s.complete i).setup = s.setup :=
  (changeState_setup ..).trans (placeHold?_setup ..)

@[simp] theorem testCompletion_setup (i : SocketId) : (s.testCompletion i).setup = s.setup := by
  simp only [State.testCompletion]
  split
  · exact complete_setup ..
  · rfl

@[simp] theorem setReasons_setup (i : SocketId) (f : Reasons → Reasons) : (s.setReasons i f).setup = s.setup := by
  simp only [State.setReasons]
  split
  · exact (changeState_setup ..).trans (updSocket_setup _ _ _ fun _ => rfl)
  · rfl

@[simp] theorem reviewReasons_setup (i : SocketId) : (s.reviewReasons i).setup = s.setup := setReasons_setup ..

/-! ### Rails and search -/

@[simp] theorem enterRail_setup (z : ZoneId) (new : RailState) : (s.enterRail z new).setup = s.setup := by
  have h := updZone_setup s z (fun v =>
    { v with
      rail := { v.rail with state := new }
      driving := new.ungated && (v.driving || (!(s.zone z).rail.state.ungated && decide (s.engine.state = .stopped))) }) fun _ => rfl
  simp only [State.enterRail]
  (repeat' split) <;> (try rw [evaluateZoneSwitches_setup]) <;> (try rw [noticeZone_setup]) <;> exact h

@[simp] theorem testStopping_setup : s.testStopping.setup = s.setup := by
  simp only [State.testStopping]
  split <;> simp

@[simp] theorem startPowerUp_setup (z : ZoneId) : (s.startPowerUp z).setup = s.setup := by simp [State.startPowerUp]

@[simp] theorem tryPowerUp_setup (z : ZoneId) : (s.tryPowerUp z).setup = s.setup := by
  simp only [State.tryPowerUp]
  split <;> simp

@[simp] theorem retestUp_setup (z : ZoneId) : (s.retestUp z).setup = s.setup := by
  simp only [State.retestUp]
  split <;> simp

@[simp] theorem retestAllUp_setup : s.retestAllUp.setup = s.setup := forEach_setup s fun z t => retestUp_setup t z

@[simp] theorem endSearchAbandoned_setup (z : ZoneId) : (s.endSearchAbandoned z).setup = s.setup := by
  simp [State.endSearchAbandoned]

@[simp] theorem abandonSearch_setup (z : ZoneId) : (s.abandonSearch z).setup = s.setup := by simp [State.abandonSearch]

@[simp] theorem enterOff_setup (z : ZoneId) : (s.enterOff z).setup = s.setup := by simp [State.enterOff]

@[simp] theorem beginPowerDown_setup (z : ZoneId) : (s.beginPowerDown z).setup = s.setup := by
  simp only [State.beginPowerDown]
  (repeat' split) <;> simp

theorem retestDown_setup (fuel : Nat) : (State.retestDown fuel s).setup = s.setup := by
  induction fuel generalizing s with
  | zero => rfl
  | succ fuel ih =>
    unfold State.retestDown
    have h := freely_state (allZones.filter fun z => s.readyDown z) s
    split
    · rename_i t e
      rw [e] at h
      exact (congrArg State.setup h).trans rfl
    · rename_i z zs t e
      rw [e] at h
      rw [ih, beginPowerDown_setup]
      exact (congrArg State.setup h).trans rfl

@[simp] theorem retestAllDown_setup : s.retestAllDown.setup = s.setup := retestDown_setup ..

@[simp] theorem rampedOff_setup (z : ZoneId) : (s.rampedOff z).setup = s.setup := by simp [State.rampedOff]

@[simp] theorem trip_setup (z : ZoneId) (c : TripCause) : (s.trip z c).setup = s.setup := by
  simp only [State.trip]
  (repeat' split) <;> simp

@[simp] theorem clearTrip_setup (z : ZoneId) : (s.clearTrip z).setup = s.setup := by
  simp only [State.clearTrip]
  (repeat' split) <;> simp

@[simp] theorem enterConfirming_setup (z : ZoneId) : (s.enterConfirming z).setup = s.setup := by simp [State.enterConfirming]

@[simp] theorem enterHold_setup (z : ZoneId) (e : ZoneEvent) : (s.enterHold z e).setup = s.setup := by simp [State.enterHold]

@[simp] theorem voltageSample_setup (z : ZoneId) (mv : Nat) : (s.voltageSample z mv).setup = s.setup := by
  simp only [State.voltageSample]
  (repeat' split) <;> simp

@[simp] theorem railStale_setup (z : ZoneId) : (s.railStale z).setup = s.setup := by
  simp only [State.railStale]
  split <;> simp

@[simp] theorem rampStep_setup (z : ZoneId) : (s.rampStep z).setup = s.setup := by
  simp only [State.rampStep]
  (repeat' split) <;> simp

@[simp] theorem confirmExpired_setup (z : ZoneId) : (s.confirmExpired z).setup = s.setup := by
  simp only [State.confirmExpired]
  split
  · exact trip_setup ..
  · rfl

@[simp] theorem redirect_setup (z : ZoneId) : (s.redirect z).setup = s.setup := by
  simp only [State.redirect]
  (repeat' split) <;> simp

@[simp] theorem goalChange_setup (z : ZoneId) : (s.goalChange z).setup = s.setup := by
  simp only [State.goalChange]
  (repeat' split) <;> simp

@[simp] theorem formGoals_setup (goals : ZoneId → Option Nat) : (s.formGoals goals).setup = s.setup :=
  (forEachFreely_setup _ fun z t => goalChange_setup t z).trans (setZones_setup _ _ fun _ => rfl)

@[simp] theorem shedNext_setup (z : ZoneId) : (s.shedNext z).setup = s.setup := by
  simp only [State.shedNext]
  split <;> simp

@[simp] theorem exhaust_setup (z : ZoneId) : (s.exhaust z).setup = s.setup := by simp [State.exhaust]

@[simp] theorem searchOn_setup (z : ZoneId) : (s.searchOn z).setup = s.setup := by
  simp only [State.searchOn]
  split <;> simp

@[simp] theorem clearSearch_setup (z : ZoneId) : (s.clearSearch z).setup = s.setup := by simp [State.clearSearch]

@[simp] theorem startSearch_setup (z : ZoneId) (ma : Nat) : (s.startSearch z ma).setup = s.setup := by simp [State.startSearch]

@[simp] theorem measure_setup (z : ZoneId) (ma : Nat) : (s.measure z ma).setup = s.setup := by
  simp only [State.measure]
  (repeat' split) <;> simp

@[simp] theorem currentSample_setup (z : ZoneId) (ma : Nat) : (s.currentSample z ma).setup = s.setup := by
  simp only [State.currentSample]
  (repeat' split) <;> simp

/-! ### Heat -/

@[simp] theorem leaveStable_setup (z : ZoneId) : (s.leaveStable z).setup = s.setup := by
  simp only [State.leaveStable]
  split <;> simp

@[simp] theorem heatOff_setup (z : ZoneId) : (s.heatOff z).setup = s.setup := updHeat_setup ..

@[simp] theorem enterBlind_setup (z : ZoneId) : (s.enterBlind z).setup = s.setup := by simp [State.enterBlind]

@[simp] theorem enterOvertemp_setup (z : ZoneId) : (s.enterOvertemp z).setup = s.setup := by simp [State.enterOvertemp]

@[simp] theorem enterStable_setup (z : ZoneId) : (s.enterStable z).setup = s.setup := by simp [State.enterStable]

@[simp] theorem enterSide_setup (z : ZoneId) (side : Side) : (s.enterSide z side).setup = s.setup := updHeat_setup ..

@[simp] theorem enterSoaking_setup (z : ZoneId) : (s.enterSoaking z).setup = s.setup := by
  simp only [State.enterSoaking]
  split <;> simp

@[simp] theorem place_setup (z : ZoneId) (target : Int) (t : Option Int) : (s.place z target t).setup = s.setup := by
  simp only [State.place]
  (repeat' split) <;> simp

@[simp] theorem targetChange_setup (z : ZoneId) (target : Option Int) : (s.targetChange z target).setup = s.setup := by
  simp only [State.targetChange]
  (repeat' split) <;> simp

@[simp] theorem formTargets_setup (targets : ZoneId → Option Int) : (s.formTargets targets).setup = s.setup :=
  forEachFreely_setup _ fun z t => targetChange_setup t z _

@[simp] theorem applyLaw_setup (z : ZoneId) (t : Int) : (s.applyLaw z t).setup = s.setup := by
  simp only [State.applyLaw]
  (repeat' split) <;> simp

@[simp] theorem excursion_setup (z : ZoneId) (side : Side) : (s.excursion z side).setup = s.setup := by
  simp only [State.excursion]
  (repeat' split) <;> simp

@[simp] theorem bandSample_setup (z : ZoneId) (target t : Int) : (s.bandSample z target t).setup = s.setup := by
  simp only [State.bandSample]
  (repeat' split) <;> simp

@[simp] theorem leaveOvertemp_setup (z : ZoneId) (t : Int) : (s.leaveOvertemp z t).setup = s.setup := by
  simp only [State.leaveOvertemp]
  (repeat' split) <;> simp

@[simp] theorem heatState_setup (z : ZoneId) (t : Int) : (s.heatState z t).setup = s.setup := by
  simp only [State.heatState]
  (repeat' split) <;> simp

@[simp] theorem temperatureSample_setup (z : ZoneId) (t : Int) : (s.temperatureSample z t).setup = s.setup := by
  simp [State.temperatureSample]

@[simp] theorem heatStale_setup (z : ZoneId) : (s.heatStale z).setup = s.setup := by
  simp only [State.heatStale]
  (repeat' split) <;> simp

/-! ### The engine and step control -/

@[simp] theorem stopEngine_setup : s.stopEngine.setup = s.setup :=
  (notice_setup ..).trans (updEngine_setup _ _ fun _ => ⟨rfl, rfl, rfl⟩)

@[simp] theorem stopEngineAtOnce_setup : s.stopEngineAtOnce.setup = s.setup :=
  (updEngine_setup _ _ fun _ => ⟨rfl, rfl, rfl⟩).trans (stopEngine_setup s)

@[simp] theorem enterStarved_setup : s.enterStarved.setup = s.setup :=
  (noticeAll_setup ..).trans ((reportPattern_setup ..).trans
    ((notice_setup ..).trans (updEngine_setup _ _ fun _ => ⟨rfl, rfl, rfl⟩)))

/-- A choice of a vector leaves the Loop Store. -/
theorem choose_store {e f : Engine} {source : PatternSource} (h : e.choose source = some f) :
    f.store = e.store ∧ f.loopLength = e.loopLength ∧ f.loopValid = e.loopValid := by
  unfold Engine.choose at h
  (repeat' split at h) <;> simp_all [Engine.playQueue, Engine.playLoop] <;> (subst h; simp)

@[simp] theorem endPrbsWindow_setup (n : LaneId) : (s.endPrbsWindow n).setup = s.setup := by
  have h : (s.updLane n fun l => { l with prbs := (s.lane n).prbs.endWindow.1 }).setup = s.setup := updLane_setup s n _ fun _ => rfl
  simp only [State.endPrbsWindow]
  (repeat' split) <;> simp [h]

@[simp] theorem endToggleWindow_setup (n : LaneId) : (s.endToggleWindow n).setup = s.setup := by
  have h : (s.updLane n fun l => { l with watch := (s.lane n).watch.endWindow.1 }).setup = s.setup :=
    updLane_setup s n _ fun _ => rfl
  simp only [State.endToggleWindow]
  (repeat' split) <;> simp [h]

@[simp] theorem endDueWindows_setup : s.endDueWindows.setup = s.setup :=
  (forEachFreely_setup _ fun n t => endToggleWindow_setup t n).trans (forEachFreely_setup s fun n t => endPrbsWindow_setup t n)

@[simp] theorem failingCheck_setup (f : Failing) : (s.failingCheck f).setup = s.setup := by
  have h : ∀ (r : Socket → Nat) (b : Socket → Option FirstFail),
      (s.updSocket (laneSocket f.lane) fun k => { k with running := r k, firstFail := b k }).setup = s.setup :=
    fun _ _ => updSocket_setup s _ _ fun _ => rfl
  unfold State.failingCheck
  dsimp only
  split
  · split
    · exact (report_setup ..).trans (h _ _)
    · exact h _ _
  · rfl

theorem cycle_row (l : Lane) (n : LaneId) (sample : Bool) (c : CycleWords) : (l.cycle n sample c).1.row = l.row := by
  unfold Lane.cycle
  dsimp only
  split <;> rfl

@[simp] theorem checkLanes_setup (c : CycleWords) (sense : BitVec 64) : (s.checkLanes c sense).setup = s.setup :=
  (forEachFreely_setup _ fun f t => failingCheck_setup t f).trans (setLanes_setup s _ fun n => by
    dsimp only
    split <;> simp [cycle_row])

@[simp] theorem watchExercise_setup {f : State → State} (h : (f s).setup = s.setup) : (s.watchExercise f).setup = s.setup :=
  (notice_setup ..).trans h

@[simp] theorem driveCycle_setup : s.driveCycle.setup = s.setup := by
  unfold State.driveCycle
  dsimp only
  rw [setZones_setup]
  · exact watchExercise_setup s rfl
  · exact fun _ => rfl

/-- The start of a vector cycle leaves all that the host sets up. -/
@[simp] theorem startCycle_setup (sense : BitVec 64) : (s.startCycle sense).setup = s.setup := by
  have h : ∀ f : Engine → Engine, (∀ e, (f e).store = e.store ∧ (f e).loopLength = e.loopLength ∧ (f e).loopValid = e.loopValid) →
      (s.driveCycle.updEngine f).setup = s.setup := fun f hf => (updEngine_setup _ f hf).trans (driveCycle_setup s)
  simp only [State.startCycle]
  split
  · rw [checkLanes_setup]; exact h _ fun _ => ⟨rfl, rfl, rfl⟩
  · exact h _ fun _ => ⟨rfl, rfl, rfl⟩

/-- The first vector of a start is the one chosen, or the engine enters STARVED. -/
@[simp] theorem chooseFirst_setup : s.chooseFirst.setup = s.setup := by
  have h : ∀ t : State, (t.updEngine fun e =>
      { e with prbsA := BitVec.allOnes 9, prbsB := BitVec.allOnes 15, clockPhase := false, period := t.step.cur.period }).setup =
        t.setup := fun t => updEngine_setup t _ fun _ => ⟨rfl, rfl, rfl⟩
  have g : ∀ (t : State) (e : Engine),
      e.store = t.engine.store ∧ e.loopLength = t.engine.loopLength ∧ e.loopValid = t.engine.loopValid →
        (t.updEngine fun _ => e).setup = t.setup := fun t e he => by
    simp only [State.setup, State.updEngine_engine, he]; rfl
  unfold State.chooseFirst
  dsimp only
  split
  · exact (g _ _ (choose_store ‹_›)).trans (h s)
  · exact (enterStarved_setup _).trans (h s)

theorem freeIndex_setup (n : Nat) : State.setup { s with freeIndex := n } = s.setup := rfl

theorem driveInEffect_setup (d : Table 64 DriveRow) : State.setup { s with driveInEffect := d } = s.setup := rfl

@[simp] theorem firstCycle_setup : s.firstCycle.setup = s.setup := by
  unfold State.firstCycle
  rw [startCycle_setup, freeIndex_setup]

/-- A start of the engine leaves all that the host sets up. -/
@[simp] theorem startEngine_setup : s.startEngine.setup = s.setup := by
  unfold State.startEngine
  rw [firstCycle_setup, chooseFirst_setup, driveInEffect_setup, endDueWindows_setup]

@[simp] theorem forceDuties_setup : s.forceDuties.setup = s.setup := setZones_setup _ _ fun _ => rfl

@[simp] theorem enterHalted_setup : s.enterHalted.setup = s.setup := by
  simp only [State.enterHalted]
  split
  · rfl
  · rw [updStep_setup, stopEngineAtOnce_setup, forceDuties_setup, forEach_setup _ fun z t => trip_setup t z _, reportStep_setup,
      updStep_setup]

@[simp] theorem readLine_setup : s.readLine.setup = s.setup := by
  simp only [State.readLine]
  split <;> simp

end Sys2Proof.Machine
end

