-- ==== Sys2Proof/Laws/PerInstr.lean ====
section
/-! SUPPORT. One family of statements over the syntax, a lemma per constructor: a well-formed command that a MGMT frame carries fits in
one. -/

namespace Sys2Proof.Laws.Operands

open Sys2Proof Sys2Proof.Machine

/-- The payload of the frame that carries a well-formed command has a command code and at most 1024 bytes (R189, R190). -/
def Statement (c : Instr) : Prop :=
  c.wellFormed = true → ∀ p : List Byte, commandPayload c = some p → 1 ≤ p.length ∧ p.length ≤ 1024

theorem be_length (k n : Nat) : (be k n).length = k := by
  induction k with
  | zero => rfl
  | succ k ih => rw [be, List.length_cons, ih]

/-- A payload of a header and a list that fits. -/
theorem fits {head tail p : List Byte} {n : Nat} (hh : 1 ≤ head.length) (hn : head.length + n ≤ 1024) (ht : tail.length ≤ n)
    (hp : some (head ++ tail) = some p) : 1 ≤ p.length ∧ p.length ≤ 1024 := by
  obtain rfl := Option.some.inj hp
  rw [List.length_append]
  omega

/-- A payload of fixed length. -/
theorem fixed {q p : List Byte} (h1 : 1 ≤ q.length) (h2 : q.length ≤ 1024) (hp : some q = some p) :
    1 ≤ p.length ∧ p.length ≤ 1024 := Option.some.inj hp ▸ ⟨h1, h2⟩

/-- A command that no frame carries. -/
theorem uncarried {q : Prop} {p : List Byte} (hp : none = some p) : q := nomatch hp

/-- A table write of header bytes, mask and values. -/
theorem tableFrame {a b c d : Byte} {m : Nat} {values p : List Byte} (h : values.length ≤ 1012)
    (hp : some ([a, b, c, d] ++ be 8 m ++ values) = some p) : 1 ≤ p.length ∧ p.length ≤ 1024 := by
  have hl : ([a, b, c, d] ++ be 8 m).length = 12 := by rw [List.length_append, be_length]; rfl
  exact fits (by omega) (by omega) h hp

/-- A socket set with what follows it. -/
theorem setFrame {a : Byte} {m : Nat} {rest p : List Byte} (h : rest.length ≤ 1) (hp : some (a :: be 4 m ++ rest) = some p) :
    1 ≤ p.length ∧ p.length ≤ 1024 := by
  have hl : (a :: be 4 m).length = 5 := by rw [List.length_cons, be_length]
  exact fits (by omega) (by omega) h hp

theorem powerOnReset (addr : BitVec 6) (othersPull downPartner upReceiver : Bool) :
    Statement (.powerOnReset addr othersPull downPartner upReceiver) :=
  fun _ _ hp => uncarried hp

theorem upFrameTaken (bytes : List Byte) : Statement (.upFrameTaken bytes) :=
  fun _ _ hp => uncarried hp

theorem downFrameTaken (bytes : List Byte) : Statement (.downFrameTaken bytes) :=
  fun _ _ hp => uncarried hp

theorem downTransmitEnd : Statement .downTransmitEnd :=
  fun _ _ hp => uncarried hp

theorem upTransmitEnd : Statement .upTransmitEnd :=
  fun _ _ hp => uncarried hp

theorem downPartnerChange (present : Bool) : Statement (.downPartnerChange present) :=
  fun _ _ hp => uncarried hp

theorem upReceiverChange (present : Bool) : Statement (.upReceiverChange present) :=
  fun _ _ hp => uncarried hp

theorem tblWrite (src tag : Byte) (table first count : Byte) (mask : BitVec 64) (values : List Byte) :
    Statement (.tblWrite src tag table first count mask values) :=
  fun h _ hp => tableFrame (of_decide_eq_true (Bool.and_eq_true_iff.mp h).2) hp

theorem socketTableWrite (src tag : Byte) (first count : Byte) (mask : BitVec 64) (values : List Byte) :
    Statement (.socketTableWrite src tag first count mask values) :=
  fun h _ hp => tableFrame (of_decide_eq_true h) hp

theorem zoneTableWrite (src tag : Byte) (first count : Byte) (mask : BitVec 64) (values : List Byte) :
    Statement (.zoneTableWrite src tag first count mask values) :=
  fun h _ hp => tableFrame (of_decide_eq_true h) hp

theorem orderWrite (src tag : Byte) (first count : Byte) (mask : BitVec 64) (values : List Byte) :
    Statement (.orderWrite src tag first count mask values) :=
  fun h _ hp => tableFrame (of_decide_eq_true h) hp

theorem stepStageWrite (src tag : Byte) (first count : Byte) (mask : BitVec 64) (values : List Byte) :
    Statement (.stepStageWrite src tag first count mask values) :=
  fun h _ hp => tableFrame (of_decide_eq_true h) hp

theorem senseModeWrite (src tag : Byte) (first count : Byte) (mask : BitVec 64) (values : List Byte) :
    Statement (.senseModeWrite src tag first count mask values) :=
  fun h _ hp => tableFrame (of_decide_eq_true h) hp

theorem settingsWrite (src tag : Byte) (first count : Byte) (mask : BitVec 64) (values : List Byte) :
    Statement (.settingsWrite src tag first count mask values) :=
  fun h _ hp => tableFrame (of_decide_eq_true h) hp

theorem tblRead (src tag : Byte) (table first count : Byte) (mask : BitVec 64) :
    Statement (.tblRead src tag table first count mask) :=
  fun _ _ hp => tableFrame (values := []) (by decide) (by rw [List.append_nil]; exact hp)

theorem loopLoad (src tag : Byte) (first count flags : Byte) (vectors : List Byte) :
    Statement (.loopLoad src tag first count flags vectors) :=
  fun h _ hp => fits (head := [3, first, count, flags]) (n := 1020) (Nat.le_add_left ..)
    (by rw [List.length_cons, List.length_cons, List.length_cons, List.length_singleton]) (of_decide_eq_true h) hp

theorem stageSettle (src tag : Byte) : Statement (.stageSettle src tag) :=
  fun _ _ hp => fixed (q := [16]) (Nat.le_add_left ..) (by decide) hp

theorem stageUnsettle (src tag : Byte) : Statement (.stageUnsettle src tag) :=
  fun _ _ hp => fixed (q := [17]) (Nat.le_add_left ..) (by decide) hp

theorem stepStart (src tag : Byte) : Statement (.stepStart src tag) :=
  fun _ _ hp => fixed (q := [18]) (Nat.le_add_left ..) (by decide) hp

theorem stepStop (src tag : Byte) : Statement (.stepStop src tag) :=
  fun _ _ hp => fixed (q := [19]) (Nat.le_add_left ..) (by decide) hp

theorem stepAbort (src tag : Byte) : Statement (.stepAbort src tag) :=
  fun _ _ hp => fixed (q := [20]) (Nat.le_add_left ..) (by decide) hp

theorem stepClear (src tag : Byte) : Statement (.stepClear src tag) :=
  fun _ _ hp => fixed (q := [21]) (Nat.le_add_left ..) (by decide) hp

theorem zoneClear (src tag : Byte) (zones : Byte) : Statement (.zoneClear src tag zones) :=
  fun _ _ hp => fixed (q := [32, zones]) (Nat.le_add_left ..) (Nat.le_of_ble_eq_true rfl) hp

theorem socketArm (src tag : Byte) (sockets : BitVec 32) (options : Byte) : Statement (.socketArm src tag sockets options) :=
  fun _ _ hp => setFrame (rest := [options]) (Nat.le_refl 1) hp

theorem socketRelease (src tag : Byte) (sockets : BitVec 32) : Statement (.socketRelease src tag sockets) :=
  fun _ _ hp => setFrame (rest := []) (by decide) (by rw [List.append_nil]; exact hp)

theorem socketHold (src tag : Byte) (sockets : BitVec 32) : Statement (.socketHold src tag sockets) :=
  fun _ _ hp => setFrame (rest := []) (by decide) (by rw [List.append_nil]; exact hp)

theorem socketRestore (src tag : Byte) (sockets : BitVec 32) : Statement (.socketRestore src tag sockets) :=
  fun _ _ hp => setFrame (rest := []) (by decide) (by rw [List.append_nil]; exact hp)

theorem socketFail (src tag : Byte) (sockets : BitVec 32) : Statement (.socketFail src tag sockets) :=
  fun _ _ hp => setFrame (rest := []) (by decide) (by rw [List.append_nil]; exact hp)

theorem snapshot (src tag : Byte) : Statement (.snapshot src tag) :=
  fun _ _ hp => fixed (q := [64]) (Nat.le_add_left ..) (by decide) hp

theorem statusRead (src tag : Byte) : Statement (.statusRead src tag) :=
  fun _ _ hp => fixed (q := [80]) (Nat.le_add_left ..) (by decide) hp

theorem runReset (src tag : Byte) : Statement (.runReset src tag) :=
  fun _ _ hp => fixed (q := [90]) (Nat.le_add_left ..) (by decide) hp

theorem sampleWord (word : BitVec 17) : Statement (.sampleWord word) :=
  fun _ _ hp => uncarried hp

theorem staleTimerExpiry (zone : Fin 4) (quantity : Quantity) : Statement (.staleTimerExpiry zone quantity) :=
  fun _ _ hp => uncarried hp

theorem intervalExpiry : Statement .intervalExpiry :=
  fun _ _ hp => uncarried hp

theorem rampStepExpiry (zone : Fin 4) : Statement (.rampStepExpiry zone) :=
  fun _ _ hp => uncarried hp

theorem confirmTimerExpiry (zone : Fin 4) : Statement (.confirmTimerExpiry zone) :=
  fun _ _ hp => uncarried hp

theorem settleTimerExpiry (zone : Fin 4) : Statement (.settleTimerExpiry zone) :=
  fun _ _ hp => uncarried hp

theorem soakTimerExpiry (zone : Fin 4) : Statement (.soakTimerExpiry zone) :=
  fun _ _ hp => uncarried hp

theorem graceTimerExpiry (zone : Fin 4) : Statement (.graceTimerExpiry zone) :=
  fun _ _ hp => uncarried hp

theorem vectorCycle (sense : BitVec 64) : Statement (.vectorCycle sense) :=
  fun _ _ hp => uncarried hp

theorem vectorBoundary : Statement .vectorBoundary :=
  fun _ _ hp => uncarried hp

theorem prbsWindowEnd (lane : Fin 64) : Statement (.prbsWindowEnd lane) :=
  fun _ _ hp => uncarried hp

theorem toggleWindowEnd (lane : Fin 64) : Statement (.toggleWindowEnd lane) :=
  fun _ _ hp => uncarried hp

theorem gateExpiry (socket : Fin 32) : Statement (.gateExpiry socket) :=
  fun _ _ hp => uncarried hp

theorem haltLineAsserted (othersPull : Bool) : Statement (.haltLineAsserted othersPull) :=
  fun _ _ hp => uncarried hp

theorem haltLineReleased : Statement .haltLineReleased :=
  fun _ _ hp => uncarried hp

theorem freqLaneRisingEdge (socket : Fin 32) : Statement (.freqLaneRisingEdge socket) :=
  fun _ _ hp => uncarried hp

end Sys2Proof.Laws.Operands
end

