-- ==== Sys2Proof/Tests/Slice0.lean ====
section
/-! SUPPORT. Tests: the spec's worked examples, each on one step or one operation, the smoke test of WellFormed, and for every
statement with hypotheses a state and operands that meet them. -/

namespace Sys2Proof.Tests

open Sys2Proof Sys2Proof.Machine

/-! ### WellFormed: an ill-formed term for each check -/

theorem test_wf_empty_up_frame : (Instr.upFrameTaken []).wellFormed = false := by decide
theorem test_wf_empty_down_frame : (Instr.downFrameTaken []).wellFormed = false := by decide
theorem test_wf_table_with_own_row : (Instr.tblWrite 0 0 3 0 1 1 []).wellFormed = false := by decide
theorem test_wf_long_table_write : (Instr.tblWrite 0 0 4 0 1 1 (List.replicate 1013 0)).wellFormed = false := by decide +kernel
theorem test_wf_long_socket_write : (Instr.socketTableWrite 0 0 0 1 1 (List.replicate 1013 0)).wellFormed = false := by
  decide +kernel
theorem test_wf_long_loop_load : (Instr.loopLoad 0 0 0 1 0 (List.replicate 1021 0)).wellFormed = false := by decide +kernel
theorem test_wf_table_without_own_row : (Instr.tblWrite 0 0 4 0 1 1 []).wellFormed = true := by decide

/-- The table gives no bits, so no word spells a command (log 24). -/
theorem test_decode_nothing : decodeTableWord 8 0 = none := rfl

/-! ### Byte forms (12_frame_and_record_layouts.md) -/

/-- R188: socket state VACANT is 0 and COMPLETE is 5, trip cause OVERCURRENT is 0 and HALT is 6. -/
theorem test_enumerated_codes :
    SocketState.vacant.code = 0 ∧ SocketState.complete.code = 5 ∧ TripCause.overcurrent.code = 0 ∧ TripCause.halt.code = 6 := by
  decide

/-- R172's CRC is the widely used one with polynomial 1021 and a register of ones, whose value for the text 123456789 is 29B1. -/
theorem test_crc_check_value : crc [0x31, 0x32, 0x33, 0x34, 0x35, 0x36, 0x37, 0x38, 0x39] = 0x29B1 := by decide +kernel

/-- 08_pattern_drive.md: a drive word with seven one bits needs a check bit of 0 under ODD_DRIVE and of 1 under EVEN_DRIVE. -/
theorem test_vector_check :
    let v := fun check => ({ vec := { drive := 0x7F }, check } : SentVector)
    (v false).passes .oddDrive = true ∧ (v true).passes .oddDrive = false ∧ (v true).passes .evenDrive = true := by decide

/-! ### Accrual (sections 2.5 and 2.7) -/

theorem test_accrual_example :
    ({ credit := 92160000, fraction := 200 } : Socket).accrue (3136 * 341) = { credit := 92164178, fraction := 8 } := by decide

theorem test_accrual_saturates :
    ({ credit := 4294966000, fraction := 100, target := 16777215 } : Socket).accrue 1069376 =
      { credit := 4294967295, fraction := 0, target := 16777215 } ∧
    ({ credit := 4294967295, target := 16777215 } : Socket).targetMet = true := by decide

/-- R30: a T of -5 with base 0 and width 10 is bin 0 and one of 400 is bin 15; section 2.5: 250 with base 160 is bin 9, and
1893 mV with base 1700 and step 50 is bin 3. -/
theorem test_bins : binOf (-5) 0 10 15 = 0 ∧ binOf 400 0 10 15 = 15 ∧ binOf 250 160 10 15 = 9 ∧ binOf 1893 1700 50 7 = 3 := by
  decide

/-! ### Verdicts (sections 3.9 and 3.10) -/

theorem test_m_of_n :
    ({ failThreshold := 150, failM := 2, failN := 4 } : Policy).failsHistory [0, 30, 5, 3, 180, 40] = false ∧
    ({ failThreshold := 150, failM := 2, failN := 4 } : Policy).failsHistory [0, 30, 5, 3, 180, 40, 170] = true := by decide

theorem test_full_report_queue :
    let r := Record.pattern .overrun none none
    let q := (({ queue := List.replicate 63 r, created := 1000, sent := 937 } : Reports).create r).create r
    q.queue.length = 64 ∧ q.created = 1002 ∧ q.sent = 937 ∧ q.dropped = 1 := by decide

/-! ### Samples (section 4) -/

theorem test_sample_conversions :
    ({ scale := 4884 } : Channel).convert .voltage 1588 = 1893 ∧ ({ scale := 65535 } : Channel).convert .current 4095 = 60000 ∧
    ({ scale := 480, offset := -80 } : Channel).convert .temperature 2764 = 243 ∧
    ({ scale := 480, offset := -200 } : Channel).convert .temperature 100 = -80 := by decide

/-! ### Rails (section 5) -/

theorem test_trim_codes : trimCode 3300 1200 = 1489 ∧ trimCode 3300 1000 = 1240 ∧ trimCode 3300 1890 = 2345 := by decide

/-- The zone Z2 of the regulation trip of 05_zone_rails.md, after its fourth sample. -/
def regulated : Zone :=
  { cfg := { windowMv := 50, regCount := 3 }
    rail := { state := .hold, setpoint := 1890, goal := some 1890, oowCount := 2 } }

theorem test_regulation_trip :
    (((State.reset.updZone 2 fun _ => regulated).voltageSample 2 1833).zone 2).rail =
      { state := .tripped, goal := some 1890, tripCause := some .undervolt } := by decide

theorem test_regulation_resets :
    (((State.reset.updZone 2 fun _ => regulated).voltageSample 2 1851).zone 2).rail.oowCount = 0 := by decide

/-- The ordered power-up of 05_zone_rails.md at 27 ms: Z0 confirms and Z2, waiting behind it, starts. -/
def orderedUp : State :=
  { State.reset with
    order := [0, 2]
    zones := Table.ofFn fun z =>
      if z = 0 then { rail := { state := .confirming, setpoint := 1200, goal := some 1200, confirmTimer := true } }
      else if z = 2 then { rail := { goal := some 1890, waiting := .powerUp } }
      else {} }

theorem test_ordered_power_up :
    let t := orderedUp.voltageSample 0 1188
    (t.zone 0).rail.state = .hold ∧ (t.zone 2).rail.state = .ramping ∧ (t.zone 2).rail.setpoint = 0 ∧
      (t.zone 2).rail.waiting = .none := by decide

/-! ### Isolation search (section 6.6) -/

/-- Z2 at 97 ms: S19 is the candidate. -/
def searching : State :=
  { State.reset with
    zones := Table.ofFn fun z =>
      if z = 2 then
        { cfg := { shareMa := 1500 }
          rail := { state := .searching, setpoint := 1000, goal := some 1000 }
          search := { phase := .measuring, candidate := some 19, baseline := some 11800, pending := [20, 21, 23] } }
      else {}
    sockets := Table.ofFn fun i =>
      if 16 ≤ i.val ∧ i.val ≤ 23 then
        { populated := true, zone := 2, state := .running, switch := i.val != 19 && i.val != 22 }
      else {} }

theorem test_search_culprit :
    let t := searching.currentSample 2 9600
    (t.socket 19).hold = some .short ∧ (t.socket 19).state = .failed ∧ (t.zone 2).search = {} ∧
      (t.zone 2).rail.state = .hold := by decide

theorem test_search_goes_on :
    let t := searching.currentSample 2 10300
    (t.zone 2).search =
      { phase := .settling, candidate := some 20, baseline := some 10300, pending := [21, 23], settleTimer := true } ∧
    (t.socket 19).switch = false ∧ (t.socket 20).switch = false := by decide

/-! ### Heat (sections 7.10 and 7.11) -/

theorem test_heater_law :
    let c : ZoneCfg := { kp := 20, ki := 8, dutyMax := 300 }
    let h : Heat := { integral := 300, duty := 270 }
    let a := h.law c 250 238
    let b := a.law c 250 230
    let d := b.law c 250 232
    let e := d.law c 250 245
    let f := e.law c 250 253
    let g := f.law c 250 255
    let k := g.law c 250 251
    [(a.integral, a.duty), (b.integral, b.duty), (d.integral, d.duty), (e.integral, e.duty), (f.integral, f.duty),
      (g.integral, g.duty), (k.integral, k.duty)] =
    [(312, 279), (332, 300), (332, 300), (332, 141), (329, 0), (329, 0), (329, 21)] := by decide

/-- Z3 at 4,030 s, in OVERTEMP with step control HALTED: 318 is at or below 320 and above 306. -/
theorem test_overtemp_exit :
    let s := (State.reset.updZone 3 fun _ =>
      { cfg := { hardLimit := 340 }, heat := { state := .overtemp, target := some 300 }, rail := { state := .tripped } })
    ((s.temperatureSample 3 325).zone 3).heat.state = .overtemp ∧ ((s.temperatureSample 3 318).zone 3).heat.state = .cooling ∧
      ((s.temperatureSample 3 318).zone 3).heat.side = some .high := by decide

/-! ### The pattern engine (R135) -/

/-- The outputs of a generator's next cycles. -/
def outputsA : Nat → BitVec 9 → List Bool
  | 0, _ => []
  | n + 1, r => (prbsANext r).getLsbD 0 :: outputsA n (prbsANext r)

theorem test_prbs_a_outputs :
    outputsA 16 (BitVec.allOnes 9) =
      [false, false, false, false, false, true, true, true, true, false, true, true, true, true, true, false] := by decide

/-! ### The checker (sections 9.5 and 9.7) -/

/-- Window 4 locks and windows 8 and 9 lose the lock. -/
theorem test_prbs_windows :
    ({ errors := 1, run := 1, predictions := 48 } : PrbsCheck).endWindow = ({ locked := true }, some .lockGained) ∧
    ({ errors := 25, locked := true, predictions := 48 } : PrbsCheck).endWindow = ({ locked := true, run := 1 }, none) ∧
    ({ errors := 27, locked := true, run := 1, predictions := 48 } : PrbsCheck).endWindow =
      ({ lockLost := true }, some .lockLost) := by decide

theorem test_junction_estimates :
    gateCount 655360 7 = 5120 ∧ gateCount 60 7 = 0 ∧ gateCount 669440 7 = 5230 ∧
    ({ tjOffset := -3000, tjSlope := 2600 } : Socket).estimateOf 5120 = 250 ∧
    ({ tjOffset := -3000, tjSlope := 2600 } : Socket).estimateOf 5230 = 319 := by decide

/-! ### The link (section 11) -/

/-- Event 1 of the arbiter under load: the reply goes out, and the flag names LOCAL. -/
theorem test_arbiter_serves_reply :
    let s : State := { State.reset with
      link := { State.reset.link with
        upSending := some [0], upQueue := [[1], [2]], lastServed := .forward, sequence := 17
        replies := [{ dest := 0, tag := 3, code := 80, status := .ok, result := [] }] }
      reports := { queue := [.pattern .overrun none none, .pattern .gap none none] } }
    let t := s.upEnded.arbitrate
    t.link.replies = [] ∧ t.link.upQueue.length = 2 ∧ t.reports.queue.length = 2 ∧ t.link.lastServed = .locals ∧
      t.link.sequence = 17 := by decide

/-- A broadcast SOCKET_HOLD meets a full Reply Queue at slot 9: forwarded, not executed, one reply dropped. -/
theorem test_broadcast_full_reply_queue :
    let r : Reply := { dest := 0, tag := 3, code := 80, status := .ok, result := [] }
    let s : State := { State.reset with
      link := { State.reset.link with
        address := 9, upSending := some [0], downSending := some [0], downQueue := [[1], [2], [3]], replies := [r, r, r, r] } }
    let f : Frame := { dest := 63, src := 0, kind := kindMgmt, tag := 40, payload := [50, 0, 0, 0, 1] }
    let t := s.route f f.bytes
    t.sockets = s.sockets ∧ t.link.replies.length = 4 ∧ t.link.downQueue.length = 4 ∧ t.link.counts.replyDrop = 1 := by decide

/-! ### A running slot, in which every predicate of Sys2Proof/Safety.lean holds -/

/-- A zone in HOLD and STABLE, with every value watched. -/
def heldZone : Zone :=
  { cfg := { maxMv := 1000 }
    rail := { state := .hold, setpoint := 1000, goal := some 1000 }
    heat := { state := .stable, target := some 250 }
    values :=
      { voltage := some 1000, current := some 10, temperature := some 250, voltageTimer := true, currentTimer := true
        temperatureTimer := true }
    driving := true }

/-- While STOPPED, a change into HOLD frees the lanes at the change (R136); one from HOLD to SEARCHING frees none (log 17). -/
theorem test_lanes_freed_while_stopped :
    let s : State := { State.reset with zones := Table.ofFn fun z => if z = 0 then { heldZone with driving := false } else {} }
    ((s.enterRail 1 .hold).zone 1).driving = true ∧ ((s.enterRail 0 .searching).zone 0).driving = false := by decide

/-- Zone 0 held, socket 0 RUNNING, qualified and one unit below its target, its secondary lane measuring, the last vector of a full
loop in play, every reply place but one and every report place but one taken, and an edge waiting. -/
def running : State :=
  { State.reset with
    zones := Table.ofFn fun z => if z = 0 then heldZone else {}
    sockets := Table.ofFn fun i =>
      if i = 0 then
        { populated := true, target := 1, state := .running, switch := true, credit := 255, fraction := 255, running := 65535
          history := List.replicate 8 1, estimate := some 250, qualified := true }
      else {}
    lanes := Table.ofFn fun n =>
      if n = 1 then { row := { mode := .freq }, gate := { raw := some 7, monitor := .valid, lastCount := some 5120 } } else {}
    drive := Table.fill { source := .vector }
    driveInEffect := Table.fill { source := .vector }
    engine := { state := .looping, loopValid := true, loopLength := 256, loopIndex := 255 }
    step := { state := .running, cur := { number := 1, source := .loop, railTarget := Table.fill (some 1000) } }
    reports := { queue := List.replicate 63 (.pattern .gap none none), created := 65534, sent := 65470, dropped := 1 }
    link := { State.reset.link with
      upSending := some []
      replies := List.replicate 3 { dest := 0, tag := 0, code := 80, status := .ok, result := [] } }
    pending := [.freqLaneRisingEdge 0] }

theorem running_queues : running.QueuesBounded := by unfold State.QueuesBounded; decide
theorem running_reports : running.ReportsBalance := by unfold State.ReportsBalance; decide +kernel
theorem running_switches : running.SwitchesFollow := by unfold State.SwitchesFollow; decide
theorem running_output : running.OutputFollows := by unfold State.OutputFollows; decide
theorem running_targets : running.TargetsKept := by unfold State.TargetsKept; decide
theorem running_ranges : running.SocketsInRange := by unfold State.SocketsInRange Socket.InRange; decide
theorem running_rails : running.RailsConsistent := by
  unfold State.RailsConsistent Zone.RailConsistent; simp only [eq_iff_iff]; decide
theorem running_heat : running.HeatConsistent := by unfold State.HeatConsistent Heat.Consistent; decide
theorem running_timers : running.TimersWatched := by unfold State.TimersWatched Zone.Watched; decide
theorem running_halt : running.HaltHolds := by unfold State.HaltHolds; decide
theorem running_transmitters : running.TransmittersServe := by unfold State.TransmittersServe; decide
theorem running_qualified : running.QualifiedHold := by unfold State.QualifiedHold; decide
theorem running_step : running.StepConsistent := by unfold State.StepConsistent; decide
theorem running_gates : running.GatesRun := by unfold State.GatesRun; decide
theorem running_engine : running.EngineConsistent := by unfold State.EngineConsistent; decide

/-- The reset state with socket 0 and lanes 0 and 1 replaced. -/
def withSocket (k : Socket) (lane0 : Lane := {}) (lane1 : Lane := {}) : State :=
  { State.reset with
    sockets := Table.ofFn fun i => if i = 0 then k else {}
    lanes := Table.ofFn fun n => if n = 0 then lane0 else if n = 1 then lane1 else {} }

/-- The reset state with another line at the HALT input. -/
def pulled : State := { State.reset with halt := { others := true } }

/-- The reset state with an engine and a pattern source. -/
def playing (e : Engine) (source : PatternSource) : State :=
  { State.reset with engine := e, step := { state := .running, cur := { source } } }

/-- Socket 0 SUSPECT for a lock lost on its primary lane. -/
def suspected : State := withSocket { state := .suspect, reasons := { lock := true } } { prbs := { lockLost := true } }

theorem running_reasons : running.ReasonsFollow := by unfold State.ReasonsFollow; decide
theorem suspected_reasons : suspected.ReasonsFollow := by unfold State.ReasonsFollow; decide

/-- The waiting edge is taken. -/
theorem running_next : step running = .next (State.risingEdge { running with pending := [] } 0) := rfl

/-! ### Witnesses: for every statement with hypotheses, a state and operands that meet them, clause by clause -/

theorem witness_StepTakesFrontCommand :
    (∃ (c : Instr) (rest : List Instr) (s : State), s.pending = c :: rest) ∧ ∃ s : State, s.pending = [] :=
  ⟨⟨_, _, running, rfl⟩, State.reset, rfl⟩

theorem witness_StepKeepsQueueCounts : ∃ s t : State, step s = .next t ∧ s.QueuesBounded ∧ s.ReportsBalance :=
  ⟨running, _, running_next, running_queues, running_reports⟩

theorem witness_StepKeepsDerivedState :
    ∃ s t : State, step s = .next t ∧ s.SwitchesFollow ∧ s.OutputFollows ∧ s.GatesRun :=
  ⟨running, _, running_next, running_switches, running_output, running_gates⟩

theorem witness_StepKeepsSocketBounds :
    (∃ s t : State, step s = .next t ∧ s.TargetsKept ∧ s.SocketsInRange ∧ s.ReasonsFollow ∧ (s.socket 0).state = .running) ∧
    ∃ s t : State, step s = .next t ∧ s.ReasonsFollow ∧ (s.socket 0).state = .suspect :=
  ⟨⟨running, _, running_next, running_targets, running_ranges, running_reasons, rfl⟩,
    ⟨suspected, _, rfl, suspected_reasons, rfl⟩⟩

theorem witness_StepKeepsZoneRecordsConsistent : ∃ s t : State, step s = .next t ∧ s.RailsConsistent ∧ s.HeatConsistent :=
  ⟨running, _, running_next, running_rails, running_heat⟩

theorem witness_StepKeepsTimersWatched :
    ∃ s t : State, s.RailsConsistent ∧ s.HeatConsistent ∧ s.TimersWatched ∧ step s = .next t :=
  ⟨running, _, running_rails, running_heat, running_timers, running_next⟩

theorem witness_StepKeepsStepControl :
    ∃ s t : State, s.RailsConsistent ∧ s.HeatConsistent ∧ step s = .next t ∧ s.HaltHolds ∧ s.StepConsistent :=
  ⟨running, _, running_rails, running_heat, running_next, running_halt, running_step⟩

theorem witness_StepKeepsTransmittersServing : ∃ s t : State, s.TransmittersServe ∧ step s = .next t :=
  ⟨running, _, running_transmitters, running_next⟩

theorem witness_StepKeepsQualificationEarned :
    ∃ s t : State, s.EngineConsistent ∧ step s = .next t ∧ s.RailsConsistent ∧ s.HeatConsistent ∧ s.QualifiedHold ∧
      (s.socket 0).qualified = true :=
  ⟨running, _, running_engine, running_next, running_rails, running_heat, running_qualified, rfl⟩

theorem witness_StepNumberMovesByPromotion : ∃ (c : Instr) (s t : State), exec c s = .next t :=
  ⟨.freqLaneRisingEdge 0, running, _, rfl⟩

theorem witness_CreditMovesAsEarned : ∃ (c : Instr) (s t : State), s.SocketsInRange ∧ exec c s = .next t :=
  ⟨.intervalExpiry, running, _, running_ranges, rfl⟩

theorem witness_ConfigurationMovesByItsWrites :
    ∃ (c : Instr) (s t : State), exec c s = .next t ∧ (∀ n : Fin 13, mayWrite n c = false) ∧ mayLoadLoop c = false ∧
      (∀ addr o d u, c ≠ .powerOnReset addr o d u) ∧ (∀ p, c ≠ .downPartnerChange p) ∧ ∀ p, c ≠ .upReceiverChange p :=
  ⟨.intervalExpiry, running, _, rfl, by decide, rfl, nofun, nofun, nofun⟩

theorem witness_RefusedCommandChangesNothing :
    ∃ (code : Byte) (args : List Byte) (s : State),
      (State.command code args s).status ≠ .ok ∧ (State.command code args s).status ≠ .clamped :=
  ⟨255, [], State.reset, by decide, by decide⟩

/-- The reset state with replies waiting. -/
def answered (k : Nat) : State :=
  { State.reset with
    link := { State.reset.link with
      replies := List.replicate k { dest := 0, tag := 1, code := 80, status := .ok, result := [] } } }

/-- The reset state with ADDR pins at 63. -/
def unaddressed : State := { State.reset with link := { State.reset.link with address := 63 } }

theorem witness_FramesCarryCommands :
    (∃ (c : Instr) (f : Frame) (s : State), c.wellFormed = true ∧ commandFrame s.link.srcByte c = some f ∧
      s.link.addressed = true) ∧
    (∃ (c : Instr) (f : Frame) (s : State), c.wellFormed = true ∧ commandFrame s.link.srcByte c = some f ∧
      s.link.addressed = true ∧ s.link.replies.length = 4) ∧
    ∃ (c : Instr) (f : Frame) (s : State), c.wellFormed = true ∧ commandFrame s.link.srcByte c = some f ∧
      s.link.addressed = false :=
  ⟨⟨.zoneClear 0 7 15, _, State.reset, rfl, rfl, rfl⟩, ⟨.zoneClear 0 7 15, _, answered 4, rfl, rfl, rfl, rfl⟩,
    ⟨.zoneClear 0 7 15, _, unaddressed, rfl, rfl, rfl⟩⟩

/-- A POLICY write of suspect_threshold 20, in row 3. -/
theorem policy_write : checkWrite 4 3 1 1 [0, 20] = .ok [(3, [(0, .num 20)])] := rfl

theorem witness_WrittenFieldsReadBack :
    (∃ (table first count : Byte) (mask : BitVec 64) (values : List Byte) (s : State), table ≠ 12 ∧
      (State.tableWrite table first count mask values s).status = .ok) ∧
    ∃ (first count : Byte) (mask : BitVec 64) (values : List Byte) (s : State),
      (State.tableWrite 12 first count mask values s).status = .ok :=
  ⟨⟨4, 3, 1, 1, [0, 20], State.reset, by decide, by decide⟩, 1, 1, 8, [0, 5, 5], State.reset, by decide⟩

/-! #### The link -/

/-- A frame for slot 5. -/
def passing : Frame := { dest := 5, src := 0, kind := 2, tag := 1, payload := [80] }

/-- The longest frame. -/
def longest : Frame := { dest := 0, src := 5, kind := 4, tag := 1, payload := List.replicate 1024 0 }

theorem witness_UpFrameForwards :
    parseFrame [0, 0] = none ∧
    (passing.payload.length ≤ 1024 ∧ passing.dest ≠ 63 ∧ passing.dest ≠ State.reset.link.srcByte) ∧
    (∃ s : State, s.link.address = 1 ∧ s.link.downPartner = false) ∧
    (∃ s : State, s.link.address = 1 ∧ s.link.downPartner = true ∧ s.link.downQueue = [] ∧ s.link.downSending = none) ∧
    (∃ s : State, s.link.address = 1 ∧ s.link.downPartner = true ∧ s.link.downQueue.length = 3 ∧ s.link.downSending ≠ none) ∧
    (∃ s : State, s.link.address = 1 ∧ s.link.downPartner = true ∧ s.link.downQueue.length = 4) ∧
    (({ passing with dest := 63 } : Frame).dest = 63 ∧ State.reset.link.addressed = true ∧ unaddressed.link.addressed = false) ∧
    (State.reset.link.srcByte = 1 ∧ (answered 3).link.replies.length = 3 ∧ (answered 4).link.replies.length = 4) ∧
    (([0, 7, 0] : List Byte).length < 4 ∧ (([0, 7, 0, 0] : List Byte).getD 3 0).toNat = 0 ∧
      (([0, 7, 0, 33] : List Byte).getD 3 0).toNat = 33 ∧ ([0, 7, 0, 1, 0] : List Byte).length ≠ 4 + 6 * 1) ∧
    ((255 : Byte) :: [] ≠ [] ∧ (255 : Byte).toNat ∉ [1, 2, 3, 16, 17, 18, 19, 20, 21, 32, 48, 49, 50, 51, 52, 64, 80, 90]) :=
  ⟨rfl, by decide, ⟨{ State.reset with link := { State.reset.link with downPartner := false } }, rfl, rfl⟩,
    ⟨State.reset, rfl, rfl, rfl, rfl⟩,
    ⟨{ State.reset with link := { State.reset.link with downQueue := [[], [], []], downSending := some [] } }, rfl, rfl, rfl, nofun⟩,
    ⟨{ State.reset with link := { State.reset.link with downQueue := [[], [], [], []] } }, rfl, rfl, rfl⟩,
    ⟨rfl, rfl, rfl⟩, ⟨rfl, rfl, rfl⟩, by decide, by decide⟩

/-- A VECTOR frame for slot 1 with block 7, one vector. -/
def blockFrame : Frame := { dest := 1, src := 0, kind := 1, tag := 0, payload := [0, 7, 0, 1, 0, 1, 2, 3, 4, 0] }

/-- Its block. -/
def block7 : Block :=
  { number := 7, restart := false, vectors := [{ vec := { drive := 1, expect := 2, mask := 3, reps := 4 }, check := false }] }

theorem witness_VectorBlockJoinsQueue :
    (parseBlock blockFrame.payload = some block7 ∧ blockFrame.payload.length ≤ 1024 ∧
      State.reset.link.addressed = true ∧ blockFrame.dest = State.reset.link.srcByte ∧ blockFrame.kind = 1) ∧
    (block7.restart = false ∧ (∃ e : Engine, e.expected ≠ none ∧ e.expected ≠ some block7.number) ∧
      ∃ e : Engine, e.expected = some block7.number) ∧
    (block7.vectors.all (·.passes .oddAll) = false ∧ block7.vectors.all (·.passes .none) = true) ∧
    (∃ q : List QueueEntry, q.length + block7.vectors.length = 512) ∧
    (∃ q : List QueueEntry, q.length + block7.vectors.length = 513) ∧
    ∃ s : State, s.engine.state = .starved ∧ s.step.cur.source = .streamLoop :=
  ⟨⟨by decide, by decide, rfl, rfl, rfl⟩,
    ⟨rfl, ⟨{ expected := some 6 }, by decide, by decide⟩, { expected := some 7 }, rfl⟩, by decide,
    ⟨List.replicate 511 { block := 0, index := 0, vec := {} }, by decide +kernel⟩,
    ⟨List.replicate 512 { block := 0, index := 0, vec := {} }, by decide +kernel⟩,
    ⟨playing { state := .starved } .streamLoop, rfl, rfl⟩⟩

theorem witness_DownFrameJoinsUpQueue :
    longest.payload.length ≤ 1024 ∧ (∃ s : State, s.link.upQueue.length = 7) ∧ (∃ s : State, s.link.upQueue.length = 8) ∧
      parseFrame [] = none :=
  ⟨by decide +kernel, ⟨{ State.reset with link := { State.reset.link with upQueue := List.replicate 7 [] } }, rfl⟩,
    ⟨{ State.reset with link := { State.reset.link with upQueue := List.replicate 8 [] } }, rfl⟩, rfl⟩

/-- A reply that waits. -/
def waitingReply : Reply := { dest := 0, tag := 1, code := 80, status := .ok, result := [] }

/-- The reset state with traffic waiting upstream. -/
def traffic (up : List (List Byte)) (replies : List Reply) (records : List Record) (served : Served) : State :=
  { State.reset with
    link := { State.reset.link with upQueue := up, replies, lastServed := served }
    reports := { queue := records, created := records.length } }

theorem witness_UpArbiterAlternates :
    (∃ s : State, s.link.upReceiver = true ∧ s.link.upQueue = [[1]] ∧ s.link.lastServed = .locals ∧ s.link.replies ≠ []) ∧
    (∃ s : State, s.link.upReceiver = true ∧ s.link.addressed = true ∧ s.link.upQueue = [[1]] ∧ s.link.lastServed = .forward ∧
      s.link.replies = [waitingReply]) ∧
    (∃ s : State, s.link.upReceiver = true ∧ s.link.addressed = true ∧ s.link.upQueue = [] ∧ s.link.replies = [] ∧
      s.reports.queue = [.pattern .gap none none]) ∧
    ∃ s : State, s.link.upReceiver = true ∧ s.link.upQueue = [] ∧
      ¬ (s.link.addressed = true ∧ (s.link.replies ≠ [] ∨ s.reports.queue ≠ [])) :=
  ⟨⟨traffic [[1]] [waitingReply] [] .locals, rfl, rfl, rfl, nofun⟩,
    ⟨traffic [[1]] [waitingReply] [] .forward, rfl, rfl, rfl, rfl, rfl⟩,
    ⟨traffic [] [] [.pattern .gap none none] .locals, rfl, rfl, rfl, rfl, rfl⟩,
    ⟨State.reset, rfl, rfl, by decide⟩⟩

theorem witness_PortEventsServe :
    (∃ (s : State) (g : List Byte) (rest : List (List Byte)), s.link.downQueue = g :: rest) ∧
      ∃ s : State, s.link.downQueue = [] :=
  ⟨⟨{ State.reset with link := { State.reset.link with downQueue := [[1]] } }, _, _, rfl⟩, State.reset, rfl⟩

/-! #### Tables -/

/-- A state with the link of reset executes a command. -/
theorem ready_of {s : State} (h : s.link = State.reset.link) : s.Ready :=
  And.intro (by rw [h]; rfl) (by rw [h]; decide)

/-- A checked write is accepted with the rows that evaluation gives. -/
theorem ok_of {x : Except Status (List (Nat × RowWrite))} {rows : List (Nat × RowWrite)}
    (h : (match x with
      | .ok r => decide (r = rows)
      | .error _ => false) = true) : x = .ok rows := by
  cases x with
  | error e => simp at h
  | ok r => simpa using h

theorem witness_PlainTableWriteTakes :
    State.reset.Ready ∧ checkWrite 4 3 1 1 [0, 20] = .ok [(3, [(0, .num 20)])] ∧
    (∃ rows, checkWrite 4 0 1 4 [8] = .ok rows ∧ (rows.lookup 0).isSome = true ∧
      ∀ p : Fin 4, ((rowWriteAt rows p.val).apply Policy.put (State.reset.policies.get p)).failM ≤
        ((rowWriteAt rows p.val).apply Policy.put (State.reset.policies.get p)).failN) ∧
    (∃ rows, checkWrite 4 0 1 8 [2] = .ok rows ∧ (rows.lookup 0).isSome = true ∧
      ((rowWriteAt rows 0).apply Policy.put (State.reset.policies.get 0)).failN <
        ((rowWriteAt rows 0).apply Policy.put (State.reset.policies.get 0)).failM) ∧
    (∃ rows, checkWrite 5 0 1 2 [64] = .ok rows) ∧ (∃ rows, checkWrite 6 0 1 2 [1, 244] = .ok rows) ∧
    (∃ rows, checkWrite 7 63 1 1 [6] = .ok rows) ∧ ∃ rows, checkWrite 9 15 1 2 [3] = .ok rows :=
  ⟨ready_of rfl, rfl, ⟨[(0, [(2, .num 8)])], rfl, rfl, by decide⟩, ⟨[(0, [(3, .num 2)])], rfl, rfl, by decide⟩,
    ⟨[(0, [(1, .num 64)])], rfl⟩, ⟨[(0, [(1, .num 500)])], rfl⟩, ⟨[(63, [(0, .num 6)])], rfl⟩, ⟨[(15, [(1, .num 3)])], rfl⟩⟩

theorem witness_SettingsWriteTakes :
    State.reset.Ready ∧ pulled.Ready ∧ pulled.halt.line = true ∧ State.reset.halt.line = false ∧
    (∃ w : RowWrite, checkWrite 1 0 1 1 [0] = .ok [(0, w)] ∧ w.selects 9 = false ∧ w.selects 10 = false) ∧
    (∃ w : RowWrite, checkWrite 1 0 1 1024 [1] = .ok [(0, w)] ∧ w.selects 9 = false ∧ w.selects 10 = true) ∧
    (∃ w : RowWrite, checkWrite 1 0 1 512 [0] = .ok [(0, w)] ∧ w.selects 9 = true ∧ w.selects 10 = false ∧
      (w.apply Settings.put State.reset.settings).haltIn = false) ∧
    ∃ w : RowWrite, checkWrite 1 0 1 512 [1] = .ok [(0, w)] ∧ w.selects 9 = true ∧ w.selects 10 = false ∧
      (w.apply Settings.put pulled.settings).haltIn = true :=
  ⟨ready_of rfl, ready_of rfl, rfl, rfl, ⟨[(0, .num 0)], rfl, rfl, rfl⟩, ⟨[(10, .num 1)], rfl, rfl, rfl⟩,
    ⟨[(9, .num 0)], rfl, rfl, rfl, rfl⟩, ⟨[(9, .num 1)], rfl, rfl, rfl, rfl⟩⟩

/-- The reset state with zone 0 replaced. -/
def withZone (v : Zone) : State := { State.reset with zones := Table.ofFn fun z => if z = 0 then v else {} }

theorem witness_SocketWriteTakes :
    (∃ rows : List (Nat × RowWrite), checkWrite 2 0 1 4 [3] = .ok rows ∧ (rowWriteAt rows 0).selects 2 = true) ∧
    (withSocket { populated := true, state := .ready, switch := true }).Ready ∧
    ((withSocket { populated := true, state := .ready, switch := true }).socket 0).switch = true ∧
    (∃ rows : List (Nat × RowWrite), checkWrite 2 31 1 1 [1] = .ok rows) ∧ State.reset.Ready ∧
    ∀ i : SocketId, (State.reset.socket i).switch = false ∧ (State.reset.socket i).state.armed = false ∧
      (State.reset.zone (State.reset.socket i).zone).rail.state ≠ .searching ∧
      ∀ z : ZoneId, (State.reset.zone z).rail.state ≠ .searching :=
  ⟨⟨[(0, [(2, .num 3)])], rfl, rfl⟩, ready_of rfl, rfl, ⟨[(31, [(0, .num 1)])], rfl⟩, ready_of rfl, by decide⟩

theorem witness_ZoneWriteTakes :
    (∃ rows : List (Nat × RowWrite), checkWrite 3 0 1 2 [0x0F, 0xA0] = .ok rows ∧ (rows.lookup 0).isSome = true ∧
      ((rowWriteAt rows 0).apply ZoneCfg.put (State.reset.zone 0).cfg).fullScaleMv <
        ((rowWriteAt rows 0).apply ZoneCfg.put (State.reset.zone 0).cfg).maxMv) ∧
    (∃ rows : List (Nat × RowWrite), checkWrite 3 0 1 2 [0x0C, 0xE4] = .ok rows ∧
      (∀ z : ZoneId, (rows.lookup z.val).isSome = true →
        ((rowWriteAt rows z.val).apply ZoneCfg.put (State.reset.zone z).cfg).maxMv ≤
          ((rowWriteAt rows z.val).apply ZoneCfg.put (State.reset.zone z).cfg).fullScaleMv ∧
        ((rowWriteAt rows z.val).apply ZoneCfg.put (State.reset.zone z).cfg).limitMa ≤
          ((rowWriteAt rows z.val).apply ZoneCfg.put (State.reset.zone z).cfg).tripMa) ∧
      (rows.lookup 0).isSome = true) ∧
    ((withZone { rail := { state := .searching } }).zone 0).rail.state = .searching ∧
    (withZone { rail := { state := .searching } }).Ready ∧ State.reset.Ready ∧ State.reset.step.state ≠ .stopping ∧
    (∀ z : ZoneId, (State.reset.zone z).rail.state ≠ .searching) ∧
    ∃ rows : List (Nat × RowWrite), checkWrite 3 3 1 4 [0, 1] = .ok rows ∧
      ∀ z : ZoneId, (rowWriteAt rows z.val).selects 1 = false ∧ (rowWriteAt rows z.val).selects 9 = false ∧
        (rowWriteAt rows z.val).selects 12 = false :=
  ⟨⟨[(0, [(1, .num 4000)])], rfl, rfl, by decide⟩, ⟨[(0, [(1, .num 3300)])], rfl, by decide, rfl⟩, rfl, ready_of rfl,
    ready_of rfl, nofun, by decide, ⟨[(3, [(2, .num 1)])], rfl, by decide⟩⟩

theorem witness_OrderWriteTakes :
    State.reset.Ready ∧ (∃ w : RowWrite, checkWrite 10 0 1 1 [4, 3, 0, 1, 2] = .ok [(0, w)]) ∧
      ∀ z : ZoneId, (State.reset.zone z).rail.waiting = .none :=
  ⟨ready_of rfl, ⟨[(0, .list [3, 0, 1, 2])], rfl⟩, by decide⟩

theorem witness_StageWriteTakes :
    State.reset.Ready ∧ ∃ w : RowWrite, checkWrite 12 1 1 0x98 [1, 3, 232, 0, 0, 0, 1, 1, 44] = .ok [(1, w)] ∧
      (∃ mv, w.lookup 3 = some (.opt (some mv)) ∧ ((State.reset.zone 0).cfg.maxMv : Int) < mv) ∧
      w.lookup 4 = some (.opt none) ∧
      ∃ t, w.lookup 7 = some (.opt (some t)) ∧ max (-80) ((State.reset.zone 0).cfg.hardLimit - (State.reset.zone 0).cfg.band) < t :=
  ⟨ready_of rfl, [(3, .opt (some 1000)), (4, .opt none), (7, .opt (some 300))], ok_of (by decide +kernel), ⟨1000, rfl, by decide⟩, rfl, 300, rfl,
    by decide⟩

theorem witness_SenseWriteTakes :
    (∃ rows : List (Nat × RowWrite), checkWrite 8 0 1 1 [4] = .ok rows ∧ (rows.lookup 0).isSome = true ∧
      ((rowWriteAt rows 0).apply SenseRow.put (State.reset.lane 0).row).mode = .freq) ∧
    (∃ rows : List (Nat × RowWrite), checkWrite 8 63 1 1 [4] = .ok rows ∧
      ∀ n : LaneId, (rows.lookup n.val).isSome = true → n.val % 2 = 0 →
        ((rowWriteAt rows n.val).apply SenseRow.put (State.reset.lane n).row).mode ≠ .freq) ∧
    ∃ (rows : List (Nat × RowWrite)) (s : State), checkWrite 8 0 2 1 [1, 1] = .ok rows ∧ s.Ready ∧
      (rowWriteAt rows 0).selects 0 = true ∧ (rowWriteAt rows 1).selects 0 = true ∧ (s.socket 0).state.armed = true ∧
      (s.lane 0).watch.stuck = true ∧
      ∀ n : LaneId, (rows.lookup n.val).isSome = true → n.val % 2 = 0 →
        ((rowWriteAt rows n.val).apply SenseRow.put (s.lane n).row).mode ≠ .freq :=
  ⟨⟨[(0, [(0, .num 4)])], rfl, rfl, rfl⟩, ⟨[(63, [(0, .num 4)])], rfl, by decide⟩,
    [(0, [(0, .num 1)]), (1, [(0, .num 1)])],
    withSocket { state := .suspect, reasons := { stuck := true } } { row := { mode := .toggle }, watch := { stuck := true } },
    rfl, ready_of rfl, rfl, rfl, rfl, rfl, by decide⟩

theorem witness_TableReadReturnsFields :
    State.reset.Ready ∧
    (((List.range 1).flatMap fun r => State.reset.readRow 12 (1 + r) (selectedFields 12 0x1FFFF)).length ≤ 1022 ∧
      (0x1FFFF : BitVec 64).toNat < 2 ^ (tableFields 12).length) ∧
    1022 < ((List.range 32).flatMap fun r => State.reset.readRow 2 (0 + r) (selectedFields 2 0x3FFFF)).length ∧
      (0x3FFFF : BitVec 64).toNat < 2 ^ (tableFields 2).length :=
  ⟨ready_of rfl, by decide +kernel, by decide +kernel, by decide +kernel⟩

theorem witness_StatusReadReturns53Bytes : State.reset.Ready := ready_of rfl

/-- The reset state with another engine. -/
def withEngine (e : Engine) : State := { State.reset with engine := e }

theorem witness_LoopLoadWritesStore :
    State.reset.Ready ∧ (withEngine { state := .looping }).Ready ∧ (withEngine { state := .looping }).engine.state = .looping ∧
    ([] : List Byte).length ≠ 6 * (33 : Byte).toNat ∧
    (∃ vs : List SentVector, parseVectors [0, 1, 2, 3, 1, 0] = some vs ∧ vs.length = (1 : Byte).toNat ∧
      vs.all (·.passes .none) = true ∧ vs.all (·.passes .oddAll) = false ∧ 256 = (255 : Byte).toNat + (1 : Byte).toNat) ∧
    (∃ vs : List SentVector, parseVectors [0, 1, 2, 3, 1, 0, 0, 1, 2, 3, 1, 0] = some vs ∧ vs.length = (2 : Byte).toNat ∧
      256 < (255 : Byte).toNat + (2 : Byte).toNat) ∧
    State.reset.engine.state ≠ .looping ∧ State.reset.engine.state ≠ .starved ∧
    ({ State.reset with settings := { vectorCheck := .oddAll } } : State).Ready :=
  ⟨ready_of rfl, ready_of rfl, rfl, by decide, ⟨[{ vec := { drive := 1, expect := 2, mask := 3, reps := 1 }, check := false }],
    rfl, rfl, rfl, by decide, rfl⟩,
    ⟨[{ vec := { drive := 1, expect := 2, mask := 3, reps := 1 }, check := false },
      { vec := { drive := 1, expect := 2, mask := 3, reps := 1 }, check := false }], rfl, rfl, by decide⟩,
    nofun, nofun, ready_of rfl⟩

/-! #### Step control -/

/-- The reset state with another step control. -/
def withStep (c : StepCtl) : State := { State.reset with step := c }

/-- Zones as after reset hang together. -/
theorem rails_of {s : State} (h : s.zones = State.reset.zones) : s.RailsConsistent := by
  intro z
  have : s.zone z = State.reset.zone z := by unfold State.zone; rw [h]
  rw [this]; clear this; revert z; unfold Zone.RailConsistent; simp only [eq_iff_iff]; decide

theorem no_window_of {s : State} (h : s.lanes = State.reset.lanes) : s.NoWindowDue := by
  intro n
  have : s.lane n = State.reset.lane n := by unfold State.lane; rw [h]
  rw [this]; clear this; revert n; decide

theorem heat_of {s : State} (h : s.zones = State.reset.zones) : s.HeatConsistent := by
  intro z
  have : s.zone z = State.reset.zone z := by unfold State.zone; rw [h]
  rw [this]; clear this; revert z; unfold Heat.Consistent; decide

theorem witness_StageSettlesAndUnsettles :
    (∃ s : State, s.Ready ∧ s.step.stagedState = .empty) ∧
    (∃ s : State, s.Ready ∧ s.step.stagedState = .opened ∧ s.step.state ≠ .holding) ∧
    (∃ s : State, s.Ready ∧ s.step.stagedState = .opened ∧ s.step.state = .holding ∧ s.step.cur.advance = true ∧
      s.step.cur.number = 4294967295) ∧
    ∃ s : State, s.Ready ∧ s.step.stagedState = .settled :=
  ⟨⟨State.reset, ready_of rfl, rfl⟩, ⟨withStep { stagedState := .opened }, ready_of rfl, rfl, nofun⟩,
    ⟨withStep { state := .holding, stagedState := .opened, cur := { advance := true, number := 4294967295 } }, ready_of rfl,
      rfl, rfl, rfl, rfl⟩,
    ⟨withStep { stagedState := .settled }, ready_of rfl, rfl⟩⟩

/-- A zone held at 1000 mV without heat. -/
def coldZone : Zone := { cfg := { maxMv := 1000 }, rail := { state := .hold, setpoint := 1000, goal := some 1000 } }

/-- One zone OFF, two held and one TRIPPED. -/
def fourZones : Table 4 Zone :=
  Table.ofFn fun z =>
    if z = 0 then { cfg := { maxMv := 1000 } }
    else if z = 3 then { cfg := { maxMv := 1000 }, rail := { state := .tripped, tripCause := some .undervolt } }
    else coldZone

/-- A SETTLED staged step for them, with an engine and an ORDER list. -/
def promoting (e : Engine) (order : List ZoneId) : State :=
  { State.reset with
    zones := fourZones
    order
    engine := e
    step :=
      { state := .holding
        stagedState := .settled
        staged := { railTarget := Table.ofFn fun z => if z = 1 then some none else some (some 900) } } }

theorem promoting_rails {e : Engine} {order : List ZoneId} : (promoting e order).RailsConsistent :=
  have h : ∀ z : ZoneId, (fourZones.get z).RailConsistent := by
    unfold Zone.RailConsistent; simp only [eq_iff_iff]; decide
  h

theorem promoting_heat {e : Engine} {order : List ZoneId} : (promoting e order).HeatConsistent :=
  have h : ∀ z : ZoneId, (fourZones.get z).heat.Consistent := by unfold Heat.Consistent; decide
  h

theorem promoting_cool {e : Engine} {order : List ZoneId} (z : ZoneId) (t : Int)
    (ht : ((promoting e order).zone z).values.temperature = some t) : t < ((promoting e order).zone z).cfg.hardLimit := by
  have h : ∀ z : ZoneId, (fourZones.get z).values.temperature = none := by decide
  exact absurd ((h z).symm.trans ht) nofun

theorem promoting_calm {e : Engine} {order : List ZoneId} :
    ∀ z : ZoneId, ((promoting e order).zone z).rail.waiting = .none ∧ ((promoting e order).zone z).cfg.maxMv = 1000 :=
  have h : ∀ z : ZoneId, (fourZones.get z).rail.waiting = .none ∧ (fourZones.get z).cfg.maxMv = 1000 := by decide
  h

theorem witness_PromotionMakesStagedCurrent :
    (∃ s : State, s.Ready ∧ s.RailsConsistent ∧ s.HeatConsistent ∧ s.step.cur.number = 4294967294 ∧
      s.step.stagedState = .settled ∧ s.step.state = .idle ∧ s.settings.step = true ∧ s.reports.queue.length < 64) ∧
    (∀ (e : Engine) (order : List ZoneId), ∃ s : State, s.Ready ∧ s.RailsConsistent ∧ s.HeatConsistent ∧
      s.step.cur.number < 4294967295 ∧ s.step.stagedState = .settled ∧ s.step.state = .holding ∧ s.engine = e ∧
      s.order = order ∧ (∀ (z : ZoneId) (t : Int), (s.zone z).values.temperature = some t → t < (s.zone z).cfg.hardLimit) ∧
      (s.zone 0).rail.state = .off ∧ (s.zone 0).rail.goal = none ∧ s.step.staged.railTarget.get 0 = some (some 900) ∧
      (s.zone 1).rail.state = .hold ∧ (s.zone 1).rail.goal = some 1000 ∧ s.step.staged.railTarget.get 1 = some none ∧
      (s.zone 2).rail.state = .hold ∧ (s.zone 2).rail.goal = some 1000 ∧ s.step.staged.railTarget.get 2 = some (some 900) ∧
      (s.zone 3).rail.state = .tripped ∧ (s.zone 3).rail.goal = none ∧ s.step.staged.railTarget.get 3 = some (some 900) ∧
      ∀ z : ZoneId, (s.zone z).rail.waiting = .none ∧ (s.zone z).cfg.maxMv = 1000) ∧
    ((promoting {} [3, 0]).ordersBefore 0 = [3] ∧ (promoting {} [1, 2]).ordersAfter 1 = [2]) ∧
    (∀ st : EngineState, ∃ s : State, s.Ready ∧ s.RailsConsistent ∧ s.HeatConsistent ∧ s.step.cur.number < 4294967295 ∧
      s.step.stagedState ≠ .empty ∧ s.step.state = .holding ∧ s.step.cur.advance = true ∧ s.engine.state = st ∧
      s.step.staged.source.getD s.step.cur.source ≠ .none ∧ s.NoWindowDue) ∧
    ∃ s : State, s.Ready ∧ s.RailsConsistent ∧ s.HeatConsistent ∧ s.step.cur.number < 4294967295 ∧
      s.step.stagedState = .settled ∧ s.step.state = .idle ∧ s.engine.state = .stopped ∧
      s.step.staged.source.getD s.step.cur.source ≠ .none ∧ s.NoWindowDue :=
  ⟨⟨withStep { stagedState := .settled, cur := { number := 4294967294 } }, ready_of rfl, rails_of rfl, heat_of rfl, rfl, rfl,
      rfl, rfl, by decide⟩,
    fun e order => ⟨promoting e order, ready_of rfl, promoting_rails, promoting_heat, by simp [promoting], rfl, rfl, rfl, rfl,
      promoting_cool, rfl, rfl, rfl, rfl, rfl, rfl, rfl, rfl, rfl, rfl, rfl, rfl, promoting_calm⟩,
    ⟨by decide, by decide⟩,
    fun st => ⟨{ withStep { state := .holding, stagedState := .opened, cur := { advance := true, source := .loop } } with
        engine := { state := st } },
      ready_of rfl, rails_of rfl, heat_of rfl, by simp [withStep], nofun, rfl, rfl, rfl, nofun, no_window_of rfl⟩,
    ⟨withStep { stagedState := .settled, staged := { source := some .stream } }, ready_of rfl, rails_of rfl, heat_of rfl,
      by decide, rfl, rfl, rfl, nofun, no_window_of rfl⟩⟩

theorem witness_StepStopTakesTargetsAway :
    ∀ st : StepState, ∃ s : State, s.Ready ∧ s.RailsConsistent ∧ s.HeatConsistent ∧ s.step.state = st ∧
      s.settings.step = true ∧ s.reports.queue.length < 64 :=
  fun st => ⟨withStep { state := st, stagedState := .settled }, ready_of rfl, rails_of rfl, heat_of rfl, rfl, rfl, by
    simp [withStep, State.reset]⟩

theorem witness_StepAbortHalts :
    ∀ st : StepState, ∃ s : State, s.Ready ∧ s.RailsConsistent ∧ s.step.state = st ∧ s.settings.step = true ∧
      s.reports.queue.length < 64 :=
  fun st => ⟨withStep { state := st, stagedState := .settled }, ready_of rfl, rails_of rfl, rfl, rfl, by
    simp [withStep, State.reset]⟩

/-- HALTED, every rail TRIPPED, zone 0 for OVERCURRENT and a HALT source. -/
def haltedSlot (others : Bool) : State :=
  { State.reset with
    step := { state := .halted }
    halt := { own := true, others }
    zones := Table.ofFn fun z =>
      if z = 0 then { rail := { state := .tripped, tripCause := some .overcurrent, haltSource := true } }
      else { rail := { state := .tripped, tripCause := some .halt } } }

theorem halted_rails (b : Bool) : (haltedSlot b).RailsConsistent := by
  unfold State.RailsConsistent Zone.RailConsistent; simp only [eq_iff_iff]; cases b <;> decide

theorem halted_heat (b : Bool) : (haltedSlot b).HeatConsistent := by
  unfold State.HeatConsistent Heat.Consistent; cases b <;> decide

theorem witness_StepClearEndsHalted :
    (∃ s : State, s.Ready ∧ s.RailsConsistent ∧ s.HeatConsistent ∧ s.step.state ≠ .halted) ∧
    ((haltedSlot true).Ready ∧ (haltedSlot true).RailsConsistent ∧ (haltedSlot true).HeatConsistent ∧
      (haltedSlot true).step.state = .halted ∧ (haltedSlot true).halt.others = true ∧
      (haltedSlot true).settings.haltIn = true) ∧
    ((haltedSlot false).Ready ∧ (haltedSlot false).RailsConsistent ∧ (haltedSlot false).HeatConsistent ∧
      (haltedSlot false).step.state = .halted ∧ (haltedSlot false).halt.others = false ∧
      (∀ z : ZoneId, ((haltedSlot false).zone z).heat.state ≠ .overtemp) ∧
      ∀ z : ZoneId, ((haltedSlot false).zone z).rail.state = .tripped) :=
  ⟨⟨State.reset, ready_of rfl, rails_of rfl, heat_of rfl, nofun⟩,
    ⟨ready_of rfl, halted_rails _, halted_heat _, rfl, rfl, rfl⟩,
    ⟨ready_of rfl, halted_rails _, halted_heat _, rfl, rfl, by decide, by decide⟩⟩

theorem witness_HaltLineHalts :
    (∃ s : State, s.halt.line = false ∧ s.settings.haltIn = true ∧ s.RailsConsistent ∧ s.step.state ≠ .halted) ∧
    (∃ s : State, s.settings.haltIn = false) ∧ (∃ s : State, s.halt.line = true ∧ s.halt.edge = false) ∧
    ∃ s : State, s.halt.edge = true ∧ s.settings.haltIn = true :=
  ⟨⟨State.reset, rfl, rfl, rails_of rfl, nofun⟩, ⟨{ State.reset with settings := { haltIn := false } }, rfl⟩,
    ⟨pulled, rfl, rfl⟩, ⟨{ State.reset with halt := { own := true, edge := true } }, rfl, rfl⟩⟩

theorem witness_ZoneClearClearsTrips :
    16 ≤ (16 : Byte).toNat ∧ (15 : Byte).toNat < 16 ∧
    (∃ s : State, s.Ready ∧ s.RailsConsistent ∧ s.step.state = .halted) ∧
    (∃ s : State, s.Ready ∧ s.RailsConsistent ∧ s.step.state ≠ .halted ∧ (s.zone 3).rail.state ≠ .tripped) ∧
    ∃ s : State, s.Ready ∧ s.RailsConsistent ∧ s.step.state ≠ .halted ∧
      ∀ z : ZoneId, (s.zone z).rail.state = .tripped ∧ (s.zone z).heat.state ≠ .overtemp :=
  ⟨by decide, by decide, ⟨haltedSlot true, ready_of rfl, halted_rails _, rfl⟩,
    ⟨State.reset, ready_of rfl, rails_of rfl, nofun, nofun⟩,
    ⟨{ haltedSlot false with step := {} }, ready_of rfl, halted_rails false, nofun, by decide⟩⟩

/-! #### Sockets, verdicts and credit -/

theorem witness_ArmStartsBurnIn :
    (∃ s : State, s.Ready ∧ (s.socket 0).state = .vacant) ∧
    (∃ s : State, s.Ready ∧ (s.socket 0).state ≠ .vacant ∧ (s.socket 0).state.armed = true) ∧
    (∃ s : State, s.Ready ∧ (s.socket 0).state ≠ .vacant ∧ (s.socket 0).state.armed = false ∧ (s.socket 0).target ≠ 0 ∧
      (s.socket 0).target * 256 ≤ (s.socket 0).credit ∧ (s.policyOf 0).stopOnComplete = false) ∧
    ∃ s : State, s.Ready ∧ (s.socket 0).state = .complete ∧ (s.socket 0).target ≠ 0 ∧
      (s.socket 0).target * 256 ≤ (s.socket 0).credit ∧ (s.policyOf 0).stopOnComplete = true ∧ (s.socket 0).hold = none :=
  ⟨⟨State.reset, ready_of rfl, rfl⟩, ⟨withSocket { state := .running }, ready_of rfl, nofun, rfl⟩,
    ⟨withSocket { state := .ready, target := 1, credit := 256 }, ready_of rfl, nofun, rfl, nofun, by decide, rfl⟩,
    ⟨{ withSocket { state := .complete, target := 1, credit := 256 } with policies := Table.fill { stopOnComplete := true } },
      ready_of rfl, rfl, nofun, by decide, rfl, rfl⟩⟩

theorem witness_ReleaseEndsBurnIn :
    (∃ s : State, s.Ready ∧ (s.socket 0).state = .vacant) ∧
    ∃ s : State, s.Ready ∧ (s.socket 0).state = .failed ∧ (s.socket 0).hold = some .fail :=
  ⟨⟨State.reset, ready_of rfl, rfl⟩, ⟨withSocket { state := .failed, hold := some .fail }, ready_of rfl, rfl, rfl⟩⟩

theorem witness_HoldAndRestoreMoveHolds :
    (∃ s : State, s.Ready ∧ (s.socket 0).hold = none ∧ (0xFFFFFFFE : BitVec 32).getLsbD (0 : SocketId).val = false) ∧
    ∃ s : State, s.Ready ∧ (s.socket 0).hold = some .runaway ∧ (1 : BitVec 32).getLsbD (0 : SocketId).val = true :=
  ⟨⟨State.reset, ready_of rfl, rfl, by decide⟩,
    ⟨withSocket { populated := true, state := .failed, hold := some .runaway }, ready_of rfl, rfl, by decide⟩⟩

theorem witness_FailForcesVerdict :
    (∃ s : State, s.Ready ∧ (s.socket 0).state.armed = false) ∧ ∃ s : State, s.Ready ∧ (s.socket 0).state.armed = true :=
  ⟨⟨State.reset, ready_of rfl, rfl⟩, ⟨withSocket { state := .suspect }, ready_of rfl, rfl⟩⟩

theorem witness_SnapshotTransfersScores :
    (∃ s : State, s.Ready ∧ s.settings.reportMode = .auto) ∧
    (∃ s : State, s.Ready ∧ s.settings.reportMode = .manual ∧ (s.socket 0).state.armed = false) ∧
    (∃ s : State, s.Ready ∧ s.settings.reportMode = .manual ∧ (s.socket 0).state.armed = true ∧
      (s.policyOf 0).failM ≤ ((s.socket 0).history ++ [(s.socket 0).running]).countP fun x =>
        decide ((s.policyOf 0).failThreshold ≤ x)) ∧
    ∃ s : State, s.Ready ∧ s.settings.reportMode = .manual ∧ (s.socket 0).state.armed = true ∧
      (s.socket 0).history = [] ∧ (s.socket 0).running = 1 ∧ (s.policyOf 0).failM = 3 :=
  let manual (k : Socket) : State := { withSocket k with settings := { reportMode := .manual } }
  ⟨⟨State.reset, ready_of rfl, rfl⟩, ⟨manual {}, ready_of rfl, rfl, rfl⟩,
    ⟨manual { state := .running, history := [100, 100], running := 100 }, ready_of rfl, rfl, rfl, by decide⟩,
    ⟨manual { state := .running, running := 1 }, ready_of rfl, rfl, rfl, rfl, rfl, rfl⟩⟩

theorem witness_IntervalExpiryAccrues :
    (∀ mode : ReportMode, ∃ s : State, s.settings.reportMode = mode ∧ (s.socket 0).state.armed = true ∧
      (s.policyOf 0).failM = 3 ∧ (s.policyOf 0).failThreshold = 100 ∧ (s.socket 0).running = 65535 ∧
      (s.socket 0).history = List.replicate 8 1 ∧
      ((s.socket 0).qualified && s.meetsConditions 0 &&
        ((s.socket 0).estimate.or (s.zone (s.socket 0).zone).values.temperature).isSome) = true ∧
      (s.zone (s.socket 0).zone).values.voltage = some 1000 ∧
      (s.socket 0).estimate.or (s.zone (s.socket 0).zone).values.temperature = some 250) ∧
    (∃ s : State, s.settings.reportMode = .auto ∧ (s.socket 0).state.armed = true ∧ (s.socket 0).qualified = false ∧
      (s.policyOf 0).failM ≤ ((s.socket 0).history ++ [(s.socket 0).running]).countP fun x =>
        decide ((s.policyOf 0).failThreshold ≤ x)) ∧
    (∃ s : State, s.step.state ≠ .running) ∧
    (∀ advance : Bool, ∃ s : State, s.step.state = .running ∧ s.step.cur.endKind = .time ∧
      s.step.cur.duration = min 4000000 (s.step.elapsed + 1) ∧ s.step.cur.advance = advance ∧ s.step.stagedState = .settled ∧
      s.step.cur.number < 4294967295 ∧ s.settings.step = true ∧ s.engine.state = .stopped ∧
      s.step.staged.source.getD s.step.cur.source ≠ .none) ∧
    (∃ s : State, s.step.state = .running ∧ s.step.cur.endKind = .credit) ∧
    ∃ s : State, s.step.state = .running ∧ s.step.cur.endKind = .host :=
  ⟨fun mode => ⟨{ running with settings := { reportMode := mode } }, rfl, rfl, rfl, rfl, rfl, rfl, by cases mode <;> decide, rfl,
      rfl⟩,
    ⟨withSocket { state := .running, history := [100, 100], running := 100 }, rfl, rfl, rfl, by decide⟩,
    ⟨State.reset, nofun⟩,
    fun advance => ⟨withStep
      { state := .running, elapsed := 2, stagedState := .settled, staged := { source := some .loop }
        cur := { endKind := .time, duration := 3, advance } },
      rfl, rfl, rfl, rfl, rfl, by simp [withStep], rfl, rfl, nofun⟩,
    ⟨withStep { state := .running, cur := { endKind := .credit } }, rfl, rfl⟩,
    ⟨withStep { state := .running }, rfl, rfl⟩⟩

theorem witness_RunResetRestartsBlocks :
    (running.Ready ∧ (running.halt.others && running.settings.haltIn) = false) ∧
      pulled.Ready ∧ (pulled.halt.others && pulled.settings.haltIn) = true :=
  ⟨⟨And.intro rfl (by decide), rfl⟩, ready_of rfl, rfl⟩

/-! #### Samples, rails and search -/

/-- Channel 0 with a quantity. -/
def withChannel (q : ChannelQuantity) : State :=
  { State.reset with channels := State.reset.channels.upd 0 fun c => { c with quantity := q } }

theorem witness_SampleIsConvertedAndStored :
    sampleParityOdd 0 = false ∧ sampleParityOdd 1 = true ∧
    (∀ q : ChannelQuantity, ((withChannel q).channels.get 0).quantity = q) ∧
    (State.reset.zone 0).rail.state = .off ∧ (State.reset.zone 0).heat.state = .off :=
  ⟨by decide, by decide, fun _ => rfl, rfl, rfl⟩

/-- A zone in CONFIRMING at 1000 mV. -/
def confirmingZone : Zone :=
  { rail := { state := .confirming, setpoint := 1000, goal := some 1000, confirmTimer := true, side := some .low } }

theorem confirming_rail : confirmingZone.RailConsistent := by
  unfold Zone.RailConsistent; simp only [eq_iff_iff]; decide

theorem held_rail : heldZone.RailConsistent := by
  unfold Zone.RailConsistent; simp only [eq_iff_iff]; decide

theorem witness_VoltageSampleRegulates :
    (∃ s : State, (s.zone 0).RailConsistent ∧ (s.zone 0).rail.state = .confirming ∧
      ¬ (950 + (s.zone 0).cfg.windowMv < (s.zone 0).rail.setpoint) ∧ 949 + (s.zone 0).cfg.windowMv < (s.zone 0).rail.setpoint ∧
      (s.zone 0).rail.setpoint + (s.zone 0).cfg.windowMv < 1051) ∧
    (∃ s : State, (s.zone 0).RailConsistent ∧ (s.zone 0).rail.state = .hold ∧
      949 + (s.zone 0).cfg.windowMv < (s.zone 0).rail.setpoint ∧ (s.zone 0).rail.oowCount + 1 < (s.zone 0).cfg.regCount) ∧
    (∃ s : State, (s.zone 0).RailConsistent ∧ (s.zone 0).rail.state = .hold ∧
      949 + (s.zone 0).cfg.windowMv < (s.zone 0).rail.setpoint ∧ (s.zone 0).cfg.regCount ≤ (s.zone 0).rail.oowCount + 1) ∧
    ∃ s : State, (s.zone 0).RailConsistent ∧ (s.zone 0).rail.state = .off :=
  ⟨⟨withZone confirmingZone, confirming_rail, rfl, by decide, by decide, by decide⟩,
    ⟨withZone heldZone, held_rail, rfl, by decide, by decide⟩,
    ⟨withZone { heldZone with cfg := { regCount := 1 } }, held_rail, rfl, by decide, by decide⟩,
    ⟨State.reset, rails_of rfl 0, rfl⟩⟩

theorem witness_StaleExpiryLosesValue :
    (∃ s : State, (s.zone 0).values.timer .voltage = false) ∧
    (∃ s : State, (s.zone 0).values.timer .current = true ∧ (s.zone 0).rail.state.powered = true) ∧
    (∃ s : State, (s.zone 0).values.timer .voltage = true ∧ (s.zone 0).rail.state.powered = false ∧
      (s.zone 0).values.timer .temperature = true ∧ (s.zone 0).heat.state = .off) ∧
    ∃ s : State, (s.zone 0).values.timer .temperature = true ∧ (s.zone 0).heat.state.lawful = true :=
  ⟨⟨State.reset, rfl⟩, ⟨withZone heldZone, rfl, rfl⟩,
    ⟨withZone { values := { voltageTimer := true, temperatureTimer := true } }, rfl, rfl, rfl, rfl⟩, ⟨withZone heldZone, rfl, rfl⟩⟩

/-- A zone ramping from a setpoint to a goal, ten millivolts a step. -/
def rampingZone (setpoint : Nat) (goal : Option Nat) : Zone := { rail := { state := .ramping, setpoint, goal, rampTimer := true } }

theorem witness_RampStepMovesSetpoint :
    (∃ s : State, (s.zone 0).rail.state ≠ .ramping) ∧
    (∃ s : State, (s.zone 0).rail.state = .ramping ∧ (s.zone 0).rail.rampTimer = true ∧ (s.zone 0).rail.goal = some 1000 ∧
      (s.zone 0).rail.setpoint + (s.zone 0).cfg.rampRate = 999) ∧
    (∃ s : State, (s.zone 0).rail.state = .ramping ∧ (s.zone 0).rail.rampTimer = true ∧ (s.zone 0).rail.goal = some 1000 ∧
      (s.zone 0).rail.setpoint + (s.zone 0).cfg.rampRate = 1000) ∧
    ∃ s : State, (s.zone 0).rail.state = .ramping ∧ (s.zone 0).rail.rampTimer = true ∧ (s.zone 0).rail.goal = none ∧
      (s.zone 0).rail.setpoint = (s.zone 0).cfg.rampRate :=
  ⟨⟨State.reset, nofun⟩, ⟨withZone (rampingZone 989 (some 1000)), rfl, rfl, rfl, rfl⟩,
    ⟨withZone (rampingZone 990 (some 1000)), rfl, rfl, rfl, rfl⟩, ⟨withZone (rampingZone 10 none), rfl, rfl, rfl, rfl⟩⟩

theorem witness_StateTimersExpire :
    (∃ s : State, (s.zone 0).rail.state ≠ .confirming ∧ (s.zone 0).search.phase ≠ .settling ∧ (s.zone 0).heat.state ≠ .soaking ∧
      (s.zone 0).heat.state ≠ .excursion) ∧
    (∃ s : State, (s.zone 0).rail.state = .confirming ∧ (s.zone 0).rail.confirmTimer = true ∧ (s.zone 0).search = {}) ∧
    (∃ s : State, (s.zone 0).search.phase = .settling ∧ (s.zone 0).search.settleTimer = true) ∧
    (∃ s : State, (s.zone 0).heat.state = .soaking ∧ (s.zone 0).heat.soak.isSome = true) ∧
    (∃ s : State, (s.zone 0).heat.state = .excursion ∧ (s.zone 0).heat.grace.isSome = true ∧ (s.zone 0).heat.side = some .low) ∧
    ∃ s : State, (s.zone 0).heat.state = .excursion ∧ (s.zone 0).heat.grace.isSome = true ∧ (s.zone 0).heat.side = some .high :=
  ⟨⟨State.reset, nofun, nofun, nofun, nofun⟩, ⟨withZone confirmingZone, rfl, rfl, rfl⟩,
    ⟨withZone { search := { phase := .settling, settleTimer := true } }, rfl, rfl⟩,
    ⟨withZone { heat := { state := .soaking, soak := some 300 } }, rfl, rfl⟩,
    ⟨withZone { heat := { state := .excursion, grace := some 10, side := some .low } }, rfl, rfl, rfl⟩,
    ⟨withZone { heat := { state := .excursion, grace := some 10, side := some .high } }, rfl, rfl, rfl⟩⟩

/-- A zone that measures socket 0 against 10000 mA, with socket 1 to follow. -/
def measuringZone : Zone :=
  { rail := { state := .searching, setpoint := 1000, goal := some 1000 }
    search := { phase := .measuring, candidate := some 0, baseline := some 10000, pending := [1] } }

theorem measuring_rail : measuringZone.RailConsistent := by
  unfold Zone.RailConsistent; simp only [eq_iff_iff]; decide

theorem witness_CurrentSampleSearches :
    (∃ s : State, (s.zone 0).RailConsistent ∧ (s.zone 0).rail.state.powered = false) ∧
    (∃ s : State, (s.zone 0).RailConsistent ∧ (s.zone 0).rail.state.powered = true ∧ (s.zone 0).cfg.tripMa = 20000) ∧
    (∃ (s : State) (rest : List SocketId), (s.zone 0).RailConsistent ∧ (s.zone 0).rail.state = .hold ∧
      (s.zone 0).cfg.limitMa ≤ 10000 ∧ 10000 < (s.zone 0).cfg.tripMa ∧
      (allSockets.filter fun j => decide ((s.socket j).zone = 0) && (s.socket j).switch) = 0 :: rest) ∧
    ∃ s : State, (s.zone 0).RailConsistent ∧ (s.zone 0).rail.state = .searching ∧ (s.zone 0).search.phase = .measuring ∧
      (s.zone 0).search.candidate = some 0 ∧ (s.zone 0).search.baseline = some 10000 ∧ 9500 < (s.zone 0).cfg.tripMa ∧
      9500 + (s.zone 0).cfg.shareMa ≤ 10000 ∧ 9500 < (s.zone 0).cfg.limitMa ∧ 10000 < 9501 + (s.zone 0).cfg.shareMa ∧
      (s.zone 0).search.pending = [1] :=
  ⟨⟨State.reset, rails_of rfl 0, rfl⟩, ⟨withZone heldZone, held_rail, rfl, rfl⟩, ⟨running, [], held_rail, rfl, by decide, by decide, by decide⟩,
    ⟨withZone measuringZone, measuring_rail, rfl, rfl, rfl, rfl, by decide, by decide, by decide, by decide, rfl⟩⟩

/-! #### Heat -/

theorem witness_TemperatureSampleHeats :
    (∃ s : State, (s.zone 0).heat.state = .off) ∧
    (∀ state : ThermalState, ∃ s : State, (s.zone 0).heat.state = state ∧ (s.zone 0).heat.target = some 250 ∧
      (s.zone 0).cfg.hardLimit = 300 ∧ (s.zone 0).cfg.band = 6 ∧ (s.zone 0).cfg.soakS ≠ 0 ∧ (s.zone 0).cfg.graceS ≠ 0 ∧
      (s.zone 0).rail.state ≠ .tripped ∧ s.step.state ≠ .halted) ∧
    (∃ s : State, (s.zone 0).heat.state = .overtemp ∧ (s.zone 0).heat.target = none) ∧
    ∃ s : State, (s.zone 0).heat.state = .stable ∧ (s.zone 0).heat.target = some 250 ∧ (s.zone 0).cfg.graceS = 0 ∧
      (s.zone 0).cfg.soakS = 0 ∧ s.step.state = .halted :=
  let warm (state : ThermalState) : Zone := { heat := { state, target := some 250 } }
  ⟨⟨State.reset, rfl⟩, fun state => ⟨withZone (warm state), rfl, rfl, rfl, rfl, nofun, nofun, nofun, nofun⟩,
    ⟨withZone { heat := { state := .overtemp } }, rfl, rfl⟩,
    ⟨{ withZone { warm .stable with cfg := { graceS := 0, soakS := 0 } } with step := { state := .halted } }, rfl, rfl, rfl, rfl,
      rfl⟩⟩

/-! #### The pattern engine and the checker -/

/-- An entry of the Vector Queue that repeats twice. -/
def entry2 : QueueEntry := { block := 7, index := 0, vec := { expect := 1, mask := 1, reps := 2 } }

/-- An engine that streams with one cycle of its head begun. -/
def streaming (cycle : Nat) (rest : List QueueEntry) : Engine := { state := .streaming, queue := entry2 :: rest, cycle }

/-- Lane 0 follows the clock, and a write that takes it OFF waits for the next cycle. -/
def losingExercise : State :=
  { withEngine (streaming 1 []) with
    driveInEffect := State.reset.drive.set 0 { source := .clock }
    drive := State.reset.drive }

/-- The write raises EXERCISE_DISTURBED for zone 0 and no other (R133, R137). -/
theorem test_drive_write_ends_exercise :
    let u := losingExercise.driveCycle
    (u.zone 0).latches.exercise = true ∧ (u.zone 1).latches.exercise = false := by decide

theorem witness_VectorCycleAdvancesEngine :
    (∃ s : State, s.engine.state = .stopped) ∧
    (∃ (s : State) (vec : Vec) (source : VectorSource), s.engine.state ≠ .stopped ∧ s.NoWindowDue ∧
      s.engine.inPlay = some (vec, source) ∧ s.engine.cycle < vec.reps ∧ (s.socket 0).state.armed = false ∧
      s.engine.boundaryDue = false) ∧
    (∃ (s : State) (vec : Vec) (source : VectorSource), s.engine.state ≠ .stopped ∧ s.NoWindowDue ∧
      s.engine.inPlay = some (vec, source) ∧ s.engine.cycle < vec.reps ∧ s.hasActiveLane 0 = true ∧
      State.hasActiveLane { s with driveInEffect := s.drive } 0 = false) ∧
    ∃ s : State, s.engine.state = .starved ∧ s.NoWindowDue ∧ s.engine.boundaryDue = false :=
  ⟨⟨State.reset, rfl⟩, ⟨withEngine (streaming 1 []), entry2.vec, .stream 7 0, nofun, no_window_of rfl, rfl, by decide, rfl, rfl⟩,
    ⟨losingExercise, entry2.vec, .stream 7 0, nofun, no_window_of rfl, rfl, by decide, by decide, by decide⟩,
    ⟨withEngine { state := .starved }, rfl, no_window_of rfl, rfl⟩⟩

/-- The first cycle of a start: vector in play on its cycle 1, clock 1, first outputs 0 (R128, R135). -/
theorem test_start_begins_first_cycle :
    let e := (State.enginePromoted
      { withStep { state := .running, cur := { source := .stream } } with engine := { queue := [entry2] } } .none).engine
    e.state = .streaming ∧ e.cycle = 1 ∧ e.lastDrive = entry2.vec.drive ∧ e.clockPhase = true ∧ e.prbsA.getLsbD 0 = false ∧
      e.prbsB.getLsbD 0 = false := by
  decide

/-- Lane 0 is checked while the head of the queue plays: zone 0 in HOLD, socket 0 armed and on. -/
def comparing (lane0 : Lane) : State :=
  { withSocket { populated := true, state := .running, switch := true } lane0 with
    zones := Table.ofFn fun z => if z = 0 then heldZone else {}
    engine := streaming 1 [] }

theorem witness_CompareMismatchScores :
    (∀ row : SenseRow, row = { mode := .compare } ∨ row = { mode := .prbs } ∨ row = { mode := .toggle } →
      (comparing { row }).NoWindowDue ∧ (comparing { row }).engine.inPlay = some (entry2.vec, .stream 7 0) ∧
      (comparing { row }).engine.cycle < entry2.vec.reps ∧ (comparing { row }).eligible 0 = true ∧
      (∀ m : LaneId, m ≠ 0 → ((comparing { row }).lane m).row.mode.cycled = false) ∧
      (comparing { row }).drive = (comparing { row }).driveInEffect) ∧
    (entry2.vec.mask.getLsbD 0 = true ∧ (entry2.vec.expect.getLsbD 0 != false) ≠ (0 : BitVec 64).getLsbD 0 ∧
      (entry2.vec.expect.getLsbD 0 != false) = (1 : BitVec 64).getLsbD 0) ∧
    (∀ p : PrbsCheck, ((comparing { row := { mode := .prbs }, prbs := p }).lane 0).prbs = p) ∧
    ∀ w : ToggleWatch, ((comparing { row := { mode := .toggle }, watch := w }).lane 0).watch = w :=
  ⟨by rintro row (rfl | rfl | rfl) <;>
      exact ⟨by unfold State.NoWindowDue; decide, rfl, by decide, by decide, by decide, rfl⟩,
    by decide, fun _ => rfl, fun _ => rfl⟩

/-- An engine that loops over two vectors, a cycle from the end of one. -/
def looping (index : Nat) (queue : List QueueEntry) : Engine :=
  { state := .looping, loopValid := true, loopLength := 2, loopIndex := index, cycle := 1, queue }

theorem witness_VectorBoundaryChoosesNext :
    (∃ s : State, s.engine.boundaryDue = false) ∧
    (∀ (source : PatternSource) (rest : List QueueEntry) (valid : Bool), ∃ s : State, s.engine.boundaryDue = true ∧
      s.step.cur.source = source ∧ s.engine.state = .streaming ∧ s.engine.queue.tail = rest ∧ s.engine.loopValid = valid) ∧
    ∀ (source : PatternSource) (queue : List QueueEntry), ∃ s t : State, s.engine.boundaryDue = true ∧
      s.step.cur.source = source ∧ s.engine.state = .looping ∧ s.engine.queue = queue ∧
      s.engine.loopIndex + 1 < s.engine.loopLength ∧ t.engine.boundaryDue = true ∧ t.step.cur.source = source ∧
      t.engine.state = .looping ∧ t.engine.queue = queue ∧ ¬ (t.engine.loopIndex + 1 < t.engine.loopLength) :=
  ⟨⟨State.reset, rfl⟩,
    fun source rest valid => ⟨playing { streaming 2 rest with loopValid := valid } source, rfl, rfl, rfl, rfl, rfl⟩,
    fun source queue => ⟨playing (looping 0 queue) source, playing (looping 1 queue) source, rfl, rfl, rfl, rfl, by
      simp [playing, looping], rfl, rfl, rfl, rfl, by simp [playing, looping]⟩⟩

theorem witness_WindowEndsJudgeLanes :
    (∃ s : State, (s.lane 0).prbs.predictions = 47 ∧ (s.lane 0).watch.cycles = 1023) ∧
    (∃ s : State, (s.lane 0).prbs.predictions = 48 ∧ (s.lane 0).prbs.errors = 4 ∧ (s.lane 0).prbs.locked = true ∧
      (s.lane 0).watch.cycles = 1024 ∧ (s.lane 0).watch.edges = 4 ∧ (s.lane 0).watch.stuck = false) ∧
    (∃ s : State, (s.lane 0).prbs.predictions = 48 ∧ (s.lane 0).prbs.errors = 5 ∧ (s.lane 0).prbs.locked = true ∧
      (s.lane 0).prbs.run = 0 ∧ (s.lane 0).watch.cycles = 1024 ∧ (s.lane 0).watch.edges = 3 ∧ (s.lane 0).watch.stuck = false ∧
      (s.lane 0).watch.run = 0) ∧
    (∃ s : State, (s.lane 0).prbs.predictions = 48 ∧ (s.lane 0).prbs.errors = 5 ∧ (s.lane 0).prbs.locked = true ∧
      (s.lane 0).prbs.run = 1 ∧ (s.lane 0).watch.cycles = 1024 ∧ (s.lane 0).watch.edges = 3 ∧ (s.lane 0).watch.stuck = false ∧
      (s.lane 0).watch.run = 1 ∧ (s.socket 0).state.armed = true) ∧
    ∃ s : State, (s.lane 0).prbs.predictions = 48 ∧ (s.lane 0).prbs.errors = 4 ∧ (s.lane 0).prbs.locked = false ∧
      (s.lane 0).prbs.run = 1 ∧ (s.lane 0).watch.cycles = 1024 ∧ (s.lane 0).watch.edges = 4 ∧ (s.lane 0).watch.stuck = true ∧
      (s.lane 0).watch.run = 1 ∧ (s.socket 0).state = .suspect ∧ (s.socket 0).reasons = { stuck := true, lock := true } :=
  ⟨⟨withSocket {} { prbs := { predictions := 47 }, watch := { cycles := 1023 } }, rfl, rfl⟩,
    ⟨withSocket {} { prbs := { predictions := 48, errors := 4, locked := true }, watch := { cycles := 1024, edges := 4 } },
      rfl, rfl, rfl, rfl, rfl, rfl⟩,
    ⟨withSocket {} { prbs := { predictions := 48, errors := 5, locked := true }, watch := { cycles := 1024, edges := 3 } },
      rfl, rfl, rfl, rfl, rfl, rfl, rfl, rfl⟩,
    ⟨withSocket { state := .running }
      { prbs := { predictions := 48, errors := 5, locked := true, run := 1 }, watch := { cycles := 1024, edges := 3, run := 1 } },
      rfl, rfl, rfl, rfl, rfl, rfl, rfl, rfl, rfl⟩,
    ⟨withSocket { state := .suspect, reasons := { stuck := true, lock := true } }
      { prbs := { predictions := 48, errors := 4, lockLost := true, run := 1 }
        watch := { cycles := 1024, edges := 4, stuck := true, run := 1 } },
      rfl, rfl, rfl, rfl, rfl, rfl, rfl, rfl, rfl, rfl⟩⟩

/-- A gate on lane 1 with a raw count, its socket with the constants of section 2.5. -/
def gated (raw : Nat) (monitor : Monitor) : State :=
  withSocket { state := .running, tjOffset := -3000, tjSlope := 2600 } {}
    { row := { mode := .freq, prescale := 7 }, gate := { raw := some raw, monitor } }

theorem witness_GatesMeasureJunctions :
    (∃ s : State, (s.lane 1).gate.raw = none) ∧ ((gated 60 .valid).lane 1).gate.raw = some 60 ∧
    min 65535 (60 / 2 ^ ((gated 60 .valid).lane 1).row.prescale) = 0 ∧
    min 65535 (8388480 / 2 ^ ((gated 8388480 .lost).lane 1).row.prescale) = 65535 ∧
    (max (-80) (min 400 (((gated 0 .valid).socket 0).tjOffset + ((gated 0 .valid).socket 0).tjSlope * 5230 / 4096)) = 319 ∧
      ((gated 0 .valid).policyOf 0).runawayLimit = 300 ∧ ((gated 0 .valid).socket 0).state.armed = true) ∧
    max (-80) (min 400 (((gated 0 .valid).socket 0).tjOffset + ((gated 0 .valid).socket 0).tjSlope * 5120 / 4096)) = 250 :=
  ⟨⟨State.reset, rfl⟩, rfl, by decide, by decide, ⟨by decide, rfl, rfl⟩, by decide⟩

end Sys2Proof.Tests
end

/-! ## The marks of sockets and lanes

What the rules of credit and verdicts (R12, R13, R33 to R35, R37, R40, R44) look at in a socket and a lane. The rails, the search,
the heat controller, the engine and the link leave it alone. -/

section
namespace Sys2Proof.Machine

/-- What the rules of credit and verdicts look at in a socket. -/
def Socket.marks (k : Socket) : Nat × SocketState × Reasons × (Nat × Nat) × (Nat × Nat × List Nat × Nat) :=
  (k.target, k.state, k.reasons, (k.credit, k.fraction), (k.running, k.last, k.history, k.clean))

/-- What the suspect reasons look at in a lane: STUCK and a lost lock (R12). -/
def Lane.marks (l : Lane) : Bool × Bool := (l.watch.stuck, l.prbs.lockLost)

/-- The marks of every socket and every lane. -/
def State.marks (s : State) :
    (SocketId → Nat × SocketState × Reasons × (Nat × Nat) × (Nat × Nat × List Nat × Nat)) × (LaneId → Bool × Bool) :=
  (fun i => (s.socket i).marks, fun n => (s.lane n).marks)

theorem State.marks_eq {s t : State} (hk : ∀ i, (t.socket i).marks = (s.socket i).marks)
    (hl : ∀ n, (t.lane n).marks = (s.lane n).marks) : t.marks = s.marks :=
  Prod.ext (funext hk) (funext hl)

theorem State.marks_socket {s t : State} (h : t.marks = s.marks) (i : SocketId) : (t.socket i).marks = (s.socket i).marks :=
  congrFun (congrArg Prod.fst h) i

theorem State.marks_lane {s t : State} (h : t.marks = s.marks) (n : LaneId) : (t.lane n).marks = (s.lane n).marks :=
  congrFun (congrArg Prod.snd h) n

variable (s : State)

/-! ### The updates, records, notices and switches -/

theorem updSocket_marks (i : SocketId) (f : Socket → Socket) (h : (f (s.socket i)).marks = (s.socket i).marks) :
    (s.updSocket i f).marks = s.marks :=
  State.marks_eq (fun j => by rw [State.updSocket_socket]; split <;> simp_all) fun _ => rfl

theorem updLane_marks (n : LaneId) (f : Lane → Lane) (h : (f (s.lane n)).marks = (s.lane n).marks) :
    (s.updLane n f).marks = s.marks :=
  State.marks_eq (fun _ => rfl) fun m => by rw [State.updLane_lane]; split <;> simp_all

@[simp] theorem updZone_marks (z : ZoneId) (f : Zone → Zone) : (s.updZone z f).marks = s.marks := rfl
@[simp] theorem updRail_marks (z : ZoneId) (f : Rail → Rail) : (s.updRail z f).marks = s.marks := rfl
@[simp] theorem updSearch_marks (z : ZoneId) (f : Search → Search) : (s.updSearch z f).marks = s.marks := rfl
@[simp] theorem updHeat_marks (z : ZoneId) (f : Heat → Heat) : (s.updHeat z f).marks = s.marks := rfl
@[simp] theorem updValues_marks (z : ZoneId) (f : Values → Values) : (s.updValues z f).marks = s.marks := rfl
@[simp] theorem setZones_marks (f : ZoneId → Zone) : (s.setZones f).marks = s.marks := rfl
@[simp] theorem updEngine_marks (f : Engine → Engine) : (s.updEngine f).marks = s.marks := rfl
@[simp] theorem updStep_marks (f : StepCtl → StepCtl) : (s.updStep f).marks = s.marks := rfl
@[simp] theorem updHalt_marks (f : Halt → Halt) : (s.updHalt f).marks = s.marks := rfl
@[simp] theorem updLink_marks (f : Link → Link) : (s.updLink f).marks = s.marks := rfl
@[simp] theorem evaluateOutput_marks : s.evaluateOutput.marks = s.marks := rfl

theorem forEach_marks {α : Type} {xs : List α} {f : α → State → State} (h : ∀ x s, (f x s).marks = s.marks) :
    (forEach xs f s).marks = s.marks :=
  forEach_keeps (P := fun t => t.marks = s.marks) (fun x _ t ht => (h x t).trans ht) rfl

theorem forEachFreely_marks {α : Type} {xs : List α} {f : α → State → State} (h : ∀ x s, (f x s).marks = s.marks) :
    (forEachFreely xs f s).marks = s.marks :=
  forEachFreely_keeps (P := fun t => t.marks = s.marks) (fun _ _ ht => ht) (fun x _ t ht => (h x t).trans ht) rfl

@[simp] theorem report_marks (r : Record) : (s.report r).marks = s.marks := by rw [report_state]; rfl
@[simp] theorem reportZone_marks (z : ZoneId) (e : ZoneEvent) : (s.reportZone z e).marks = s.marks := report_marks ..
@[simp] theorem reportStep_marks (e : StepEvent) : (s.reportStep e).marks = s.marks := report_marks ..
@[simp] theorem reportPattern_marks (e : PatternEvent) (b x : Option Nat) : (s.reportPattern e b x).marks = s.marks :=
  report_marks ..
@[simp] theorem reportLane_marks (n : LaneId) (e : LaneEvent) : (s.reportLane n e).marks = s.marks := report_marks ..

@[simp] theorem notice_marks (l : Latch) (named : ZoneId → Bool) : (s.notice l named).marks = s.marks :=
  State.marks_eq (fun i => by rw [notice_socket]; split <;> rfl) fun _ => rfl

@[simp] theorem noticeZone_marks (l : Latch) (z : ZoneId) : (s.noticeZone l z).marks = s.marks := notice_marks ..
@[simp] theorem noticeAll_marks (l : Latch) : (s.noticeAll l).marks = s.marks := notice_marks ..

@[simp] theorem switched_marks (k : Socket) (on : Bool) : (k.switched on).marks = k.marks := by rw [switched_cases]; rfl

@[simp] theorem laneSwitched_marks (l : Lane) (was on : Bool) : (l.switched was on).marks = l.marks := by
  unfold Lane.switched; (repeat' split) <;> rfl

@[simp] theorem evaluateSwitches_marks (named : SocketId → Bool) : (s.evaluateSwitches named).marks = s.marks :=
  State.marks_eq (fun i => by rw [evaluateSwitches_socket]; split <;> simp) fun n => by
    rw [evaluateSwitches_lane]; split <;> simp

@[simp] theorem evaluateSwitch_marks (i : SocketId) : (s.evaluateSwitch i).marks = s.marks := evaluateSwitches_marks ..
@[simp] theorem evaluateZoneSwitches_marks (z : ZoneId) : (s.evaluateZoneSwitches z).marks = s.marks :=
  evaluateSwitches_marks ..

@[simp] theorem placeHold_marks (i : SocketId) (h : Hold) : (s.placeHold i h).marks = s.marks :=
  (evaluateSwitch_marks ..).trans (updSocket_marks s i _ rfl)

@[simp] theorem placeHold?_marks (i : SocketId) (h : Option Hold) : (s.placeHold? i h).marks = s.marks := by
  cases h with
  | none => rfl
  | some h => exact placeHold_marks ..

/-! ### The rails and the search, but for a measurement that finds a culprit -/

@[simp] theorem enterRail_marks (z : ZoneId) (new : RailState) : (s.enterRail z new).marks = s.marks := by
  simp only [State.enterRail]
  (repeat' split) <;> simp

@[simp] theorem testStopping_marks : s.testStopping.marks = s.marks := by
  simp only [State.testStopping]
  split <;> simp

@[simp] theorem startPowerUp_marks (z : ZoneId) : (s.startPowerUp z).marks = s.marks := by simp [State.startPowerUp]

@[simp] theorem tryPowerUp_marks (z : ZoneId) : (s.tryPowerUp z).marks = s.marks := by
  simp only [State.tryPowerUp]
  split <;> simp

@[simp] theorem retestUp_marks (z : ZoneId) : (s.retestUp z).marks = s.marks := by
  simp only [State.retestUp]
  split <;> simp

@[simp] theorem retestAllUp_marks : s.retestAllUp.marks = s.marks := forEach_marks s fun z t => retestUp_marks t z

@[simp] theorem endSearchAbandoned_marks (z : ZoneId) : (s.endSearchAbandoned z).marks = s.marks := by
  simp [State.endSearchAbandoned]

@[simp] theorem abandonSearch_marks (z : ZoneId) : (s.abandonSearch z).marks = s.marks := by simp [State.abandonSearch]

@[simp] theorem enterOff_marks (z : ZoneId) : (s.enterOff z).marks = s.marks := by simp [State.enterOff]

@[simp] theorem beginPowerDown_marks (z : ZoneId) : (s.beginPowerDown z).marks = s.marks := by
  simp only [State.beginPowerDown]
  (repeat' split) <;> simp

theorem freely_marks {α : Type} (xs : List α) : (freely xs s).2.marks = s.marks := by rw [freely_state]; rfl

theorem retestDown_marks (fuel : Nat) : (State.retestDown fuel s).marks = s.marks := by
  induction fuel generalizing s with
  | zero => rfl
  | succ fuel ih =>
    have h := freely_marks s (allZones.filter fun z => s.readyDown z)
    unfold State.retestDown
    split <;> rename_i e <;> rw [e] at h
    · exact h
    · rw [ih, beginPowerDown_marks]; exact h

@[simp] theorem retestAllDown_marks : s.retestAllDown.marks = s.marks := retestDown_marks ..

@[simp] theorem rampedOff_marks (z : ZoneId) : (s.rampedOff z).marks = s.marks := by simp [State.rampedOff]

@[simp] theorem trip_marks (z : ZoneId) (c : TripCause) : (s.trip z c).marks = s.marks := by
  simp only [State.trip]
  (repeat' split) <;> simp

@[simp] theorem clearTrip_marks (z : ZoneId) : (s.clearTrip z).marks = s.marks := by
  simp only [State.clearTrip]
  (repeat' split) <;> simp

@[simp] theorem enterConfirming_marks (z : ZoneId) : (s.enterConfirming z).marks = s.marks := by simp [State.enterConfirming]

@[simp] theorem enterHold_marks (z : ZoneId) (e : ZoneEvent) : (s.enterHold z e).marks = s.marks := by simp [State.enterHold]

@[simp] theorem voltageSample_marks (z : ZoneId) (mv : Nat) : (s.voltageSample z mv).marks = s.marks := by
  simp only [State.voltageSample]
  (repeat' split) <;> simp

@[simp] theorem railStale_marks (z : ZoneId) : (s.railStale z).marks = s.marks := by
  simp only [State.railStale]
  split <;> simp

@[simp] theorem rampStep_marks (z : ZoneId) : (s.rampStep z).marks = s.marks := by
  simp only [State.rampStep]
  (repeat' split) <;> simp

@[simp] theorem confirmExpired_marks (z : ZoneId) : (s.confirmExpired z).marks = s.marks := by
  simp only [State.confirmExpired]
  split
  · exact trip_marks ..
  · rfl

@[simp] theorem redirect_marks (z : ZoneId) : (s.redirect z).marks = s.marks := by
  simp only [State.redirect]
  (repeat' split) <;> simp

@[simp] theorem goalChange_marks (z : ZoneId) : (s.goalChange z).marks = s.marks := by
  simp only [State.goalChange]
  (repeat' split) <;> simp

@[simp] theorem formGoals_marks (goals : ZoneId → Option Nat) : (s.formGoals goals).marks = s.marks :=
  (forEachFreely_marks _ fun z t => goalChange_marks t z).trans rfl

@[simp] theorem writeOrder_marks (zs : List ZoneId) : (s.writeOrder zs).marks = s.marks := by
  simp only [State.writeOrder, retestAllDown_marks]
  refine (forEachFreely_marks _ fun z t => ?_).trans rfl
  split <;> simp

@[simp] theorem shedNext_marks (z : ZoneId) : (s.shedNext z).marks = s.marks := by
  simp only [State.shedNext]
  split <;> simp

@[simp] theorem exhaust_marks (z : ZoneId) : (s.exhaust z).marks = s.marks := by simp [State.exhaust]

@[simp] theorem searchOn_marks (z : ZoneId) : (s.searchOn z).marks = s.marks := by
  simp only [State.searchOn]
  split <;> simp

@[simp] theorem clearSearch_marks (z : ZoneId) : (s.clearSearch z).marks = s.marks := by simp [State.clearSearch]

@[simp] theorem startSearch_marks (z : ZoneId) (ma : Nat) : (s.startSearch z ma).marks = s.marks := by simp [State.startSearch]

@[simp] theorem settleExpired_marks (z : ZoneId) : (s.settleExpired z).marks = s.marks := by
  simp only [State.settleExpired]
  split <;> simp

@[simp] theorem resetRails_marks : s.resetRails.marks = s.marks := by simp [State.resetRails]

/-! ### Heat -/

@[simp] theorem leaveStable_marks (z : ZoneId) : (s.leaveStable z).marks = s.marks := by
  simp only [State.leaveStable]
  split <;> simp

@[simp] theorem heatOff_marks (z : ZoneId) : (s.heatOff z).marks = s.marks := rfl

@[simp] theorem enterBlind_marks (z : ZoneId) : (s.enterBlind z).marks = s.marks := by simp [State.enterBlind]

@[simp] theorem enterOvertemp_marks (z : ZoneId) : (s.enterOvertemp z).marks = s.marks := by simp [State.enterOvertemp]

@[simp] theorem enterStable_marks (z : ZoneId) : (s.enterStable z).marks = s.marks := by simp [State.enterStable]

@[simp] theorem enterSide_marks (z : ZoneId) (side : Side) : (s.enterSide z side).marks = s.marks := rfl

@[simp] theorem enterSoaking_marks (z : ZoneId) : (s.enterSoaking z).marks = s.marks := by
  simp only [State.enterSoaking]
  split <;> simp

@[simp] theorem place_marks (z : ZoneId) (target : Int) (t : Option Int) : (s.place z target t).marks = s.marks := by
  simp only [State.place]
  (repeat' split) <;> simp

@[simp] theorem targetChange_marks (z : ZoneId) (target : Option Int) : (s.targetChange z target).marks = s.marks := by
  simp only [State.targetChange]
  (repeat' split) <;> simp

@[simp] theorem formTargets_marks (targets : ZoneId → Option Int) : (s.formTargets targets).marks = s.marks :=
  forEachFreely_marks _ fun z t => targetChange_marks t z _

@[simp] theorem applyLaw_marks (z : ZoneId) (t : Int) : (s.applyLaw z t).marks = s.marks := by
  simp only [State.applyLaw]
  (repeat' split) <;> simp

@[simp] theorem excursion_marks (z : ZoneId) (side : Side) : (s.excursion z side).marks = s.marks := by
  simp only [State.excursion]
  (repeat' split) <;> simp

@[simp] theorem bandSample_marks (z : ZoneId) (target t : Int) : (s.bandSample z target t).marks = s.marks := by
  simp only [State.bandSample]
  (repeat' split) <;> simp

@[simp] theorem leaveOvertemp_marks (z : ZoneId) (t : Int) : (s.leaveOvertemp z t).marks = s.marks := by
  simp only [State.leaveOvertemp]
  (repeat' split) <;> simp

@[simp] theorem heatState_marks (z : ZoneId) (t : Int) : (s.heatState z t).marks = s.marks := by
  simp only [State.heatState]
  (repeat' split) <;> simp

@[simp] theorem temperatureSample_marks (z : ZoneId) (t : Int) : (s.temperatureSample z t).marks = s.marks := by
  simp [State.temperatureSample]

@[simp] theorem heatStale_marks (z : ZoneId) : (s.heatStale z).marks = s.marks := by
  simp only [State.heatStale]
  (repeat' split) <;> simp

@[simp] theorem soakExpired_marks (z : ZoneId) : (s.soakExpired z).marks = s.marks := by
  simp only [State.soakExpired]
  split <;> simp

@[simp] theorem graceExpired_marks (z : ZoneId) : (s.graceExpired z).marks = s.marks := by
  simp only [State.graceExpired]
  split <;> simp

@[simp] theorem staleExpired_marks (z : ZoneId) (q : Quantity) : (s.staleExpired z q).marks = s.marks := by
  simp only [State.staleExpired]
  (repeat' split) <;> simp

/-! ### The engine -/

@[simp] theorem watchExercise_marks {f : State → State} (h : (f s).marks = s.marks) : (s.watchExercise f).marks = s.marks :=
  (notice_marks ..).trans h

@[simp] theorem stopEngine_marks : s.stopEngine.marks = s.marks := watchExercise_marks s rfl

@[simp] theorem stopEngineAtOnce_marks : s.stopEngineAtOnce.marks = s.marks := (updEngine_marks ..).trans (stopEngine_marks s)

@[simp] theorem enterStarved_marks : s.enterStarved.marks = s.marks :=
  (noticeAll_marks ..).trans ((reportPattern_marks ..).trans (watchExercise_marks s rfl))

@[simp] theorem resume_marks : s.resume.marks = s.marks := by
  simp only [State.resume]
  split <;> simp

@[simp] theorem chooseNext_marks (was : EngineState) : (s.chooseNext was).marks = s.marks := by
  simp only [State.chooseNext]
  (repeat' split) <;> simp

@[simp] theorem boundary_marks : s.boundary.marks = s.marks := by
  simp only [State.boundary]
  split <;> simp

@[simp] theorem trackBlock_marks (b : Block) : (s.trackBlock b).marks = s.marks := by
  simp only [State.trackBlock]
  split <;> simp

@[simp] theorem refuseBlock_marks (b : Block) (e : PatternEvent) : (s.refuseBlock b e).marks = s.marks := by
  simp [State.refuseBlock]

@[simp] theorem takeBlock_marks (b : Block) : (s.takeBlock b).marks = s.marks := by
  simp only [State.takeBlock]
  (repeat' split) <;> simp

@[simp] theorem loadLoop_marks (first : Nat) (vs : List Vec) (isLast : Bool) : (s.loadLoop first vs isLast).marks = s.marks := by
  simp only [State.loadLoop]
  (repeat' split) <;> simp

@[simp] theorem writeDrive_marks (rows : List (Fin 64 × DriveRow)) : (s.writeDrive rows).marks = s.marks := by
  simp only [State.writeDrive]
  split <;> rfl

@[simp] theorem resetEngine_marks : s.resetEngine.marks = s.marks :=
  (updEngine_marks ..).trans (stopEngineAtOnce_marks s)

@[simp] theorem driveCycle_marks : s.driveCycle.marks = s.marks :=
  (setZones_marks ..).trans (watchExercise_marks s rfl)

@[simp] theorem chooseFirst_marks : s.chooseFirst.marks = s.marks := by
  simp only [State.chooseFirst]
  split <;> simp

/-! ### Step control, but for a promotion -/

@[simp] theorem forceDuties_marks : s.forceDuties.marks = s.marks := rfl

@[simp] theorem enterHalted_marks : s.enterHalted.marks = s.marks := by
  simp only [State.enterHalted]
  split
  · rfl
  · simp [forEach_marks _ fun z t => trip_marks t z .halt]

@[simp] theorem readLine_marks : s.readLine.marks = s.marks := by
  simp only [State.readLine]
  split <;> simp

@[simp] theorem lineAsserted_marks (b : Bool) : (s.lineAsserted b).marks = s.marks := by
  simp only [State.lineAsserted]
  split <;> simp

@[simp] theorem enterStopping_marks : s.enterStopping.marks = s.marks := by simp [State.enterStopping]

@[simp] theorem dropSources_marks : s.dropSources.marks = s.marks := rfl

@[simp] theorem recauseHalt_marks (z : ZoneId) : (s.recauseHalt z).marks = s.marks := by simp [State.recauseHalt]

@[simp] theorem leaveHalted_marks : s.leaveHalted.marks = s.marks := by
  simp [State.leaveHalted, forEach_marks _ fun z t => clearTrip_marks t z]

@[simp] theorem resetStep_marks : s.resetStep.marks = s.marks := by simp [State.resetStep]

/-! ### The link -/

@[simp] theorem arbitrate_marks : s.arbitrate.marks = s.marks := by rw [arbitrate_state]; rfl

@[simp] theorem countLink_marks (f : LinkCounts → LinkCounts) : (s.countLink f).marks = s.marks := rfl

@[simp] theorem forwardDown_marks (bytes : List Byte) : (s.forwardDown bytes).marks = s.marks := by
  simp only [State.forwardDown]
  (repeat' split) <;> simp

@[simp] theorem downFrame_marks (bytes : List Byte) : (s.downFrame bytes).marks = s.marks := by
  simp only [State.downFrame]
  (repeat' split) <;> simp

@[simp] theorem downPartner_marks (present : Bool) : (s.downPartner present).marks = s.marks := by
  simp only [State.downPartner]
  split <;> simp

@[simp] theorem upReceiver_marks (present : Bool) : (s.upReceiver present).marks = s.marks := by
  simp only [State.upReceiver]
  split <;> simp

/-! ### The commands that move no socket's marks -/

@[simp] theorem accept_state (r : List Byte) : (s.accept r).state = s := rfl

@[simp] theorem refuse_state (status : Status) : (s.refuse status).state = s := rfl

theorem unsettleStage_marks : s.unsettleStage.state.marks = s.marks := by
  simp only [State.unsettleStage]
  split <;> simp

theorem stopStep_marks : s.stopStep.state.marks = s.marks := by
  simp only [State.stopStep]
  split <;> simp

theorem abortStep_marks : s.abortStep.state.marks = s.marks := enterHalted_marks s

theorem clearStep_marks : s.clearStep.state.marks = s.marks := by
  simp only [State.clearStep]
  (repeat' split) <;> simp [forEach_marks _ fun z t => recauseHalt_marks t z]

theorem loopLoad_marks (first count flags : Byte) (vectors : List Byte) :
    (State.loopLoad first count flags vectors s).state.marks = s.marks := by
  simp only [State.loopLoad]
  (repeat' split) <;> simp

theorem clearZones_marks (set : Byte) : (State.clearZones set s).state.marks = s.marks := by
  simp only [State.clearZones]
  (repeat' split) <;> simp [forEach_marks _ fun z t => clearTrip_marks t z]

theorem tableRead_marks (table first count : Byte) (mask : BitVec 64) :
    (State.tableRead table first count mask s).state.marks = s.marks := by
  simp only [State.tableRead]
  (repeat' split) <;> simp

theorem writeSettings_marks (w : RowWrite) : (s.writeSettings w).state.marks = s.marks :=
  (forEachFreely_marks _ fun task t => by cases task <;> simp [HaltTask.run]).trans rfl

theorem writeZones_marks (rows : List (ZoneId × RowWrite)) : (s.writeZones rows).state.marks = s.marks := by
  simp only [State.writeZones]
  (repeat' split)
  · rfl
  · rfl
  · exact (forEachFreely_marks _ fun task t => by cases task <;> simp [ZoneTask.run]).trans rfl

theorem writePolicies_marks (rows : List (Fin 4 × RowWrite)) : (s.writePolicies rows).state.marks = s.marks := by
  simp only [State.writePolicies]
  split <;> rfl

theorem writeDriveRows_marks (rows : List (Fin 64 × RowWrite)) : (s.writeDriveRows rows).state.marks = s.marks :=
  writeDrive_marks ..

end Sys2Proof.Machine
end

/-! ## One socket at a time

The operations on a socket move that socket, its two lanes and the Report Queue, and look at no other socket or lane: so a loop over
different sockets does to each what it would do alone, with the VERDICT records in the order of the loop (R17). -/

section
namespace Sys2Proof.Machine

/-! ### The frame of the checks -/

theorem State.CheckedTo.zones {s t : State} (h : s.CheckedTo t) : t.zones = s.zones := by rw [h]

theorem State.CheckedTo.zone {s t : State} (h : s.CheckedTo t) (z : ZoneId) : t.zone z = s.zone z := by
  rw [State.zone, h.zones]; rfl

theorem State.CheckedTo.policies {s t : State} (h : s.CheckedTo t) : t.policies = s.policies := by rw [h]

theorem State.CheckedTo.settings {s t : State} (h : s.CheckedTo t) : t.settings = s.settings := by rw [h]

theorem State.CheckedTo.runSeconds {s t : State} (h : s.CheckedTo t) : t.runSeconds = s.runSeconds := by rw [h]

theorem State.CheckedTo.transferNumber {s t : State} (h : s.CheckedTo t) : t.transferNumber = s.transferNumber := by rw [h]

theorem State.CheckedTo.halt {s t : State} (h : s.CheckedTo t) : t.halt = s.halt := by rw [h]

theorem State.CheckedTo.link {s t : State} (h : s.CheckedTo t) : t.link = s.link := by rw [h]

/-! ### Moves of one socket -/

/-- From `s` to `t` only socket `i`, its lanes, the Report Queue and the counter of free choices may have moved. -/
structure State.Local (s : State) (i : SocketId) (t : State) : Prop where
  checked : s.CheckedTo t
  sockets : ∀ j, j ≠ i → t.socket j = s.socket j
  lanes : ∀ n, laneSocket n ≠ i → t.lane n = s.lane n

/-- A move of one socket that creates no record and keeps its state. -/
structure State.Quiet (s : State) (i : SocketId) (t : State) : Prop extends s.Local i t where
  reports : t.reports = s.reports
  state : (t.socket i).state = (s.socket i).state

/-- The VERDICT record that the change of socket `i` from state `old` to what `k` holds is owed (R17); none where its state
stands. -/
def verdictOf (i : SocketId) (old : SocketState) (k : Socket) (runSeconds : Nat) : Option Record :=
  if old = k.state then none
  else
    some (.verdict i old k.state (if k.state = .failed then k.cause else none) k.reasons runSeconds (k.credit / 256) k.last)

/-- A move of one socket with the VERDICT record of its change, and no other record (R17). -/
structure State.Turns (s : State) (i : SocketId) (t : State) : Prop extends s.Local i t where
  records : t.reports = s.created (verdictOf i (s.socket i).state (t.socket i) s.runSeconds).toList

theorem State.Local.refl (s : State) (i : SocketId) : s.Local i s := ⟨.refl s, fun _ _ => rfl, fun _ _ => rfl⟩

theorem State.Local.trans {s t u : State} {i : SocketId} (h : s.Local i t) (h' : t.Local i u) : s.Local i u :=
  ⟨h.checked.trans h'.checked, fun j hj => (h'.sockets j hj).trans (h.sockets j hj),
    fun n hn => (h'.lanes n hn).trans (h.lanes n hn)⟩

theorem State.Quiet.refl (s : State) (i : SocketId) : s.Quiet i s := ⟨.refl s i, rfl, rfl⟩

theorem State.Quiet.trans {s t u : State} {i : SocketId} (h : s.Quiet i t) (h' : t.Quiet i u) : s.Quiet i u :=
  ⟨h.toLocal.trans h'.toLocal, h'.reports.trans h.reports, h'.state.trans h.state⟩

theorem verdictOf_same {i : SocketId} {old : SocketState} {k : Socket} (h : k.state = old) (r : Nat) :
    verdictOf i old k r = none := by
  simp [verdictOf, h]

theorem State.Quiet.turns {s t : State} {i : SocketId} (h : s.Quiet i t) : s.Turns i t :=
  ⟨h.toLocal, by rw [verdictOf_same h.state]; exact h.reports⟩

/-! ### Records one after another -/

/-- Records created after others join them (R50). -/
theorem created_append {s t : State} {a : List Record} (h : t.reports = s.created a) (hs : t.settings = s.settings)
    (b : List Record) : t.created b = s.created (a ++ b) := by
  simp [State.created, h, hs, List.filter_append]

theorem created_one (s : State) (r : Record) : (s.report r).reports = s.created [r] :=
  report_created (rs := []) rfl rfl r

/-! ### A state change -/

theorem toState_same (k : Socket) : k.toState k.state = k := by
  cases k with
  | mk populated zone policy target tjOffset tjSlope state => cases state <;> simp [Socket.toState, SocketState.armed]

@[simp] theorem toState_state (k : Socket) (new : SocketState) : (k.toState new).state = new := rfl

theorem toState_marks (k : Socket) (new : SocketState) : (k.toState new).marks = ({ k with state := new } : Socket).marks := rfl

/-- A change of state moves the socket whether or not the state differs. -/
theorem changeState_socket_eq (s : State) (i j : SocketId) (new : SocketState) (c : Option FailCause) :
    (s.changeState i new c).socket j = if i = j then (s.socket i).toState new else s.socket j := by
  rw [changeState_socket]
  by_cases hij : i = j
  · subst hij
    by_cases h : (s.socket i).state = new
    · subst h; simp [toState_same]
    · simp [h]
  · simp [hij]

@[simp] theorem changeState_lane (s : State) (i : SocketId) (new : SocketState) (c : Option FailCause) (n : LaneId) :
    (s.changeState i new c).lane n = s.lane n := by
  rcases changeState_cases s i new c with ⟨-, h⟩ | ⟨-, h⟩ <;> rw [h]
  rw [report_lane, State.updSocket_lane]

theorem changeState_local (s : State) (i : SocketId) (new : SocketState) (c : Option FailCause) :
    s.Local i (s.changeState i new c) :=
  ⟨changeState_checked .., fun j hj => by rw [changeState_socket_eq, if_neg (Ne.symm hj)], fun n _ => changeState_lane ..⟩

/-- After moves without a record, a change of state gives the VERDICT record, with the cause on entry to FAILED (R17). -/
theorem State.Quiet.changeState {s t : State} {i : SocketId} (h : s.Quiet i t) {new : SocketState} {c : Option FailCause}
    (hc : c = if new = .failed then (t.socket i).cause else none) : s.Turns i (t.changeState i new c) := by
  refine ⟨h.toLocal.trans (changeState_local ..), ?_⟩
  rcases changeState_cases t i new c with ⟨he, e⟩ | ⟨he, e⟩
  · rw [e, verdictOf_same h.state]; exact h.reports
  · have hne : (s.socket i).state ≠ new := h.state ▸ he
    have hset : (t.updSocket i (·.toState new)).settings = s.settings := h.checked.settings
    have hrun : t.runSeconds = s.runSeconds := h.checked.runSeconds
    rw [e, report_created (rs := []) (s := s) (by simpa using h.reports) hset]
    simp [verdictOf, State.verdictRecord, Socket.toState, hc, hrun, h.state, hne]

/-! ### Updates, switches and holds -/

theorem updSocket_local (s : State) (i : SocketId) (f : Socket → Socket) : s.Local i (s.updSocket i f) :=
  ⟨rfl, fun j hj => by rw [State.updSocket_socket, if_neg (Ne.symm hj)], fun _ _ => rfl⟩

theorem updSocket_quiet (s : State) (i : SocketId) (f : Socket → Socket) (h : (f (s.socket i)).state = (s.socket i).state) :
    s.Quiet i (s.updSocket i f) :=
  ⟨updSocket_local s i f, rfl, by rw [State.updSocket_socket_same, h]⟩

theorem updLane_local (s : State) (n : LaneId) (f : Lane → Lane) : s.Local (laneSocket n) (s.updLane n f) :=
  ⟨rfl, fun _ _ => rfl, fun m hm => by
    rw [State.updLane_lane, if_neg fun e : n = m => hm (e ▸ rfl)]⟩

theorem report_local (s : State) (i : SocketId) (r : Record) : s.Local i (s.report r) :=
  ⟨report_checked s r, fun _ _ => report_socket .., fun _ _ => report_lane ..⟩

theorem evaluateSwitch_socket (s : State) (i j : SocketId) :
    (s.evaluateSwitch i).socket j = if i = j then (s.socket i).switched (s.switchRule i) else s.socket j := by
  rw [State.evaluateSwitch, evaluateSwitches_socket]
  by_cases h : i = j
  · subst h; simp
  · simp [h, Ne.symm h]

@[simp] theorem switched_state (k : Socket) (on : Bool) : (k.switched on).state = k.state := by rw [switched_cases]

theorem evaluateSwitch_quiet (s : State) (i : SocketId) : s.Quiet i (s.evaluateSwitch i) :=
  ⟨⟨rfl, fun j hj => by rw [evaluateSwitch_socket, if_neg (Ne.symm hj)], fun n hn => by
    rw [State.evaluateSwitch, evaluateSwitches_lane]; simp [hn]⟩, rfl, by simp [evaluateSwitch_socket]⟩

theorem placeHold_quiet (s : State) (i : SocketId) (h : Hold) : s.Quiet i (s.placeHold i h) :=
  (updSocket_quiet s i _ rfl).trans (evaluateSwitch_quiet ..)

theorem placeHold?_quiet (s : State) (i : SocketId) (h : Option Hold) : s.Quiet i (s.placeHold? i h) := by
  cases h with
  | none => exact .refl s i
  | some h => exact placeHold_quiet s i h

/-- What a hold that may be placed makes of its socket (R16): a hold opens the switch. -/
theorem placeHold?_socket (s : State) (i : SocketId) (h : Option Hold) :
    (s.placeHold? i h).socket i =
      match h with
      | some h => ({ s.socket i with hold := Hold.place (s.socket i).hold h } : Socket).switched false
      | none => s.socket i := by
  cases h with
  | none => rfl
  | some h => simp [State.placeHold?, placeHold_socket]

/-- A hold leaves the rest of its socket, but for the switch and what an open switch takes away (R24, R150). -/
theorem placeHold?_cases (s : State) (i : SocketId) (h : Option Hold) :
    (s.placeHold? i h).socket i =
      { s.socket i with
        hold := ((s.placeHold? i h).socket i).hold
        switch := ((s.placeHold? i h).socket i).switch
        qualified := ((s.placeHold? i h).socket i).qualified
        estimate := ((s.placeHold? i h).socket i).estimate } := by
  rw [placeHold?_socket]
  cases h with
  | none => rfl
  | some h => dsimp only; rw [switched_cases]

/-- The lanes of a socket keep their rows and marks when its hold moves. -/
theorem placeHold?_lane_marks (s : State) (i : SocketId) (h : Option Hold) (n : LaneId) :
    ((s.placeHold? i h).lane n).marks = (s.lane n).marks := State.marks_lane (placeHold?_marks s i h) n

/-! ### Findings, completion and reasons -/

/-- What a finding makes of its socket (R14). -/
theorem finding_socket (s : State) (i : SocketId) (c : FailCause) :
    (s.finding i c).socket i =
      let k := (s.placeHold? i (c.hold (s.policyOf i).isolateOnFail)).socket i
      if (s.socket i).state.armed then ({ k with cause := some c } : Socket).toState .failed else k := by
  simp only [State.finding]
  split <;> simp [changeState_socket_eq]

/-- A finding fails an armed socket with one VERDICT record (R14, R17). -/
theorem finding_turns (s : State) (i : SocketId) (c : FailCause) : s.Turns i (s.finding i c) := by
  have h := placeHold?_quiet s i (c.hold (s.policyOf i).isolateOnFail)
  simp only [State.finding]
  split
  · exact (h.trans (updSocket_quiet _ i (fun k => { k with cause := some c }) rfl)).changeState (by simp)
  · exact h.turns

/-- What completion makes of its socket (R15). -/
theorem complete_socket (s : State) (i : SocketId) :
    (s.complete i).socket i =
      ((s.placeHold? i (if (s.policyOf i).stopOnComplete then some .done else none)).socket i).toState .complete := by
  simp [State.complete, changeState_socket_eq]

theorem complete_turns (s : State) (i : SocketId) : s.Turns i (s.complete i) :=
  (placeHold?_quiet ..).changeState rfl

theorem testCompletion_turns (s : State) (i : SocketId) : s.Turns i (s.testCompletion i) := by
  simp only [State.testCompletion]
  split
  · exact complete_turns s i
  · exact (State.Quiet.refl s i).turns

/-- An armed socket with a reason set, in the state the set gives (section 1.4 of 01_sockets.md). -/
def Socket.reasoned (k : Socket) (r : Reasons) : Socket := ({ k with reasons := r } : Socket).toState r.armedState

theorem setReasons_socket (s : State) (i : SocketId) (f : Reasons → Reasons) :
    (s.setReasons i f).socket i =
      if (s.socket i).state.armed then (s.socket i).reasoned (f (s.socket i).reasons) else s.socket i := by
  simp only [State.setReasons]
  split <;> simp [changeState_socket_eq, Socket.reasoned]

@[simp] theorem setReasons_lane (s : State) (i : SocketId) (f : Reasons → Reasons) (n : LaneId) :
    (s.setReasons i f).lane n = s.lane n := by
  simp only [State.setReasons]
  split <;> simp

@[simp] theorem reviewReasons_lane (s : State) (i : SocketId) (n : LaneId) : (s.reviewReasons i).lane n = s.lane n :=
  setReasons_lane ..

theorem armedState_ne_failed (r : Reasons) : r.armedState ≠ .failed := by
  unfold Reasons.armedState; split <;> simp

@[simp] theorem armedState_armed (r : Reasons) : r.armedState.armed = true := by
  unfold Reasons.armedState; split <;> rfl

/-- A new reason set moves its socket with the VERDICT record of its state (R12, R13, R17). -/
theorem setReasons_turns (s : State) (i : SocketId) (f : Reasons → Reasons) : s.Turns i (s.setReasons i f) := by
  simp only [State.setReasons]
  split
  · exact (updSocket_quiet s i (fun k => { k with reasons := f k.reasons }) rfl).changeState
      (by rw [if_neg (armedState_ne_failed _)])
  · exact (State.Quiet.refl s i).turns

theorem reviewReasons_turns (s : State) (i : SocketId) : s.Turns i (s.reviewReasons i) := by
  unfold State.reviewReasons; exact setReasons_turns ..

/-! ### Loops over different sockets -/

/-- `t` is `s` but for other sockets, their lanes and the Report Queue: a state in which a loop over sockets comes to socket
`i`. -/
structure State.Beside (s : State) (i : SocketId) (t : State) : Prop where
  checked : s.CheckedTo t
  socket : t.socket i = s.socket i
  lanes : ∀ n, laneSocket n = i → t.lane n = s.lane n

theorem State.Beside.refl (s : State) (i : SocketId) : s.Beside i s := ⟨.refl s, rfl, fun _ _ => rfl⟩

theorem State.Local.beside {s t : State} {i j : SocketId} (h : s.Local i t) (hij : j ≠ i) : s.Beside j t :=
  ⟨h.checked, h.sockets j hij, fun n hn => h.lanes n (hn ▸ hij)⟩

theorem State.Beside.trans {s t u : State} {i : SocketId} (h : s.Beside i t) (h' : t.Beside i u) : s.Beside i u :=
  ⟨h.checked.trans h'.checked, h'.socket.trans h.socket, fun n hn => (h'.lanes n hn).trans (h.lanes n hn)⟩

/-- Socket `i` sees the same policy. -/
theorem State.Beside.policyOf {s t : State} {i : SocketId} (h : s.Beside i t) : t.policyOf i = s.policyOf i := by
  rw [State.policyOf, h.checked.policies, h.socket]; rfl

theorem State.Beside.switchRule {s t : State} {i : SocketId} (h : s.Beside i t) : t.switchRule i = s.switchRule i := by
  simp only [State.switchRule, h.socket, h.checked.zone]

section Loops

variable {α : Type} (key : α → SocketId) {act : α → State → State}

/-- A loop of moves of different sockets: each socket and its lanes are left as its own turn leaves them, taken in a state that
agrees with the first one about them, and the sockets without a turn stand. -/
structure State.Loops (s : State) (xs : List α) (act : α → State → State) (u : State) : Prop where
  checked : s.CheckedTo u
  others : ∀ i, i ∉ xs.map key → s.Beside i u
  turns : ∀ x ∈ xs, ∃ t, s.Beside (key x) t ∧ (act x t).Beside (key x) u

theorem forEach_loops (h : ∀ x (s : State), s.Local (key x) (act x s)) {xs : List α} (hd : (xs.map key).Nodup) (s : State) :
    s.Loops key xs act (forEach xs act s) := by
  induction xs generalizing s with
  | nil => exact ⟨.refl s, fun i _ => .refl s i, fun _ hx => nomatch hx⟩
  | cons x xs ih =>
    have hx : key x ∉ xs.map key := (List.nodup_cons.mp hd).1
    have hl := ih (List.nodup_cons.mp hd).2 (act x s)
    refine ⟨(h x s).checked.trans hl.checked, fun i hi => ?_, fun y hy => ?_⟩
    · have hne : i ≠ key x ∧ i ∉ xs.map key := by simpa using hi
      exact ((h x s).beside hne.1).trans (hl.others i hne.2)
    · rcases List.mem_cons.mp hy with rfl | hy
      · exact ⟨s, .refl s _, hl.others _ hx⟩
      · have hne : key y ≠ key x := fun e => hx (e ▸ List.mem_map_of_mem hy)
        obtain ⟨t, ht, hu⟩ := hl.turns y hy
        exact ⟨t, ((h x s).beside hne).trans ht, hu⟩

/-- The same for a loop in a free order. -/
theorem forEachFreely_loops (h : ∀ x (s : State), s.Local (key x) (act x s)) {xs : List α} (hd : (xs.map key).Nodup) (s : State) :
    s.Loops key xs act (forEachFreely xs act s) := by
  have hp := freely_perm xs s
  have hf : s.CheckedTo (freely xs s).2 := by unfold State.CheckedTo; rw [freely_state]
  have hsock : ∀ i, s.Beside i (freely xs s).2 := fun i =>
    ⟨hf, by rw [freely_state]; rfl, fun n _ => by rw [freely_state]; rfl⟩
  have hl := forEach_loops key h ((hp.map key).nodup_iff.mpr hd) (freely xs s).2
  refine ⟨hf.trans hl.checked, fun i hi => (hsock i).trans (hl.others i fun hm => hi ((hp.map key).mem_iff.mp hm)),
    fun x hx => ?_⟩
  obtain ⟨t, ht, hu⟩ := hl.turns x (hp.mem_iff.mpr hx)
  exact ⟨t, (hsock _).trans ht, hu⟩

/-- The records of a loop are the VERDICT records of its turns, in its order (R17). -/
theorem forEach_records (h : ∀ x (s : State), s.Turns (key x) (act x s)) {xs : List α} (hd : (xs.map key).Nodup) (s : State) :
    (forEach xs act s).reports =
      s.created (xs.filterMap fun x =>
        verdictOf (key x) (s.socket (key x)).state ((forEach xs act s).socket (key x)) s.runSeconds) := by
  induction xs generalizing s with
  | nil => rfl
  | cons x xs ih =>
    have hx : key x ∉ xs.map key := (List.nodup_cons.mp hd).1
    have hlast : (forEach xs act (act x s)).socket (key x) = (act x s).socket (key x) :=
      ((forEach_loops key (fun x s => (h x s).toLocal) (List.nodup_cons.mp hd).2 (act x s)).others _ hx).socket
    have hstates : ∀ y ∈ xs, (act x s).socket (key y) = s.socket (key y) := fun y hy =>
      (h x s).sockets _ fun e => hx (e ▸ List.mem_map_of_mem hy)
    have hcongr : ∀ u : State,
        (xs.filterMap fun y => verdictOf (key y) ((act x s).socket (key y)).state (u.socket (key y)) (act x s).runSeconds) =
          xs.filterMap fun y => verdictOf (key y) (s.socket (key y)).state (u.socket (key y)) s.runSeconds := fun u =>
      List.filterMap_congr fun y hy => by rw [hstates y hy, (h x s).checked.runSeconds]
    rw [forEach_cons, ih (List.nodup_cons.mp hd).2, created_append (h x s).records (h x s).checked.settings, hcongr,
      List.filterMap_cons, hlast]
    cases verdictOf (key x) (s.socket (key x)).state ((act x s).socket (key x)) s.runSeconds <;> rfl

end Loops

/-- In a loop over sockets each has its turn, -/
theorem State.Loops.socket {s u : State} {xs : List SocketId} {act : SocketId → State → State} (h : s.Loops id xs act u)
    {i : SocketId} (hi : i ∈ xs) : ∃ t, s.Beside i t ∧ (act i t).Beside i u := h.turns i hi

/-- and the others stand. -/
theorem State.Loops.other {s u : State} {xs : List SocketId} {act : SocketId → State → State} (h : s.Loops id xs act u)
    {i : SocketId} (hi : i ∉ xs) : s.Beside i u := h.others i (by rwa [List.map_id])

end Sys2Proof.Machine
end

/-! ## The socket operations of accounting and the checker, one socket each -/

section
namespace Sys2Proof.Machine

theorem State.Quiet.then {s t u : State} {i : SocketId} (h : s.Quiet i t) (h' : t.Turns i u) : s.Turns i u := by
  refine ⟨h.toLocal.trans h'.toLocal, ?_⟩
  rw [h'.records, h.checked.runSeconds, h.state,
    created_append (a := []) (by rw [h.reports]; rfl) h.checked.settings, List.nil_append]

/-! ### Lanes of a socket -/

@[simp] theorem laneSocket_primary (i : SocketId) : laneSocket (primaryLane i) = i := by
  simp only [laneSocket, primaryLane, Fin.ext_iff]; omega

@[simp] theorem laneSocket_secondary (i : SocketId) : laneSocket (secondaryLane i) = i := by
  simp only [laneSocket, secondaryLane, Fin.ext_iff]; omega

/-- A lane is the primary or the secondary lane of its socket (R140). -/
theorem lane_cases (n : LaneId) : n = primaryLane (laneSocket n) ∨ n = secondaryLane (laneSocket n) := by
  simp only [laneSocket, primaryLane, secondaryLane, Fin.ext_iff]; omega

/-- A switch change moves no more of a lane than its gate's raw count (R150). -/
theorem laneSwitched_cases (l : Lane) (was on : Bool) :
    l.switched was on = { l with gate := { l.gate with raw := (l.switched was on).gate.raw } } := by
  unfold Lane.switched; (repeat' split) <;> rfl

theorem placeHold?_lane (s : State) (i : SocketId) (h : Option Hold) (n : LaneId) :
    (s.placeHold? i h).lane n =
      { s.lane n with gate := { (s.lane n).gate with raw := ((s.placeHold? i h).lane n).gate.raw } } := by
  cases h with
  | none => rfl
  | some h =>
    simp only [State.placeHold?, State.placeHold, State.evaluateSwitch, evaluateSwitches_lane, State.updSocket_lane]
    split
    · rw [laneSwitched_cases]
    · rfl

theorem resetLanes_lane (s : State) (named : LaneId → Bool) (n : LaneId) :
    (s.resetLanes named).lane n =
      if named n then (s.lane n).resetState (n.val % 2 = 1) (s.socket (laneSocket n)).switch else s.lane n := by
  simp [State.resetLanes, State.lane]

theorem resetLanes_socket (s : State) (named : LaneId → Bool) (i : SocketId) :
    (s.resetLanes named).socket i = if named (secondaryLane i) then { s.socket i with estimate := none } else s.socket i := by
  simp [State.resetLanes, State.socket]

theorem resetLanes_quiet (s : State) (i : SocketId) : s.Quiet i (s.resetLanes fun n => laneSocket n == i) :=
  ⟨⟨rfl, fun j hj => by simp [resetLanes_socket, hj], fun n hn => by simp [resetLanes_lane, hn]⟩, rfl, by
    simp [resetLanes_socket]⟩

/-! ### Failing checks and window ends -/

theorem failingCheck_local (s : State) (f : Failing) : s.Local (laneSocket f.lane) (s.failingCheck f) := by
  unfold State.failingCheck
  dsimp only
  split
  · split
    · exact (updSocket_local ..).trans (report_local ..)
    · exact updSocket_local ..
  · exact .refl s _

/-- A failing check scores on an armed socket (R37), and moves no other mark. -/
theorem failingCheck_socket_marks (s : State) (f : Failing) :
    ((s.failingCheck f).socket (laneSocket f.lane)).marks =
      let k := s.socket (laneSocket f.lane)
      (if k.state.armed then { k with running := satSucc Config.countTop k.running } else k : Socket).marks := by
  unfold State.failingCheck
  dsimp only
  split
  · split <;> simp [Socket.marks]
  · rfl

@[simp] theorem failingCheck_lane (s : State) (f : Failing) (n : LaneId) : (s.failingCheck f).lane n = s.lane n := by
  unfold State.failingCheck
  dsimp only
  split
  · split <;> simp
  · rfl

/-- What the event of a PRBS window's end hands accounting (R147, R156). -/
def State.lockChanged (s : State) (n : LaneId) (event : Option LaneEvent) : State :=
  match event with
  | some .lockLost => (s.reportLane n .lockLost).setReasons (laneSocket n) fun r => { r with lock := true }
  | some event => (s.reportLane n event).reviewReasons (laneSocket n)
  | none => s

/-- What the event of a toggle window's end hands accounting (R149, R156). -/
def State.stuckChanged (s : State) (n : LaneId) (event : Option LaneEvent) : State :=
  match event with
  | some .stuckSet => (s.reportLane n .stuckSet).setReasons (laneSocket n) fun r => { r with stuck := true }
  | some event => (s.reportLane n event).reviewReasons (laneSocket n)
  | none => s

theorem endPrbsWindow_eq (s : State) (n : LaneId) :
    s.endPrbsWindow n =
      if (s.lane n).prbsWindowDue then
        (s.updLane n fun l => { l with prbs := (s.lane n).prbs.endWindow.1 }).lockChanged n (s.lane n).prbs.endWindow.2
      else s := by
  unfold State.endPrbsWindow State.lockChanged
  rfl

theorem endToggleWindow_eq (s : State) (n : LaneId) :
    s.endToggleWindow n =
      if (s.lane n).toggleWindowDue then
        (s.updLane n fun l => { l with watch := (s.lane n).watch.endWindow.1 }).stuckChanged n (s.lane n).watch.endWindow.2
      else s := by
  unfold State.endToggleWindow State.stuckChanged
  rfl

theorem lockChanged_local (s : State) (n : LaneId) (e : Option LaneEvent) : s.Local (laneSocket n) (s.lockChanged n e) := by
  unfold State.lockChanged
  split
  · exact (report_local ..).trans (setReasons_turns ..).toLocal
  · exact (report_local ..).trans (reviewReasons_turns ..).toLocal
  · exact .refl s _

theorem stuckChanged_local (s : State) (n : LaneId) (e : Option LaneEvent) : s.Local (laneSocket n) (s.stuckChanged n e) := by
  unfold State.stuckChanged
  split
  · exact (report_local ..).trans (setReasons_turns ..).toLocal
  · exact (report_local ..).trans (reviewReasons_turns ..).toLocal
  · exact .refl s _

@[simp] theorem lockChanged_lane (s : State) (n m : LaneId) (e : Option LaneEvent) : (s.lockChanged n e).lane m = s.lane m := by
  unfold State.lockChanged; split <;> simp [State.reportLane]

@[simp] theorem stuckChanged_lane (s : State) (n m : LaneId) (e : Option LaneEvent) : (s.stuckChanged n e).lane m = s.lane m := by
  unfold State.stuckChanged; split <;> simp [State.reportLane]

theorem endPrbsWindow_local (s : State) (n : LaneId) : s.Local (laneSocket n) (s.endPrbsWindow n) := by
  rw [endPrbsWindow_eq]
  split
  · exact (updLane_local ..).trans (lockChanged_local ..)
  · exact .refl s _

theorem endToggleWindow_local (s : State) (n : LaneId) : s.Local (laneSocket n) (s.endToggleWindow n) := by
  rw [endToggleWindow_eq]
  split
  · exact (updLane_local ..).trans (stuckChanged_local ..)
  · exact .refl s _

/-! ### The socket commands -/

/-- A socket as SOCKET_ARM leaves it before it starts (R7): cleared, with its lanes and so its estimate reset. -/
def Socket.armReset (k : Socket) (clear : Bool) : Socket := { k.armCleared clear with estimate := none }

/-- The state in which SOCKET_ARM starts a socket. -/
def State.armReset (s : State) (clear : Bool) (i : SocketId) : State :=
  (s.updSocket i (·.armCleared clear)).resetLanes fun n => laneSocket n == i

@[simp] theorem armReset_socket (s : State) (clear : Bool) (i : SocketId) :
    (s.armReset clear i).socket i = (s.socket i).armReset clear := by
  simp [State.armReset, resetLanes_socket, Socket.armReset]

theorem armReset_lane (s : State) (clear : Bool) (i : SocketId) {n : LaneId} (h : laneSocket n = i) :
    (s.armReset clear i).lane n = (s.lane n).resetState (n.val % 2 = 1) (s.socket i).switch := by
  simp [State.armReset, resetLanes_lane, h, Socket.armCleared]

theorem armReset_quiet (s : State) (clear : Bool) (i : SocketId) : s.Quiet i (s.armReset clear i) :=
  (updSocket_quiet s i _ rfl).trans (resetLanes_quiet ..)

theorem armSocket_eq (clear : Bool) (i : SocketId) (s : State) :
    s.armSocket clear i =
      if (s.socket i).state.armed then s
      else if ((s.socket i).armReset clear).targetMet then (s.armReset clear i).complete i
      else (s.armReset clear i).changeState i .running := by
  have h : s.armSocket clear i =
      if (s.socket i).state.armed then s
      else if ((s.armReset clear i).socket i).targetMet then (s.armReset clear i).complete i
      else (s.armReset clear i).changeState i .running := rfl
  rw [h, armReset_socket]

theorem armSocket_turns (clear : Bool) (i : SocketId) (s : State) : s.Turns i (s.armSocket clear i) := by
  rw [armSocket_eq]
  (repeat' split)
  · exact (State.Quiet.refl s i).turns
  · exact (armReset_quiet ..).then (complete_turns ..)
  · exact (armReset_quiet ..).changeState rfl

/-- What SOCKET_RELEASE takes from a socket (R8). -/
def Socket.released (k : Socket) : Socket :=
  { k with hold := if k.hold = some .fail ∨ k.hold = some .done then none else k.hold, reasons := {}, clean := 0 }

theorem releaseSocket_eq (i : SocketId) (s : State) :
    s.releaseSocket i = ((s.updSocket i Socket.released).evaluateSwitch i).changeState i .ready := rfl

theorem releaseSocket_turns (i : SocketId) (s : State) : s.Turns i (s.releaseSocket i) :=
  ((updSocket_quiet s i _ rfl).trans (evaluateSwitch_quiet ..)).changeState rfl

theorem releaseSocket_socket (i : SocketId) (s : State) :
    (s.releaseSocket i).socket i =
      ((s.socket i).released.switched ((s.updSocket i Socket.released).switchRule i)).toState .ready := by
  simp [releaseSocket_eq, changeState_socket_eq, evaluateSwitch_socket]

theorem restoreSocket_quiet (i : SocketId) (s : State) : s.Quiet i (s.restoreSocket i) := by
  unfold State.restoreSocket
  split
  · exact .refl s i
  · exact (updSocket_quiet s i _ rfl).trans (evaluateSwitch_quiet ..)

/-! ### Transfers (R40, R43, R44) -/

/-- A socket as the suspect and clean evaluation leaves it (R44). -/
def Socket.scored (k : Socket) (p : Policy) : Socket :=
  if p.suspectThreshold ≤ k.last then
    if k.reasons.score then { k with clean := 0 } else k.reasoned { k.reasons with score := true }
  else if k.reasons.score then
    if p.clearK ≤ k.clean + 1 then ({ k with clean := 0 } : Socket).reasoned { k.reasons with score := false }
    else { k with clean := k.clean + 1 }
  else k

theorem judgeScore_socket {s : State} {i : SocketId} (h : (s.socket i).state.armed = true) :
    (s.judgeScore i).socket i = (s.socket i).scored (s.policyOf i) := by
  unfold State.judgeScore Socket.scored
  dsimp only
  (repeat' split) <;> simp [setReasons_socket, h]

theorem judgeScore_turns (s : State) (i : SocketId) : s.Turns i (s.judgeScore i) := by
  have hc : ∀ f : Socket → Nat, s.Quiet i (s.updSocket i fun k => { k with clean := f k }) := fun f => updSocket_quiet s i _ rfl
  unfold State.judgeScore
  dsimp only
  (repeat' split)
  · exact (hc _).turns
  · exact setReasons_turns ..
  · exact (hc _).then (setReasons_turns ..)
  · exact (hc _).turns
  · exact (State.Quiet.refl s i).turns

theorem judge_turns (s : State) (i : SocketId) : s.Turns i (s.judge i) := by
  unfold State.judge
  split
  · exact finding_turns ..
  · exact judgeScore_turns ..

/-- The treatment of an armed socket at a transfer: its score moves, and the history fails it or its score is judged. -/
theorem transferSocket_armed {s : State} {i : SocketId} (h : (s.socket i).state.armed = true) :
    s.transferSocket i =
      if (s.policyOf i).failsHistory (s.socket i).transferred.history then
        (s.updSocket i Socket.transferred).finding i .score
      else (s.updSocket i Socket.transferred).judgeScore i := by
  have hp : (s.updSocket i Socket.transferred).policyOf i = s.policyOf i := by simp [State.policyOf, Socket.transferred]
  simp [State.transferSocket, State.judge, h, hp]

theorem transferSocket_turns (s : State) (i : SocketId) : s.Turns i (s.transferSocket i) := by
  unfold State.transferSocket
  split
  · exact (updSocket_quiet s i Socket.transferred rfl).then (judge_turns ..)
  · exact (updSocket_quiet s i _ rfl).turns

/-! ### A written SOCKET row (R4, R5) -/

theorem applyPopulated_local (s : State) (i : SocketId) : s.Local i (s.applyPopulated i) := by
  unfold State.applyPopulated
  dsimp only
  (repeat' split)
  · exact changeState_local ..
  · exact .refl s i
  · exact .refl s i
  · exact changeState_local ..

/-- The state that the move of populated gives (R4). -/
def Socket.populatedState (k : Socket) : SocketState :=
  if k.populated then (if k.state = .vacant then .ready else k.state) else if k.state.armed then k.state else .vacant

theorem applyPopulated_socket (s : State) (i : SocketId) :
    (s.applyPopulated i).socket i = (s.socket i).toState (s.socket i).populatedState := by
  unfold State.applyPopulated Socket.populatedState
  dsimp only
  (repeat' split) <;> simp [changeState_socket_eq, toState_same]

theorem testCompletion_socket (s : State) (i : SocketId) :
    (s.testCompletion i).socket i =
      if (s.socket i).state.armed && (s.socket i).targetMet then (s.complete i).socket i else s.socket i := by
  unfold State.testCompletion; split <;> rfl

theorem socketWritten_local (row : SocketId × RowWrite) (s : State) : s.Local row.1 (State.socketWritten row s) := by
  have hif : ∀ (b : Bool) (t u : State), t.Local row.1 u → t.Local row.1 (if b = true then u else t) := fun b t u h => by
    cases b
    · exact .refl t _
    · exact h
  exact (hif _ _ _ (applyPopulated_local ..)).trans
    ((hif _ _ _ (evaluateSwitch_quiet ..).toLocal).trans (hif _ _ _ (testCompletion_turns ..).toLocal))

end Sys2Proof.Machine
end

/-! ## Rules about one socket that every command keeps

`Lasting G` lists the moves that the operations make of a socket's marks; a rule that survives these survives every command
(`exec_each`). -/

section
namespace Sys2Proof.Machine

/-- Is a lane of the socket stuck? -/
def State.stuckAt (s : State) (i : SocketId) : Bool :=
  (s.lane (primaryLane i)).watch.stuck || (s.lane (secondaryLane i)).watch.stuck

/-- Does a lane of the socket stand in lost lock? -/
def State.lostAt (s : State) (i : SocketId) : Bool :=
  (s.lane (primaryLane i)).prbs.lockLost || (s.lane (secondaryLane i)).prbs.lockLost

/-- Every socket meets a rule about itself and what its lanes have (stuck, lost lock). -/
def State.Each (G : Socket → Bool → Bool → Prop) (s : State) : Prop := ∀ i, G (s.socket i) (s.stuckAt i) (s.lostAt i)

/-- A rule that looks at marks only and survives each move that an operation makes of them. -/
structure Lasting (G : Socket → Bool → Bool → Prop) : Prop where
  /-- It looks at the marks only. -/
  marks : ∀ {k k' a b}, G k a b → k'.marks = k.marks → G k' a b
  /-- A socket not armed looks at no lane. -/
  lanes : ∀ {k a b} (a' b'), G k a b → k.state.armed = false → G k a' b'
  /-- A socket leaves the armed states, or moves among the others. -/
  retired : ∀ {k a b} {new : SocketState}, G k a b → new.armed = false → G { k with state := new } a b
  /-- A failing check scores (R37). -/
  checked : ∀ {k a b}, G k a b → G { k with running := satSucc Config.countTop k.running } a b
  /-- A score is transferred (R40), or dropped (R41). -/
  transferred : ∀ {k a b}, G k a b → G k.transferred a b
  idle : ∀ {k a b}, G k a b → G { k with running := 0 } a b
  /-- An armed socket takes a reason set that follows its lanes as before (R12, R13), with a clean count only under SCORE (R44). -/
  reasoned : ∀ {k a b a' b'} {r : Reasons} {c : Nat}, G k a b → k.state.armed = true →
    (k.reasons.stuck = a → r.stuck = a') → (k.reasons.lock = b → r.lock = b') →
    ((k.reasons.score = false → k.clean = 0) → r.score = false → c = 0) →
    G { k with reasons := r, state := r.armedState, clean := c } a' b'
  /-- The clean count moves under SCORE (R44). -/
  clean : ∀ {k a b} (c), G k a b → k.reasons.score = true → G { k with clean := c } a b
  /-- Target, credit and fraction move to values in range, and the state to one that is not armed or, while the target is not met,
  not at all (R5, R33 to R35). -/
  valued : ∀ {k a b target credit fraction state}, G k a b →
    (k.InRange → credit ≤ Config.longTop ∧ fraction ≤ 255) → (state = k.state ∨ state.armed = false) →
    (({ k with target, credit, fraction } : Socket).targetMet = true → state.armed = false) →
    G { k with target, credit, fraction, state } a b
  /-- SOCKET_ARM, SOCKET_RELEASE and RUN_RESET clear a socket that is not armed (R7, R8, R19). -/
  armCleared : ∀ {k a b} (clear), G k a b → k.state.armed = false → G (k.armCleared clear) a b
  released : ∀ {k a b}, G k a b → k.state.armed = false → G { k with reasons := {}, clean := 0 } a b
  runCleared : ∀ {k a b}, G k a b → k.state.armed = false → G k.runCleared a b
  /-- A cleared socket starts, with its lanes reset (R7). -/
  started : ∀ {k a b}, G k a b → k.reasons = {} → k.clean = 0 → k.targetMet = false → G { k with state := .running } false false
  /-- A socket at power-on reset (R18). -/
  fresh : G {} false false

/-! ### From one socket to the state -/

variable {G : Socket → Bool → Bool → Prop}

theorem stuckAt_congr {s t : State} {i : SocketId} (h : ∀ n, laneSocket n = i → (t.lane n).marks = (s.lane n).marks) :
    t.stuckAt i = s.stuckAt i := by
  have hp := congrArg Prod.fst (h _ (laneSocket_primary i))
  have hq := congrArg Prod.fst (h _ (laneSocket_secondary i))
  simp only [Lane.marks] at hp hq
  simp only [State.stuckAt, hp, hq]

theorem lostAt_congr {s t : State} {i : SocketId} (h : ∀ n, laneSocket n = i → (t.lane n).marks = (s.lane n).marks) :
    t.lostAt i = s.lostAt i := by
  have hp := congrArg Prod.snd (h _ (laneSocket_primary i))
  have hq := congrArg Prod.snd (h _ (laneSocket_secondary i))
  simp only [Lane.marks] at hp hq
  simp only [State.lostAt, hp, hq]

namespace Lasting

variable (hG : Lasting G)
include hG

/-- A socket whose lanes keep their marks. -/
theorem at_socket {s t : State} {i : SocketId} {k : Socket} (h : G k (s.stuckAt i) (s.lostAt i))
    (hl : ∀ n, laneSocket n = i → (t.lane n).marks = (s.lane n).marks) (hk : (t.socket i).marks = k.marks) :
    G (t.socket i) (t.stuckAt i) (t.lostAt i) := by
  rw [stuckAt_congr hl, lostAt_congr hl]
  exact hG.marks h hk

/-- A move that leaves the marks. -/
theorem of_marks {s t : State} (hs : s.Each G) (h : t.marks = s.marks) : t.Each G := fun i =>
  hG.at_socket (hs i) (fun n _ => State.marks_lane h n) (State.marks_socket h i)

/-- A socket that another one's turn leaves alone. -/
theorem of_beside {s t : State} {i : SocketId} (h : s.Beside i t) (hs : G (s.socket i) (s.stuckAt i) (s.lostAt i)) :
    G (t.socket i) (t.stuckAt i) (t.lostAt i) :=
  hG.at_socket hs (fun n hn => congrArg Lane.marks (h.lanes n hn)) (congrArg Socket.marks h.socket)

/-- A move of one socket. -/
theorem of_local {s t : State} {i : SocketId} (h : s.Local i t) (hs : s.Each G)
    (hi : G (s.socket i) (s.stuckAt i) (s.lostAt i) → G (t.socket i) (t.stuckAt i) (t.lostAt i)) : t.Each G := fun j => by
  by_cases hj : j = i
  · subst hj; exact hi (hs j)
  · exact hG.of_beside (h.beside hj) (hs j)

/-! ### Findings, checks and window ends -/

/-- A finding fails an armed socket (R14). -/
theorem finding {s : State} (hs : s.Each G) (i : SocketId) (c : FailCause) : (s.finding i c).Each G := by
  have h := of_marks hG hs (placeHold?_marks s i (c.hold (s.policyOf i).isolateOnFail))
  simp only [State.finding]
  split
  · refine hG.of_local ((updSocket_local ..).trans (changeState_local ..)) h fun hi => ?_
    exact hG.at_socket (s := s.placeHold? i (c.hold (s.policyOf i).isolateOnFail)) (hG.retired (new := .failed) hi rfl)
      (fun n _ => by simp) (by simp [changeState_socket_eq, toState_marks]; rfl)
  · exact h

theorem failingCheck {s : State} (hs : s.Each G) (f : Failing) : (s.failingCheck f).Each G :=
  hG.of_local (failingCheck_local s f) hs fun hi => by
    have hk := failingCheck_socket_marks s f
    cases ha : (s.socket (laneSocket f.lane)).state.armed <;> simp only [ha] at hk
    · exact hG.at_socket hi (fun n _ => by simp) hk
    · exact hG.at_socket (hG.checked hi) (fun n _ => by simp) hk

/-- An armed socket takes a reason set that follows what its lanes have become; another one keeps its own. -/
theorem setReasons {t : State} {i : SocketId} {k : Socket} {a b : Bool} {f : Reasons → Reasons} (hi : G k a b)
    (hk : t.socket i = k) (hs : k.reasons.stuck = a → (f k.reasons).stuck = t.stuckAt i)
    (hl : k.reasons.lock = b → (f k.reasons).lock = t.lostAt i) (hc : (f k.reasons).score = k.reasons.score) :
    G ((t.setReasons i f).socket i) ((t.setReasons i f).stuckAt i) ((t.setReasons i f).lostAt i) := by
  cases ha : k.state.armed with
  | false =>
    refine hG.at_socket (s := t) (hG.lanes _ _ hi ha) (fun n _ => by simp) ?_
    simp [setReasons_socket, hk, ha]
  | true =>
    refine hG.at_socket (s := t) (hG.reasoned (c := k.clean) hi ha hs hl fun h hr => h (hc ▸ hr)) (fun n _ => by simp) ?_
    simp [setReasons_socket, hk, ha, Socket.reasoned, toState_marks]

end Lasting

end Sys2Proof.Machine
end

section
namespace Sys2Proof.Machine

/-! ### Window ends and reviews -/

/-- A PRBS window's end loses a lock, gains one, or leaves the lock and its loss (R147). -/
theorem prbsEndWindow_cases (p : PrbsCheck) :
    (p.endWindow.2 = none ∧ p.endWindow.1.lockLost = p.lockLost) ∨
    (p.endWindow.2 = some .lockLost ∧ p.endWindow.1.lockLost = true) ∨
    (p.endWindow.2 = some .lockGained ∧ p.endWindow.1.lockLost = false) := by
  unfold PrbsCheck.endWindow
  dsimp only
  (repeat' split) <;> simp

/-- A toggle window's end sets STUCK, clears it, or leaves it (R149). -/
theorem toggleEndWindow_cases (w : ToggleWatch) :
    (w.endWindow.2 = none ∧ w.endWindow.1.stuck = w.stuck) ∨
    (w.endWindow.2 = some .stuckSet ∧ w.endWindow.1.stuck = true) ∨
    (w.endWindow.2 = some .stuckClear ∧ w.endWindow.1.stuck = false) := by
  unfold ToggleWatch.endWindow
  dsimp only
  (repeat' split) <;> simp

theorem stuckAt_of_lane {s : State} {n : LaneId} (h : (s.lane n).watch.stuck = true) : s.stuckAt (laneSocket n) = true := by
  rcases lane_cases n with e | e <;> rw [e] at h <;> simp [State.stuckAt, h]

theorem lostAt_of_lane {s : State} {n : LaneId} (h : (s.lane n).prbs.lockLost = true) : s.lostAt (laneSocket n) = true := by
  rcases lane_cases n with e | e <;> rw [e] at h <;> simp [State.lostAt, h]

theorem stuckAt_mono {s t : State} {i : SocketId}
    (h : ∀ n, laneSocket n = i → (t.lane n).watch.stuck = true → (s.lane n).watch.stuck = true) :
    t.stuckAt i = true → s.stuckAt i = true := by
  simp only [State.stuckAt, Bool.or_eq_true]
  exact Or.imp (h _ (laneSocket_primary i)) (h _ (laneSocket_secondary i))

theorem lostAt_mono {s t : State} {i : SocketId}
    (h : ∀ n, laneSocket n = i → (t.lane n).prbs.lockLost = true → (s.lane n).prbs.lockLost = true) :
    t.lostAt i = true → s.lostAt i = true := by
  simp only [State.lostAt, Bool.or_eq_true]
  exact Or.imp (h _ (laneSocket_primary i)) (h _ (laneSocket_secondary i))

variable {G : Socket → Bool → Bool → Prop}

namespace Lasting

variable (hG : Lasting G)
include hG

/-- A review leaves an armed socket the reasons that a lane still gives, where no lane has become stuck or lost its lock (R13). -/
theorem reviewReasons {t : State} {i : SocketId} {k : Socket} {a b : Bool} (hi : G k a b) (hk : t.socket i = k)
    (hs : t.stuckAt i = true → a = true) (hl : t.lostAt i = true → b = true) :
    G ((t.reviewReasons i).socket i) ((t.reviewReasons i).stuckAt i) ((t.reviewReasons i).lostAt i) := by
  have hand : ∀ {x y : Bool}, (y = true → x = true) → (x && y) = y := fun {x y} h => by cases x <;> cases y <;> simp_all
  unfold State.reviewReasons
  refine hG.setReasons hi hk (fun h => ?_) (fun h => ?_) rfl
  · exact hand (x := k.reasons.stuck) (y := t.stuckAt i) fun ht => h.trans (hs ht)
  · exact hand (x := k.reasons.lock) (y := t.lostAt i) fun ht => h.trans (hl ht)

/-- A lane's PRBS checker moves, with the event of its lock (R147, R156). -/
theorem lockChanged {s : State} (hs : s.Each G) (n : LaneId) {p : PrbsCheck} {e : Option LaneEvent}
    (h : (e = none ∧ p.lockLost = (s.lane n).prbs.lockLost) ∨ (e = some .lockLost ∧ p.lockLost = true) ∨
      (e = some .lockGained ∧ p.lockLost = false)) :
    ((s.updLane n fun l => { l with prbs := p }).lockChanged n e).Each G := by
  have hlane : ∀ (t : State) (v : LaneEvent), t = (s.updLane n fun l => { l with prbs := p }).reportLane n v →
      ∀ m, t.lane m = if n = m then { s.lane n with prbs := p } else s.lane m := fun t v ht m => by
    rw [ht, State.reportLane, report_lane, State.updLane_lane]
  have hstuck : ∀ (t : State) (v : LaneEvent), t = (s.updLane n fun l => { l with prbs := p }).reportLane n v →
      t.stuckAt (laneSocket n) = s.stuckAt (laneSocket n) := fun t v ht => by
    have hw : ∀ m, (t.lane m).watch = (s.lane m).watch := fun m => by rw [hlane t v ht]; split <;> simp_all
    simp only [State.stuckAt, hw]
  rcases h with ⟨rfl, hp⟩ | ⟨rfl, hp⟩ | ⟨rfl, hp⟩
  · exact hG.of_marks hs (updLane_marks s n _ (by simp [Lane.marks, hp]))
  · refine hG.of_local ((updLane_local ..).trans (lockChanged_local ..)) hs fun hi => hG.setReasons hi
      (by simp [State.reportLane]) (fun h => (hstuck _ _ rfl).symm ▸ h) (fun _ => ?_) rfl
    exact (lostAt_of_lane (by rw [hlane _ _ rfl, if_pos rfl]; exact hp)).symm
  · refine hG.of_local ((updLane_local ..).trans (lockChanged_local ..)) hs fun hi => hG.reviewReasons hi
      (by simp [State.reportLane]) (fun h => hstuck _ _ rfl ▸ h) (lostAt_mono fun m _ h => ?_)
    rw [hlane _ _ rfl] at h
    split at h <;> simp_all

/-- A lane's toggle watch moves, with the event of its STUCK (R149, R156). -/
theorem stuckChanged {s : State} (hs : s.Each G) (n : LaneId) {w : ToggleWatch} {e : Option LaneEvent}
    (h : (e = none ∧ w.stuck = (s.lane n).watch.stuck) ∨ (e = some .stuckSet ∧ w.stuck = true) ∨
      (e = some .stuckClear ∧ w.stuck = false)) :
    ((s.updLane n fun l => { l with watch := w }).stuckChanged n e).Each G := by
  have hlane : ∀ (t : State) (v : LaneEvent), t = (s.updLane n fun l => { l with watch := w }).reportLane n v →
      ∀ m, t.lane m = if n = m then { s.lane n with watch := w } else s.lane m := fun t v ht m => by
    rw [ht, State.reportLane, report_lane, State.updLane_lane]
  have hlost : ∀ (t : State) (v : LaneEvent), t = (s.updLane n fun l => { l with watch := w }).reportLane n v →
      t.lostAt (laneSocket n) = s.lostAt (laneSocket n) := fun t v ht => by
    have hp : ∀ m, (t.lane m).prbs = (s.lane m).prbs := fun m => by rw [hlane t v ht]; split <;> simp_all
    simp only [State.lostAt, hp]
  rcases h with ⟨rfl, hw⟩ | ⟨rfl, hw⟩ | ⟨rfl, hw⟩
  · exact hG.of_marks hs (updLane_marks s n _ (by simp [Lane.marks, hw]))
  · refine hG.of_local ((updLane_local ..).trans (stuckChanged_local ..)) hs fun hi => hG.setReasons hi
      (by simp [State.reportLane]) (fun _ => ?_) (fun h => (hlost _ _ rfl).symm ▸ h) rfl
    exact (stuckAt_of_lane (by rw [hlane _ _ rfl, if_pos rfl]; exact hw)).symm
  · refine hG.of_local ((updLane_local ..).trans (stuckChanged_local ..)) hs fun hi => hG.reviewReasons hi
      (by simp [State.reportLane]) (stuckAt_mono fun m _ h => ?_) (fun h => hlost _ _ rfl ▸ h)
    rw [hlane _ _ rfl] at h
    split at h <;> simp_all

theorem endPrbsWindow {s : State} (hs : s.Each G) (n : LaneId) : (s.endPrbsWindow n).Each G := by
  rw [endPrbsWindow_eq]
  split
  · exact hG.lockChanged hs n (prbsEndWindow_cases _)
  · exact hs

theorem endToggleWindow {s : State} (hs : s.Each G) (n : LaneId) : (s.endToggleWindow n).Each G := by
  rw [endToggleWindow_eq]
  split
  · exact hG.stuckChanged hs n (toggleEndWindow_cases _)
  · exact hs

end Lasting

end Sys2Proof.Machine
end

/-! ## Written rows, RUN_RESET and completion, as both the invariants and the commands' statements use them -/

section
namespace Sys2Proof.Machine

/-! ### Completion -/

@[simp] theorem complete_lane_marks (s : State) (i : SocketId) (n : LaneId) : ((s.complete i).lane n).marks = (s.lane n).marks := by
  rw [State.complete, changeState_lane, placeHold?_lane_marks]

theorem complete_socket_marks (s : State) (i : SocketId) :
    ((s.complete i).socket i).marks = ({ s.socket i with state := .complete } : Socket).marks := by
  rw [complete_socket, toState_marks, placeHold?_cases]; rfl

@[simp] theorem testCompletion_lane_marks (s : State) (i : SocketId) (n : LaneId) :
    ((s.testCompletion i).lane n).marks = (s.lane n).marks := by
  unfold State.testCompletion; split <;> simp

theorem testCompletion_socket_marks (s : State) (i : SocketId) :
    ((s.testCompletion i).socket i).marks =
      ({ s.socket i with
        state := if (s.socket i).state.armed && (s.socket i).targetMet then .complete else (s.socket i).state } : Socket).marks := by
  rw [testCompletion_socket]
  split
  · exact complete_socket_marks s i
  · rfl

/-! ### Rows written to a bank (R182, R183) -/

/-- What every written field keeps, a row's write keeps. -/
theorem apply_keeps {α : Type} {P : α → Prop} {f : Nat → Written → α → α} {w : RowWrite}
    (h : ∀ nv ∈ w, ∀ r, P r → P (f nv.1 nv.2 r)) {row : α} (hr : P row) : P (w.apply f row) := by
  unfold RowWrite.apply
  induction w generalizing row with
  | nil => exact hr
  | cons nv w ih => exact ih (fun x hx => h x (List.mem_cons_of_mem nv hx)) (h nv List.mem_cons_self row hr)

theorem not_selects {w : RowWrite} {n : Nat} (h : w.selects n = false) : ∀ nv ∈ w, nv.1 ≠ n := by
  simpa [RowWrite.selects] using h

/-- A written SOCKET row keeps its read-only fields (R2). -/
theorem socketPut_cases (w : RowWrite) (k : Socket) :
    w.apply Socket.put k =
      { k with
        populated := (w.apply Socket.put k).populated
        zone := (w.apply Socket.put k).zone
        policy := (w.apply Socket.put k).policy
        target := (w.apply Socket.put k).target
        tjOffset := (w.apply Socket.put k).tjOffset
        tjSlope := (w.apply Socket.put k).tjSlope } :=
  apply_keeps
    (P := fun r : Socket => r = { k with
      populated := r.populated, zone := r.zone, policy := r.policy
      target := r.target, tjOffset := r.tjOffset, tjSlope := r.tjSlope })
    (fun nv _ r hr => by unfold Socket.put; rw [hr]; split <;> rfl) rfl

theorem socketPut_target {w : RowWrite} (h : w.selects 3 = false) (k : Socket) : (w.apply Socket.put k).target = k.target :=
  apply_keeps (P := fun r : Socket => r.target = k.target)
    (fun nv hnv r hr => by have := not_selects h nv hnv; unfold Socket.put; split <;> simp_all) rfl

/-- A written bank holds in each row what its one write makes of it. -/
theorem writeRows_get {n : Nat} {α : Type} {f : RowWrite → α → α} {rows : List (Fin n × RowWrite)}
    (hd : (rows.map Prod.fst).Nodup) (t : Table n α) :
    (∀ i, i ∉ rows.map Prod.fst → (writeRows rows f t).get i = t.get i) ∧
      ∀ row ∈ rows, (writeRows rows f t).get row.1 = f row.2 (t.get row.1) := by
  induction rows generalizing t with
  | nil => exact ⟨fun _ _ => rfl, fun _ h => nomatch h⟩
  | cons x xs ih =>
    obtain ⟨hx, hd⟩ := List.nodup_cons.mp hd
    obtain ⟨hout, hin⟩ := ih hd (t.upd x.1 (f x.2))
    refine ⟨fun i hi => ?_, fun row hrow => ?_⟩
    · obtain ⟨hne, hi⟩ : i ≠ x.1 ∧ i ∉ xs.map Prod.fst := by simpa using hi
      exact (hout i hi).trans (by rw [Table.get_upd, if_neg hne.symm])
    · rcases List.mem_cons.mp hrow with rfl | hrow
      · exact (hout _ hx).trans (Table.get_upd_same ..)
      · have hne : x.1 ≠ row.1 := fun e => hx (e ▸ List.mem_map_of_mem hrow)
        exact (hin row hrow).trans (by rw [Table.get_upd, if_neg hne])

/-! ### The rows that a TBL_WRITE names (R182) -/

theorem splitRows_length {n : Nat} {fields : List (Nat × FieldKind)} {bs : List Byte}
    {raw : List (List (Nat × FieldKind × List Byte))} (h : splitRows n fields bs = some raw) : raw.length = n := by
  induction n generalizing bs raw with
  | zero =>
    unfold splitRows at h
    split at h <;> simp_all
  | succ n ih =>
    unfold splitRows at h
    split at h
    · simp at h
    · obtain ⟨r, hr, rfl⟩ := Option.map_eq_some_iff.mp h
      rw [List.length_cons, ih hr]

theorem readRows_length {raw : List (List (Nat × FieldKind × List Byte))} {rows : List RowWrite}
    (h : readRows raw = some rows) : rows.length = raw.length := by
  induction raw generalizing rows with
  | nil => simp_all [readRows]
  | cons r raw ih =>
    unfold readRows at h
    split at h
    · simp at h
    · obtain ⟨r, hr, rfl⟩ := Option.map_eq_some_iff.mp h
      rw [List.length_cons, List.length_cons, ih hr]

theorem numberRows_fst (first : Nat) (rows : List RowWrite) :
    (numberRows first rows).map Prod.fst = (List.range rows.length).map (first + ·) := by
  apply List.ext_getElem <;> simp [numberRows]

/-- The rows of an accepted write are different rows of the table. -/
theorem checkWrite_rows {table first count : Byte} {mask : BitVec 64} {values : List Byte} {rows : List (Nat × RowWrite)}
    (h : checkWrite table first count mask values = .ok rows) :
    (rows.map Prod.fst).Nodup ∧ ∀ row ∈ rows, row.1 < tableRows table.toNat := by
  unfold checkWrite at h
  dsimp only at h
  split at h
  · simp at h
  split at h
  · simp at h
  split at h
  · simp at h
  rename_i hin
  split at h
  · simp at h
  split at h
  · simp at h
  split at h
  · simp at h
  rename_i raw hraw
  split at h
  · simp at h
  rename_i rws hrws
  obtain rfl := Except.ok.inj h
  have hlen : rws.length = count.toNat := (readRows_length hrws).trans (splitRows_length hraw)
  have hin : first.toNat + count.toNat ≤ tableRows table.toNat := by
    simp only [inTable, Bool.not_eq_true, Bool.not_eq_false', Bool.and_eq_true, decide_eq_true_eq] at hin
    exact hin.1.1.2
  have hfst := numberRows_fst first.toNat rws
  refine ⟨?_, fun row hrow => ?_⟩
  · rw [hfst]
    exact List.nodup_range.map fun a b e => Nat.add_left_cancel e
  · have hm : row.1 ∈ (numberRows first.toNat rws).map Prod.fst := List.mem_map_of_mem hrow
    rw [hfst] at hm
    obtain ⟨k, hk, e⟩ := List.mem_map.mp hm
    have := List.mem_range.mp hk
    omega

/-- As members of the bank the rows are different too. -/
theorem rowsOf_nodup {n : Nat} [NeZero n] {rows : List (Nat × RowWrite)} (hd : (rows.map Prod.fst).Nodup)
    (hn : ∀ row ∈ rows, row.1 < n) : ((rowsOf n rows).map Prod.fst).Nodup := by
  have e : (rowsOf n rows).map Prod.fst = (rows.map Prod.fst).map (Fin.ofNat n) := by simp [rowsOf]
  rw [e]
  refine hd.map_on fun a ha b hb hab => ?_
  obtain ⟨x, hx, rfl⟩ := List.mem_map.mp ha
  obtain ⟨y, hy, rfl⟩ := List.mem_map.mp hb
  simpa [Fin.ext_iff, Nat.mod_eq_of_lt (hn x hx), Nat.mod_eq_of_lt (hn y hy)] using hab

/-! ### RUN_RESET on the socket side (R19) -/

/-- Two things done in an order the spec leaves open are done in one of the two orders. -/
theorem forEachFreely_pair {α : Type} (a b : α) (f : α → State → State) (s : State) :
    ∃ n, forEachFreely [a, b] f s = f b (f a { s with freeIndex := n }) ∨
      forEachFreely [a, b] f s = f a (f b { s with freeIndex := n }) := by
  refine ⟨(freely [a, b] s).2.freeIndex, ?_⟩
  have hs := freely_state [a, b] s
  have hp : (freely [a, b] s).1 = [a, b] ∨ (freely [a, b] s).1 = [b, a] := by
    have := freely_perm [a, b] s
    rcases List.perm_pair.mp this with h | h <;> simp [h]
  unfold forEachFreely
  rcases hp with hp | hp
  · left; dsimp only; rw [hp, hs]; rfl
  · right; dsimp only; rw [hp, hs]; rfl

theorem judged_nodup (s : State) : (s.judged.map id).Nodup := by
  rw [List.map_id]; exact (List.nodup_finRange 32).filter _

theorem mem_judged {s : State} {i : SocketId} : i ∈ s.judged ↔ (s.socket i).state.armed = true := by
  simp [State.judged, allSockets]

/-- The VERDICT part of RUN_RESET takes each armed socket to READY (R19), and moves no lane. -/
theorem verdictsRun_loops (s : State) :
    s.Loops id s.judged (fun i s => s.changeState i .ready) (SocketReset.verdicts.run s) :=
  forEach_loops id (fun i s => changeState_local s i .ready none) (judged_nodup s) s

theorem verdictsRun_socket (s : State) (i : SocketId) :
    (SocketReset.verdicts.run s).socket i =
      if (s.socket i).state.armed then (s.socket i).toState .ready else s.socket i := by
  split <;> rename_i h
  · obtain ⟨t, ht, hu⟩ := (verdictsRun_loops s).socket (mem_judged.mpr h)
    rw [hu.socket, changeState_socket_eq, if_pos rfl, ht.socket]
  · exact ((verdictsRun_loops s).other (mt mem_judged.mp h)).socket

theorem verdictsRun_lane (s : State) (n : LaneId) : (SocketReset.verdicts.run s).lane n = s.lane n :=
  forEach_keeps (P := fun t => t.lane n = s.lane n) (fun i _ t ht => (changeState_lane t i .ready none n).trans ht) rfl

/-- Accounting's part of RUN_RESET clears every socket and takes the armed ones to READY, whichever comes first (R19; log 20). -/
theorem resetAccounting_socket (s : State) (i : SocketId) :
    s.resetAccounting.socket i =
      { (s.socket i).runCleared with
        state := if (s.socket i).state.armed then .ready else (s.socket i).state } := by
  obtain ⟨n, h | h⟩ := forEachFreely_pair SocketReset.verdicts SocketReset.clear SocketReset.run s
  · have e : s.resetAccounting.socket i = ((SocketReset.verdicts.run { s with freeIndex := n }).socket i).runCleared := by
      simp [State.resetAccounting, h, SocketReset.run]
    rw [e, verdictsRun_socket]
    change (if (s.socket i).state.armed then (s.socket i).toState .ready else s.socket i).runCleared = _
    split <;> rfl
  · have e : s.resetAccounting.socket i =
        (SocketReset.verdicts.run (SocketReset.clear.run { s with freeIndex := n })).socket i := by
      simp only [State.resetAccounting, h]; rfl
    have hc : (SocketReset.clear.run { s with freeIndex := n }).socket i = (s.socket i).runCleared :=
      State.setSockets_socket ..
    rw [e, verdictsRun_socket, hc]
    change (if (s.socket i).state.armed then _ else _) = _
    split <;> rfl

theorem resetAccounting_lane (s : State) (n : LaneId) : s.resetAccounting.lane n = s.lane n := by
  obtain ⟨m, h | h⟩ := forEachFreely_pair SocketReset.verdicts SocketReset.clear SocketReset.run s
  · simp only [State.resetAccounting, h]
    exact verdictsRun_lane { s with freeIndex := m } n
  · simp only [State.resetAccounting, h]
    exact verdictsRun_lane (SocketReset.clear.run { s with freeIndex := m }) n

end Sys2Proof.Machine
end

section
namespace Sys2Proof.Machine

theorem accrue_state (k : Socket) (p : Nat) : (k.accrue p).state = k.state := by
  unfold Socket.accrue; dsimp only; split <;> rfl

/-- An accrual moves credit and fraction, to values in range (R33, R34). -/
theorem accrue_cases (k : Socket) (p : Nat) :
    k.accrue p = { k with credit := (k.accrue p).credit, fraction := (k.accrue p).fraction } := by
  unfold Socket.accrue; dsimp only; split <;> rfl

theorem accrue_inRange (k : Socket) (p : Nat) : (k.accrue p).credit ≤ Config.longTop ∧ (k.accrue p).fraction ≤ 255 := by
  unfold Socket.accrue; dsimp only
  split
  · exact ⟨Nat.le_refl _, Nat.zero_le _⟩
  · dsimp only; omega

theorem accrues_armed {s : State} {i : SocketId} (h : s.accrues i = true) : (s.socket i).state.armed = true := by
  simp only [State.accrues, State.meetsConditions, Bool.and_eq_true] at h
  exact h.1.2.1.1.1.1.1

/-- The credits of an accrual pass, before the completions (R25, R33). -/
def State.accrued (s : State) : State :=
  s.setSockets fun i => if s.accrues i then (s.socket i).accrue (s.stressProduct i) else s.socket i

/-- The sockets that an accrual pass completes (R35). -/
def State.completing (s : State) : List SocketId :=
  (allSockets.filter fun i => s.accrues i).filter fun i => (s.accrued.socket i).targetMet

theorem accrued_socket (s : State) (i : SocketId) :
    s.accrued.socket i = if s.accrues i then (s.socket i).accrue (s.stressProduct i) else s.socket i := by
  simp [State.accrued]

theorem mem_completing {s : State} {i : SocketId} :
    i ∈ s.completing ↔ s.accrues i = true ∧ (s.accrued.socket i).targetMet = true := by
  simp [State.completing, allSockets, and_comm]

theorem accrue_loops (s : State) : s.accrued.Loops id s.completing (fun i t => t.testCompletion i) s.accrue :=
  forEachFreely_loops id (fun i t => (testCompletion_turns t i).toLocal)
    (by rw [List.map_id]; exact ((List.nodup_finRange 32).filter _).filter _) _

theorem cycle_marks (l : Lane) (n : LaneId) (sample : Bool) (c : CycleWords) : (l.cycle n sample c).1.marks = l.marks := by
  have hw : ∀ (w : ToggleWatch) (kind : EdgeKind) (v : Bool), (w.cycle kind v).stuck = w.stuck := fun _ _ _ => rfl
  have hp : ∀ (p : PrbsCheck) (poly : Polynomial) (b : Bool), (p.cycle poly n b c).1.lockLost = p.lockLost := fun p poly b => by
    unfold PrbsCheck.cycle; dsimp only; (repeat' split) <;> rfl
  unfold Lane.cycle
  dsimp only
  (repeat' split) <;> simp [Lane.marks, hw, hp]

variable {G : Socket → Bool → Bool → Prop}

namespace Lasting

variable (hG : Lasting G)
include hG

theorem updSocket {s : State} (hs : s.Each G) (i : SocketId) (f : Socket → Socket)
    (h : ∀ {a b}, G (s.socket i) a b → G (f (s.socket i)) a b) : (s.updSocket i f).Each G :=
  hG.of_local (updSocket_local s i f) hs fun hi =>
    hG.at_socket (h hi) (fun _ _ => rfl) (congrArg Socket.marks (State.updSocket_socket_same ..))

/-! ### Loops and free choices -/

omit hG in
theorem forEach {α : Type} {xs : List α} {f : α → State → State} (hf : ∀ x (s : State), s.Each G → (f x s).Each G) {s : State}
    (hs : s.Each G) : (forEach xs f s).Each G :=
  forEach_keeps (fun x _ => hf x) hs

omit hG in
theorem forEachFreely {α : Type} {xs : List α} {f : α → State → State} (hf : ∀ x (s : State), s.Each G → (f x s).Each G)
    {s : State} (hs : s.Each G) : (forEachFreely xs f s).Each G :=
  forEachFreely_keeps (fun _ _ h => h) (fun x _ => hf x) hs

/-! ### Accounting -/

/-- SCORE enters a reason set, or leaves it with a clean count of 0 (R44). -/
theorem setScore {s : State} (hs : s.Each G) (i : SocketId) {score : Bool} (h : score = true ∨ (s.socket i).clean = 0) :
    (s.setReasons i fun r => { r with score }).Each G :=
  hG.of_local (setReasons_turns ..).toLocal hs fun hi => by
    cases ha : (s.socket i).state.armed with
    | false => exact hG.at_socket hi (fun n _ => by simp) (by simp [setReasons_socket, ha])
    | true =>
      refine hG.at_socket (hG.reasoned (r := { (s.socket i).reasons with score }) (c := (s.socket i).clean) hi ha id id fun _ hr => ?_)
        (fun n _ => by simp) (by simp [setReasons_socket, ha, Socket.reasoned, toState_marks])
      exact h.resolve_left fun hs => by simp_all

theorem judgeScore {s : State} (hs : s.Each G) (i : SocketId) : (s.judgeScore i).Each G := by
  have hc : ∀ f : Socket → Nat, (s.socket i).reasons.score = true → (s.updSocket i fun k => { k with clean := f k }).Each G :=
    fun f h => hG.updSocket hs i _ fun hi => hG.clean _ hi h
  unfold State.judgeScore
  dsimp only
  (repeat' split)
  · exact hc _ ‹_›
  · exact hG.setScore hs i (.inl rfl)
  · exact hG.setScore (hc (fun _ => 0) ‹_›) i (.inr (by simp))
  · exact hc (fun k => k.clean + 1) ‹_›
  · exact hs

theorem transferSocket {s : State} (hs : s.Each G) (i : SocketId) : (s.transferSocket i).Each G := by
  have ht := hG.updSocket hs i Socket.transferred hG.transferred
  unfold State.transferSocket State.judge
  (repeat' split)
  · exact hG.finding ht i .score
  · exact hG.judgeScore ht i
  · exact hG.updSocket hs i _ hG.idle

theorem transfer {s : State} (hs : s.Each G) : s.transfer.Each G := by
  have h := Lasting.forEach (xs := allSockets) (fun i (s : State) hs => hG.transferSocket hs i)
    (s := { s with transferNumber := satSucc Config.longTop s.transferNumber }) hs
  unfold State.transfer
  dsimp only
  split
  · exact h
  · exact hG.of_marks h (report_marks ..)

theorem accrue {s : State} (hs : s.Each G) : s.accrue.Each G := fun i => by
  have hi := hs i
  have hr := accrue_inRange (s.socket i) (s.stressProduct i)
  have hl : ∀ n, (s.accrued.lane n).marks = (s.lane n).marks := fun _ => rfl
  by_cases hm : i ∈ s.completing
  · obtain ⟨ha, hmet⟩ := mem_completing.mp hm
    obtain ⟨t, ht, hu⟩ := (accrue_loops s).socket hm
    have hk : t.socket i = (s.socket i).accrue (s.stressProduct i) := ht.socket.trans (by rw [accrued_socket, if_pos ha])
    have hmet' : ((s.socket i).accrue (s.stressProduct i)).targetMet = true := by rwa [accrued_socket, if_pos ha] at hmet
    refine hG.at_socket (hG.valued (state := .complete) (target := (s.socket i).target) hi (fun _ => hr) (.inr rfl) fun _ => rfl)
      (fun n hn => by rw [hu.lanes n hn, testCompletion_lane_marks, ht.lanes n hn, hl]) ?_
    rw [hu.socket, testCompletion_socket_marks, hk, accrue_state, accrues_armed ha, hmet', accrue_cases]
    rfl
  · have hb := (accrue_loops s).other hm
    refine hG.at_socket (s := s) (k := s.accrued.socket i) ?_ (fun n hn => by rw [hb.lanes n hn, hl]) (by rw [hb.socket])
    rw [accrued_socket]
    split <;> rename_i ha
    · have hmet : ((s.socket i).accrue (s.stressProduct i)).targetMet = false := by
        have := mt (fun h => mem_completing.mpr ⟨ha, h⟩) hm
        rwa [accrued_socket, if_pos ha, Bool.not_eq_true] at this
      refine hG.marks (hG.valued (state := (s.socket i).state) (target := (s.socket i).target) hi (fun _ => hr) (.inl rfl) fun h => ?_)
        (by rw [accrue_cases])
      rw [accrue_cases] at hmet
      exact absurd (hmet.symm.trans h) Bool.false_ne_true
    · exact hi

theorem closeInterval {s : State} (hs : s.Each G) : s.closeInterval.Each G :=
  hG.of_marks hs (State.marks_eq (fun i => by simp [State.closeInterval]; rfl) fun _ => rfl)

theorem intervalWork {s : State} (hs : s.Each G) : s.intervalWork.Each G := by
  have hn : ∀ n : Nat, State.Each G { s with freeIndex := n } := fun _ => hs
  unfold State.intervalWork
  dsimp only
  (repeat' split)
  · exact hG.closeInterval (hG.accrue hs)
  · exact hG.closeInterval (hG.accrue (hG.transfer (hn _)))
  · exact hG.closeInterval (hG.transfer (hG.accrue (hn _)))
  · exact hG.transfer (hG.closeInterval (hG.accrue (hn _)))

/-! ### Socket commands -/

theorem complete {s t : State} {i : SocketId} {a b : Bool} (h : G (t.socket i) a b)
    (hl : ∀ n, laneSocket n = i → (t.lane n).marks = (s.lane n).marks) (ha : s.stuckAt i = a) (hb : s.lostAt i = b) :
    G ((t.complete i).socket i) ((t.complete i).stuckAt i) ((t.complete i).lostAt i) := by
  subst ha hb
  exact hG.at_socket (hG.retired (new := .complete) h rfl) (fun n hn => by rw [complete_lane_marks, hl n hn])
    (complete_socket_marks t i)

theorem armSocket (clear : Bool) (i : SocketId) {s : State} (hs : s.Each G) : (s.armSocket clear i).Each G :=
  hG.of_local (armSocket_turns ..).toLocal hs fun hi => by
    cases ha : (s.socket i).state.armed with
    | true => simpa [armSocket_eq, ha] using hi
    | false =>
      have hw : ∀ n, laneSocket n = i → ((s.armReset clear i).lane n).marks = (false, false) := fun n hn => by
        rw [armReset_lane s clear i hn]; rfl
      have hp := hw _ (laneSocket_primary i)
      have hq := hw _ (laneSocket_secondary i)
      simp only [Lane.marks, Prod.mk.injEq] at hp hq
      have hstuck : (s.armReset clear i).stuckAt i = false := by simp [State.stuckAt, hp, hq]
      have hlost : (s.armReset clear i).lostAt i = false := by simp [State.lostAt, hp, hq]
      have hc : G ((s.socket i).armReset clear) false false :=
        hG.marks (hG.lanes _ _ (hG.armCleared clear hi ha) ha) rfl
      simp only [armSocket_eq, ha, Bool.false_eq_true, if_false]
      split <;> rename_i hm
      · exact hG.complete (by rwa [armReset_socket]) (fun _ _ => rfl) hstuck hlost
      · refine hG.at_socket (s := s.armReset clear i) (k := { (s.socket i).armReset clear with state := .running }) ?_
          (fun n _ => by simp) (by rw [changeState_socket_eq, if_pos rfl, toState_marks, armReset_socket])
        rw [hstuck, hlost]
        exact hG.started hc rfl rfl (Bool.not_eq_true _ ▸ hm)

theorem releaseSocket (i : SocketId) {s : State} (hs : s.Each G) : (s.releaseSocket i).Each G :=
  hG.of_local (releaseSocket_turns ..).toLocal hs fun hi =>
    hG.at_socket (hG.released (hG.retired (new := .ready) hi rfl) rfl)
      (fun n _ => by
        rw [releaseSocket_eq, changeState_lane]
        exact State.marks_lane (evaluateSwitch_marks ..) n)
      (by
        rw [releaseSocket_socket, toState_marks, switched_cases]
        rfl)

omit hG in
theorem socketCommand (set : BitVec 32) (refuses : SocketState → Bool) {act : SocketId → State → State}
    (h : ∀ i (s : State), s.Each G → (act i s).Each G) {s : State} (hs : s.Each G) :
    (State.socketCommand set refuses act s).state.Each G := by
  unfold State.socketCommand
  split
  · exact hs
  · exact Lasting.forEach h hs

end Lasting

end Sys2Proof.Machine
end

section
namespace Sys2Proof.Machine

/-! ### Written SOCKET rows -/

/-- The state in which the effects of a written SOCKET row begin. -/
def State.rowsWritten (s : State) (rows : List (SocketId × RowWrite)) : State :=
  { s with sockets := writeRows rows (fun w => w.apply Socket.put) s.sockets }

theorem writeSockets_eq (s : State) (rows : List (SocketId × RowWrite)) :
    s.writeSockets rows =
      if rows.any fun row => s.socketBusy row.1 row.2 then s.refuse .busy
      else (forEachFreely rows State.socketWritten (s.rowsWritten rows)).accept := rfl

theorem rowsWritten_socket {rows : List (SocketId × RowWrite)} (hd : (rows.map Prod.fst).Nodup) (s : State) :
    (∀ i, i ∉ rows.map Prod.fst → (s.rowsWritten rows).socket i = s.socket i) ∧
      ∀ row ∈ rows, (s.rowsWritten rows).socket row.1 = row.2.apply Socket.put (s.socket row.1) :=
  writeRows_get hd s.sockets

/-- The state that a written SOCKET row leaves its socket in (R4, R5). -/
def Socket.writtenState (k : Socket) (w : RowWrite) : SocketState :=
  let moved := if w.selects 0 then k.populatedState else k.state
  if w.selects 3 && (moved.armed && k.targetMet) then .complete else moved

theorem populatedState_cases (k : Socket) : k.populatedState = k.state ∨ k.populatedState.armed = false := by
  unfold Socket.populatedState; (repeat' split) <;> simp [SocketState.armed]

theorem socketWritten_lane_marks (row : SocketId × RowWrite) (s : State) (n : LaneId) :
    ((State.socketWritten row s).lane n).marks = (s.lane n).marks := by
  have hp : ∀ t : State, ((t.applyPopulated row.1).lane n).marks = (t.lane n).marks := fun t => by
    unfold State.applyPopulated; dsimp only; (repeat' split) <;> simp
  have he : ∀ t : State, ((t.evaluateSwitch row.1).lane n).marks = (t.lane n).marks := fun t =>
    State.marks_lane (evaluateSwitch_marks ..) n
  unfold State.socketWritten
  dsimp only
  (repeat' split) <;> simp [hp, he]

theorem targetMet_of_marks {k k' : Socket} (h : k'.marks = k.marks) : k'.targetMet = k.targetMet := by
  simp only [Socket.marks, Prod.mk.injEq] at h
  simp [Socket.targetMet, h]

theorem state_of_marks {k k' : Socket} (h : k'.marks = k.marks) : k'.state = k.state :=
  congrArg (fun m => m.2.1) h

theorem withState_marks {k k' : Socket} (h : k'.marks = k.marks) (new : SocketState) :
    ({ k' with state := new } : Socket).marks = ({ k with state := new } : Socket).marks := by
  simp only [Socket.marks, Prod.mk.injEq] at h ⊢
  simp [h]

/-- What the effects of a written row make of its socket's marks: they move its state alone. -/
theorem socketWritten_socket_marks (row : SocketId × RowWrite) (s : State) :
    ((State.socketWritten row s).socket row.1).marks =
      ({ s.socket row.1 with state := (s.socket row.1).writtenState row.2 } : Socket).marks := by
  have hmoved : ((if row.2.selects 0 then s.applyPopulated row.1 else s).socket row.1).marks =
      ({ s.socket row.1 with
        state := if row.2.selects 0 then (s.socket row.1).populatedState else (s.socket row.1).state } : Socket).marks := by
    split
    · rw [applyPopulated_socket, toState_marks]
    · rfl
  have hswitch : ∀ t : State,
      ((if row.2.selects 0 || row.2.selects 1 then t.evaluateSwitch row.1 else t).socket row.1).marks =
        (t.socket row.1).marks := fun t => by
    split
    · exact State.marks_socket (evaluateSwitch_marks ..) _
    · rfl
  have h := (hswitch _).trans hmoved
  unfold State.socketWritten Socket.writtenState
  dsimp only
  cases row.2.selects 3
  · simpa using h
  · rw [if_pos rfl, testCompletion_socket_marks, withState_marks h, targetMet_of_marks h, state_of_marks h]
    simp [Socket.targetMet]

end Sys2Proof.Machine
end

section
namespace Sys2Proof.Machine

theorem writtenState_cases (k : Socket) (w : RowWrite) : k.writtenState w = k.state ∨ (k.writtenState w).armed = false := by
  unfold Socket.writtenState
  generalize hm : (if w.selects 0 then k.populatedState else k.state) = moved
  have hmoved : moved = k.state ∨ moved.armed = false := by
    subst hm
    split
    · exact populatedState_cases k
    · exact .inl rfl
  dsimp only
  split
  · exact .inr rfl
  · exact hmoved

/-- A write of target completes an armed socket whose target is met (R5). -/
theorem writtenState_met {k : Socket} {w : RowWrite} (h3 : w.selects 3 = true) (h : k.targetMet = true) :
    (k.writtenState w).armed = false := by
  unfold Socket.writtenState
  generalize (if w.selects 0 then k.populatedState else k.state) = moved
  dsimp only
  rw [h3, h, Bool.and_true, Bool.true_and]
  split <;> rename_i ha
  · rfl
  · exact Bool.not_eq_true _ ▸ ha

/-- Rows written to SENSE move no marks (R140, R142). -/
theorem senseRows_marks (rows : List (LaneId × RowWrite)) (t : Table 64 Lane) (n : LaneId) :
    ((writeRows rows (fun w l => { l with row := w.apply SenseRow.put l.row }) t).get n).marks = (t.get n).marks := by
  induction rows generalizing t with
  | nil => rfl
  | cons x xs ih =>
    refine (ih _).trans ?_
    rw [Table.get_upd]
    split
    · subst_vars; rfl
    · rfl

theorem invalidGate_marks (s : State) (i : SocketId) : (s.invalidGate i).marks = s.marks := by
  have h : ((s.updSocket i fun k => { k with estimate := none }).updLane (secondaryLane i) fun l =>
      { l with gate := { l.gate with monitor := .lost } }).marks = s.marks :=
    (updLane_marks _ _ _ rfl).trans (updSocket_marks s i _ rfl)
  unfold State.invalidGate
  dsimp only
  split
  · exact h
  · exact (reportLane_marks ..).trans h

theorem risingEdge_marks (s : State) (i : SocketId) : (s.risingEdge i).marks = s.marks := updLane_marks s _ _ rfl

/-- Does a SENSE write reset the lane (R142)? -/
def senseReset (rows : List (LaneId × RowWrite)) (n : LaneId) : Bool := rows.any fun row => row.1 == n && row.2.selects 0

/-- The state of a SENSE write before its reviews. -/
def State.senseWritten (s : State) (rows : List (LaneId × RowWrite)) : State :=
  ({ s with lanes := writeRows rows (fun w l => { l with row := w.apply SenseRow.put l.row }) s.lanes } : State).resetLanes
    (senseReset rows)

/-- Does a SENSE write end a STUCK or a lost lock of the lane? -/
def State.senseEnds (s : State) (rows : List (LaneId × RowWrite)) (n : LaneId) : Bool :=
  senseReset rows n && ((s.lane n).watch.stuck || (s.lane n).prbs.lockLost)

/-- The sockets that a SENSE write reviews. -/
def State.senseReviewed (s : State) (rows : List (LaneId × RowWrite)) : List SocketId :=
  allSockets.filter fun i => s.senseEnds rows (primaryLane i) || s.senseEnds rows (secondaryLane i)

theorem writeSense_eq (s : State) (rows : List (LaneId × RowWrite)) :
    s.writeSense rows =
      if rows.any fun row => s.freqOnPrimary row.1 row.2 then s.refuse .range
      else (forEachFreely (s.senseReviewed rows) (fun i t => t.reviewReasons i) (s.senseWritten rows)).accept := rfl

theorem senseWritten_lane_marks (s : State) (rows : List (LaneId × RowWrite)) (n : LaneId) :
    ((s.senseWritten rows).lane n).marks = if senseReset rows n then (false, false) else (s.lane n).marks := by
  rw [State.senseWritten, resetLanes_lane]
  split
  · rfl
  · exact senseRows_marks rows s.lanes n

theorem senseWritten_socket_marks (s : State) (rows : List (LaneId × RowWrite)) (i : SocketId) :
    ((s.senseWritten rows).socket i).marks = (s.socket i).marks := by
  rw [State.senseWritten, resetLanes_socket]
  split <;> rfl

theorem senseWritten_stuck {s : State} {rows : List (LaneId × RowWrite)} {n : LaneId}
    (h : ((s.senseWritten rows).lane n).watch.stuck = true) : (s.lane n).watch.stuck = true := by
  have := congrArg Prod.fst (senseWritten_lane_marks s rows n)
  split at this <;> simp_all [Lane.marks]

theorem senseWritten_lost {s : State} {rows : List (LaneId × RowWrite)} {n : LaneId}
    (h : ((s.senseWritten rows).lane n).prbs.lockLost = true) : (s.lane n).prbs.lockLost = true := by
  have := congrArg Prod.snd (senseWritten_lane_marks s rows n)
  split at this <;> simp_all [Lane.marks]

/-- A lane that a SENSE write resets without a review of its socket had no STUCK and no lost lock. -/
theorem unreviewed_lane_marks {s : State} {rows : List (LaneId × RowWrite)} {n : LaneId}
    (hi : laneSocket n ∉ s.senseReviewed rows) : ((s.senseWritten rows).lane n).marks = (s.lane n).marks := by
  have hends : s.senseEnds rows n = false := by
    simp only [State.senseReviewed, allSockets, List.mem_filter, List.mem_finRange, true_and, Bool.or_eq_true, not_or,
      Bool.not_eq_true] at hi
    rcases lane_cases n with e | e <;> rw [e]
    · exact hi.1
    · exact hi.2
  rw [senseWritten_lane_marks]
  split <;> rename_i hr
  · simp only [State.senseEnds, hr, Bool.true_and, Bool.or_eq_false_iff] at hends
    exact (Prod.ext hends.1 hends.2).symm
  · rfl

variable {G : Socket → Bool → Bool → Prop}

namespace Lasting

variable (hG : Lasting G)
include hG

/-- A written row moves a socket's target and state as R4 and R5 allow. -/
theorem socketPut {k : Socket} {a b : Bool} (h : G k a b) (w : RowWrite) :
    G { w.apply Socket.put k with state := (w.apply Socket.put k).writtenState w } a b := by
  have hk := socketPut_cases w k
  have hstate : (w.apply Socket.put k).state = k.state := by rw [hk]
  have hcases := writtenState_cases (w.apply Socket.put k) w
  rw [hstate] at hcases
  have hmarks : ∀ new, ({ k with target := (w.apply Socket.put k).target, state := new } : Socket).marks =
      ({ w.apply Socket.put k with state := new } : Socket).marks := fun new => by
    conv => rhs; rw [hk]
    rfl
  cases h3 : w.selects 3 with
  | true =>
    refine hG.marks (hG.valued (target := (w.apply Socket.put k).target) (credit := k.credit) (fraction := k.fraction) h
      (fun hr => ⟨hr.1, hr.2.1⟩) hcases fun hm => writtenState_met h3 ?_) (hmarks _).symm
    rw [hk]
    exact hm
  | false =>
    have ht := socketPut_target h3 k
    rcases hcases with he | he
    · exact hG.marks h (by rw [he, ← hmarks, ht])
    · exact hG.marks (hG.retired h he) (by rw [← hmarks, ht])

theorem writeSockets {rows : List (SocketId × RowWrite)} (hd : (rows.map Prod.fst).Nodup) {s : State} (hs : s.Each G) :
    (s.writeSockets rows).state.Each G := by
  rw [writeSockets_eq]
  split
  · exact hs
  · intro i
    have hloop := forEachFreely_loops Prod.fst socketWritten_local hd (s.rowsWritten rows)
    by_cases hi : i ∈ rows.map Prod.fst
    · obtain ⟨row, hrow, rfl⟩ := List.mem_map.mp hi
      obtain ⟨t, ht, hu⟩ := hloop.turns row hrow
      have hk : t.socket row.1 = row.2.apply Socket.put (s.socket row.1) :=
        ht.socket.trans ((rowsWritten_socket hd s).2 row hrow)
      refine hG.at_socket (hG.socketPut (hs row.1) row.2) (fun n hn => ?_) ?_
      · exact (congrArg Lane.marks (hu.lanes n hn)).trans
          ((socketWritten_lane_marks row t n).trans (congrArg Lane.marks (ht.lanes n hn)))
      · exact (congrArg Socket.marks hu.socket).trans (by rw [socketWritten_socket_marks, hk])
    · have hb := hloop.others i hi
      refine hG.at_socket (hs i) (fun n hn => congrArg Lane.marks (hb.lanes n hn)) ?_
      exact (congrArg Socket.marks hb.socket).trans (by rw [(rowsWritten_socket hd s).1 i hi])

/-- Lanes that a SENSE write resets have no STUCK and no lost lock, and the sockets that had one are reviewed (R142). -/
theorem writeSense (rows : List (LaneId × RowWrite)) {s : State} (hs : s.Each G) : (s.writeSense rows).state.Each G := by
  rw [writeSense_eq]
  split
  · exact hs
  have hloop := forEachFreely_loops id (act := fun i t => State.reviewReasons t i) (fun i t => (reviewReasons_turns t i).toLocal)
    (xs := s.senseReviewed rows) (by rw [List.map_id]; exact (List.nodup_finRange 32).filter _) (s.senseWritten rows)
  rw [accept_state]
  generalize Machine.forEachFreely (s.senseReviewed rows) (fun i t => State.reviewReasons t i) (s.senseWritten rows) = u at hloop ⊢
  intro i
  have hi := hG.marks (hs i) (senseWritten_socket_marks s rows i)
  by_cases hm : i ∈ s.senseReviewed rows
  · obtain ⟨t, ht, hu⟩ := hloop.socket hm
    exact hG.of_beside hu (hG.reviewReasons hi ht.socket
      (stuckAt_mono fun n hn h => senseWritten_stuck (ht.lanes n hn ▸ h))
      (lostAt_mono fun n hn h => senseWritten_lost (ht.lanes n hn ▸ h)))
  · have hb := hloop.other hm
    refine hG.at_socket hi (fun n hn => ?_) (congrArg Socket.marks hb.socket)
    exact (congrArg Lane.marks (hb.lanes n hn)).trans (unreviewed_lane_marks (hn ▸ hm))

/-- RUN_RESET takes a socket out of the armed states and clears it (R19). -/
theorem resetAccounting {s : State} (hs : s.Each G) : ((s.resetLanes fun _ => true).resetAccounting).Each G := fun i => by
  have hk : (s.resetLanes fun _ => true).socket i = { s.socket i with estimate := none } := by simp [resetLanes_socket]
  have h : ∃ new : SocketState, new = (if (s.socket i).state.armed then .ready else (s.socket i).state) ∧ new.armed = false :=
    ⟨_, rfl, by split <;> simp_all [SocketState.armed]⟩
  obtain ⟨new, hnew, ha⟩ := h
  refine hG.marks (hG.runCleared (hG.lanes _ _ (hG.retired (hs i) ha) ha) ha) ?_
  rw [resetAccounting_socket, hk, hnew]
  rfl

theorem resetRun {s : State} (hs : s.Each G) : s.resetRun.state.Each G := by
  have h := hG.of_marks (t := s.resetRails.resetHeat.resetEngine) hs
    ((resetEngine_marks _).trans ((setZones_marks ..).trans (resetRails_marks s)))
  exact hG.of_marks (hG.resetAccounting h) ((readLine_marks _).trans (resetStep_marks _))

/-! ### The engine and promotions -/

theorem endDueWindows {s : State} (hs : s.Each G) : s.endDueWindows.Each G :=
  Lasting.forEachFreely (fun n _ hs => hG.endToggleWindow hs n)
    (Lasting.forEachFreely (fun n _ hs => hG.endPrbsWindow hs n) hs)

theorem checkLanes {s : State} (hs : s.Each G) (c : CycleWords) (sense : BitVec 64) : (s.checkLanes c sense).Each G :=
  Lasting.forEachFreely (fun f _ hs => hG.failingCheck hs f) (hG.of_marks hs (State.marks_eq (fun _ => rfl) fun n => by
    rw [State.setLanes_lane]
    dsimp only
    split <;> simp [cycle_marks]))

theorem startCycle {s : State} (hs : s.Each G) (sense : BitVec 64) : (s.startCycle sense).Each G := by
  unfold State.startCycle
  dsimp only
  split
  · exact hG.checkLanes (hG.of_marks hs (by simp)) _ _
  · exact hG.of_marks hs (by simp)

theorem vectorCycle {s : State} (hs : s.Each G) (sense : BitVec 64) : (s.vectorCycle sense).Each G := by
  have h := hG.of_marks (hG.endDueWindows hs) (boundary_marks _)
  unfold State.vectorCycle
  dsimp only
  (repeat' split)
  · exact hs
  · exact h
  · exact hG.startCycle h sense

theorem firstCycle {s : State} (hs : s.Each G) : s.firstCycle.Each G :=
  hG.startCycle (s := { s with freeIndex := s.freeIndex + 1 }) hs _

theorem startEngine {s : State} (hs : s.Each G) : s.startEngine.Each G := by
  have h := hG.endDueWindows hs
  unfold State.startEngine
  generalize s.endDueWindows = t at h ⊢
  exact hG.firstCycle (hG.of_marks (s := { t with driveInEffect := t.drive }) h (chooseFirst_marks _))

theorem enginePromoted {s : State} (hs : s.Each G) (old : PatternSource) : (s.enginePromoted old).Each G := by
  unfold State.enginePromoted
  dsimp only
  (repeat' split)
  · exact hs
  · exact hG.startEngine hs
  · exact hs
  · exact hs
  all_goals exact hG.of_marks hs (by simp)

theorem promote {s : State} (hs : s.Each G) (event : StepEvent) : (s.promote event).Each G :=
  hG.enginePromoted (hG.of_marks hs (by simp)) _

theorem stepTick {s : State} (hs : s.Each G) : s.stepTick.Each G := by
  have hp : ∀ f : StepCtl → StepCtl, ((s.updStep f).promote .advanced).Each G := fun f =>
    hG.promote (hG.of_marks hs (updStep_marks s f)) _
  unfold State.stepTick State.normalEnd
  dsimp only
  (repeat' split)
  · exact hp _
  all_goals exact hG.of_marks hs (by simp)

theorem intervalExpired {s : State} (hs : s.Each G) : s.intervalExpired.Each G :=
  hG.stepTick (hG.intervalWork (s := { s with runSeconds := satSucc Config.longTop s.runSeconds }) hs)

theorem settleStage {s : State} (hs : s.Each G) : s.settleStage.state.Each G := by
  have h := hG.of_marks hs (updStep_marks s fun c => { c with stagedState := .settled })
  unfold State.settleStage
  dsimp only
  (repeat' split)
  · exact hs
  · exact hG.promote h _
  · exact h

theorem startStep {s : State} (hs : s.Each G) : s.startStep.state.Each G := by
  unfold State.startStep
  (repeat' split)
  all_goals first | exact hs | exact hG.promote hs _

/-! ### Samples and gates -/

theorem measure {s : State} (hs : s.Each G) (z : ZoneId) (ma : Nat) : (s.measure z ma).Each G := by
  unfold State.measure
  dsimp only
  split
  · rename_i i _ _ _
    have h := hG.of_marks (hG.finding hs i .short) (reportZone_marks _ z (.searchCulprit i))
    (repeat' split)
    · exact hG.of_marks h (by simp)
    · exact hG.of_marks h (by simp)
    · exact hG.of_marks hs (by simp)
  · exact hs

theorem currentSample {s : State} (hs : s.Each G) (z : ZoneId) (ma : Nat) : (s.currentSample z ma).Each G := by
  unfold State.currentSample
  dsimp only
  (repeat' split)
  · exact hG.of_marks hs (by simp)
  · exact hG.of_marks hs (by simp)
  · exact hG.measure hs z ma
  · exact hs
  · exact hs

theorem sampleTaken {s : State} (hs : s.Each G) (word : BitVec 17) : (s.sampleTaken word).Each G := by
  have hand : ∀ (t : State) (z : ZoneId) (q : Quantity) (x : Int), t.Each G → (t.handOver z q x).Each G := fun t z q x ht => by
    cases q with
    | voltage => exact hG.of_marks ht (voltageSample_marks ..)
    | current => exact hG.currentSample ht z _
    | temperature => exact hG.of_marks ht (temperatureSample_marks ..)
  unfold State.sampleTaken State.acceptSample
  dsimp only
  (repeat' split)
  · exact hs
  · exact hand _ _ _ _ hs
  · exact hs

theorem validGate {s : State} (hs : s.Each G) (i : SocketId) (count : Nat) : (s.validGate i count).Each G := by
  have h : ((s.updSocket i fun k => { k with estimate := some ((s.socket i).estimateOf count) }).updLane (secondaryLane i) fun l =>
      { l with gate := { l.gate with monitor := .valid } }).Each G :=
    hG.of_marks hs ((updLane_marks _ _ _ rfl).trans (updSocket_marks s i _ rfl))
  have hr := hG.of_marks h (reportLane_marks _ (secondaryLane i) .monitorBack)
  unfold State.validGate
  dsimp only
  (repeat' split)
  · exact hG.finding hr i .runaway
  · exact hr
  · exact hG.finding h i .runaway
  · exact h

theorem gateExpired {s : State} (hs : s.Each G) (i : SocketId) : (s.gateExpired i).Each G := by
  have h : ∀ f : Lane → FreqGate, (s.updLane (secondaryLane i) fun l => { l with gate := f l }).Each G :=
    fun f => hG.of_marks hs (updLane_marks s _ _ rfl)
  unfold State.gateExpired
  dsimp only
  (repeat' split)
  · exact hs
  · exact hG.of_marks (h _) (invalidGate_marks ..)
  · exact hG.validGate (h _) i _

end Lasting

end Sys2Proof.Machine
end

section
namespace Sys2Proof.Machine

variable {G : Socket → Bool → Bool → Prop}

namespace Lasting

variable (hG : Lasting G)
include hG

/-! ### The management commands -/

theorem writeTable {table first count : Byte} {mask : BitVec 64} {values : List Byte} {rows : List (Nat × RowWrite)}
    (hc : checkWrite table first count mask values = .ok rows) {s : State} (hs : s.Each G) :
    (s.writeTable table.toNat rows).state.Each G := by
  obtain ⟨hd, hlt⟩ := checkWrite_rows hc
  unfold State.writeTable
  split
  · exact hG.of_marks hs (writeSettings_marks ..)
  · rename_i ht
    exact hG.writeSockets (rowsOf_nodup hd (by rw [ht] at hlt; exact hlt)) hs
  · exact hG.of_marks hs (writeZones_marks ..)
  · exact hG.of_marks hs (writePolicies_marks ..)
  · exact hs
  · exact hs
  · exact hG.of_marks hs (writeDriveRows_marks ..)
  · exact hG.writeSense _ hs
  · exact hs
  · exact hG.of_marks hs (writeOrder_marks ..)
  · exact hs

theorem tableWrite (table first count : Byte) (mask : BitVec 64) (values : List Byte) {s : State} (hs : s.Each G) :
    (State.tableWrite table first count mask values s).state.Each G := by
  unfold State.tableWrite
  split
  · exact hs
  · exact hG.writeTable ‹_› hs

theorem takeSnapshot {s : State} (hs : s.Each G) : s.takeSnapshot.state.Each G := by
  unfold State.takeSnapshot
  split
  · exact hs
  · exact hG.transfer hs

theorem armSockets (set : BitVec 32) (options : Byte) {s : State} (hs : s.Each G) :
    (State.armSockets set options s).state.Each G :=
  Lasting.socketCommand set _ (fun i _ h => hG.armSocket _ i h) hs

theorem releaseSockets (set : BitVec 32) {s : State} (hs : s.Each G) : (State.releaseSockets set s).state.Each G :=
  Lasting.socketCommand set _ (fun i _ h => hG.releaseSocket i h) hs

theorem holdSockets (set : BitVec 32) {s : State} (hs : s.Each G) : (State.holdSockets set s).state.Each G :=
  Lasting.socketCommand set _ (fun i s h => hG.of_marks h (placeHold_marks s i .forced)) hs

theorem restoreSockets (set : BitVec 32) {s : State} (hs : s.Each G) : (State.restoreSockets set s).state.Each G :=
  Lasting.socketCommand set _ (fun i s h => hG.of_marks h (by
    unfold State.restoreSocket
    split
    · rfl
    · exact (evaluateSwitch_marks ..).trans (updSocket_marks s i _ rfl))) hs

theorem failSockets (set : BitVec 32) {s : State} (hs : s.Each G) : (State.failSockets set s).state.Each G :=
  Lasting.socketCommand set _ (fun i _ h => hG.finding h i .forced) hs

omit hG in
theorem bare {cmd : State → CmdOut} (h : ∀ s : State, s.Each G → (cmd s).state.Each G) (args : List Byte) {s : State}
    (hs : s.Each G) : (Machine.bare args cmd s).state.Each G := by
  unfold Machine.bare
  split
  · exact h s hs
  · exact hs

omit hG in
theorem withSockets {cmd : BitVec 32 → State → CmdOut} (h : ∀ set (s : State), s.Each G → (cmd set s).state.Each G)
    (args : List Byte) {s : State} (hs : s.Each G) : (Machine.withSockets args cmd s).state.Each G := by
  unfold Machine.withSockets
  split
  · exact h _ s hs
  · exact hs

/-- Every command by its code (R180). -/
theorem command (code : Byte) (args : List Byte) {s : State} (hs : s.Each G) : (State.command code args s).state.Each G := by
  unfold State.command
  split
  · unfold tableWriteArgs
    (repeat' split)
    · exact hs
    · exact hG.tableWrite _ _ _ _ _ hs
    · exact hs
  · unfold tableReadArgs
    (repeat' split)
    · exact hs
    · exact hG.of_marks hs (tableRead_marks ..)
    · exact hs
  · unfold loopLoadArgs
    split
    · exact hG.of_marks hs (loopLoad_marks ..)
    · exact hs
  · exact Lasting.bare (fun s h => hG.settleStage h) args hs
  · exact Lasting.bare (fun s h => hG.of_marks h (unsettleStage_marks s)) args hs
  · exact Lasting.bare (fun s h => hG.startStep h) args hs
  · exact Lasting.bare (fun s h => hG.of_marks h (stopStep_marks s)) args hs
  · exact Lasting.bare (fun s h => hG.of_marks h (abortStep_marks s)) args hs
  · exact Lasting.bare (fun s h => hG.of_marks h (clearStep_marks s)) args hs
  · unfold clearZonesArgs
    split
    · exact hG.of_marks hs (clearZones_marks ..)
    · exact hs
  · unfold armSocketsArgs
    split
    · exact hG.armSockets _ _ hs
    · exact hs
  · exact Lasting.withSockets (fun set s h => hG.releaseSockets set h) args hs
  · exact Lasting.withSockets (fun set s h => hG.holdSockets set h) args hs
  · exact Lasting.withSockets (fun set s h => hG.restoreSockets set h) args hs
  · exact Lasting.withSockets (fun set s h => hG.failSockets set h) args hs
  · exact Lasting.bare (fun s h => hG.takeSnapshot h) args hs
  · exact Lasting.bare (fun s h => h) args hs
  · exact Lasting.bare (fun s h => hG.resetRun h) args hs
  · exact hs

/-! ### Delivery -/

theorem answer {cmd : State → CmdOut} (h : ∀ s : State, s.Each G → (cmd s).state.Each G) (src tag code : Byte) {s : State}
    (hs : s.Each G) : (s.answer src tag code cmd).Each G := by
  unfold State.answer
  dsimp only
  split
  · exact hs
  · exact hG.of_marks (h s hs) (updLink_marks ..)

theorem arbitrate {s : State} (hs : s.Each G) : s.arbitrate.Each G := hG.of_marks hs (arbitrate_marks s)

theorem deliver {cmd : State → CmdOut} (h : ∀ s : State, s.Each G → (cmd s).state.Each G) (src tag code : Byte) {s : State}
    (hs : s.Each G) : (s.deliver src tag code cmd).Each G := by
  unfold State.deliver
  split
  · exact hG.arbitrate (hG.answer h src tag code hs)
  · exact hs

theorem deliverFrame (f : Frame) {s : State} (hs : s.Each G) : (s.deliverFrame f).Each G := by
  unfold State.deliverFrame State.deliverVector State.deliverMgmt
  (repeat' split)
  · exact hG.of_marks hs (takeBlock_marks ..)
  · exact hs
  · exact hs
  · exact hG.answer (s := { s with freeIndex := s.freeIndex + 1 }) (fun s h => h) _ _ _ hs
  · exact hG.answer (fun s h => hG.command _ _ h) _ _ _ hs
  · exact hs
  · exact hs

theorem upFrame (bytes : List Byte) {s : State} (hs : s.Each G) : (s.upFrame bytes).Each G := by
  have h := hG.of_marks hs (forwardDown_marks s bytes)
  unfold State.upFrame State.route
  (repeat' split)
  · exact hG.deliverFrame _ h
  · exact hG.deliverFrame _ hs
  · exact h
  · exact hs

theorem powerOn (s : State) (addr : BitVec 6) (othersPull downPartner upReceiver : Bool) :
    (s.powerOn addr othersPull downPartner upReceiver).Each G := fun i => by
  have hk : (s.powerOn addr othersPull downPartner upReceiver).socket i = {} := Table.get_fill ..
  have hl : ∀ n, (s.powerOn addr othersPull downPartner upReceiver).lane n = {} := fun n => Table.get_fill ..
  simpa [hk, State.stuckAt, State.lostAt, hl] using hG.fresh

/-- Every command keeps a lasting rule. -/
theorem exec {c : Instr} {s t : State} (hs : s.Each G) (h : exec c s = .next t) : t.Each G := by
  have hn : ∀ {u : State}, u.Each G → Host.Outcome.next (ρ := Refusal) (φ := Fault) u = .next t → t.Each G :=
    fun hu h => Host.Outcome.next.inj h ▸ hu
  have hd : ∀ {src tag code : Byte} {cmd : State → CmdOut}, (∀ s : State, s.Each G → (cmd s).state.Each G) →
      Host.Outcome.next (ρ := Refusal) (φ := Fault) (s.deliver src tag code cmd) = .next t → t.Each G :=
    fun hc h => hn (hG.deliver hc _ _ _ hs) h
  cases c with
  | powerOnReset addr othersPull downPartner upReceiver =>
    exact hn (hG.arbitrate (hG.of_marks (hG.powerOn s addr othersPull downPartner upReceiver) (readLine_marks _))) h
  | upFrameTaken bytes => exact hn (hG.arbitrate (hG.upFrame bytes hs)) h
  | downFrameTaken bytes => exact hn (hG.arbitrate (hG.of_marks hs (downFrame_marks s bytes))) h
  | downTransmitEnd => exact hn (u := s.downEnded) hs h
  | upTransmitEnd => exact hn (hG.arbitrate (s := s.upEnded) hs) h
  | downPartnerChange present => exact hn (hG.of_marks hs (downPartner_marks s present)) h
  | upReceiverChange present => exact hn (hG.arbitrate (hG.of_marks hs (upReceiver_marks s present))) h
  | tblWrite src tag table first count mask values => exact hd (fun s h => hG.tableWrite _ _ _ _ _ h) h
  | socketTableWrite src tag first count mask values => exact hd (fun s h => hG.tableWrite _ _ _ _ _ h) h
  | zoneTableWrite src tag first count mask values => exact hd (fun s h => hG.tableWrite _ _ _ _ _ h) h
  | orderWrite src tag first count mask values => exact hd (fun s h => hG.tableWrite _ _ _ _ _ h) h
  | stepStageWrite src tag first count mask values => exact hd (fun s h => hG.tableWrite _ _ _ _ _ h) h
  | senseModeWrite src tag first count mask values => exact hd (fun s h => hG.tableWrite _ _ _ _ _ h) h
  | settingsWrite src tag first count mask values => exact hd (fun s h => hG.tableWrite _ _ _ _ _ h) h
  | tblRead src tag table first count mask => exact hd (fun s h => hG.of_marks h (tableRead_marks ..)) h
  | loopLoad src tag first count flags vectors => exact hd (fun s h => hG.of_marks h (loopLoad_marks ..)) h
  | stageSettle src tag => exact hd (fun s h => hG.settleStage h) h
  | stageUnsettle src tag => exact hd (fun s h => hG.of_marks h (unsettleStage_marks s)) h
  | stepStart src tag => exact hd (fun s h => hG.startStep h) h
  | stepStop src tag => exact hd (fun s h => hG.of_marks h (stopStep_marks s)) h
  | stepAbort src tag => exact hd (fun s h => hG.of_marks h (abortStep_marks s)) h
  | stepClear src tag => exact hd (fun s h => hG.of_marks h (clearStep_marks s)) h
  | zoneClear src tag zones => exact hd (fun s h => hG.of_marks h (clearZones_marks ..)) h
  | socketArm src tag sockets options => exact hd (fun s h => hG.armSockets _ _ h) h
  | socketRelease src tag sockets => exact hd (fun s h => hG.releaseSockets _ h) h
  | socketHold src tag sockets => exact hd (fun s h => hG.holdSockets _ h) h
  | socketRestore src tag sockets => exact hd (fun s h => hG.restoreSockets _ h) h
  | socketFail src tag sockets => exact hd (fun s h => hG.failSockets _ h) h
  | snapshot src tag => exact hd (fun s h => hG.takeSnapshot h) h
  | statusRead src tag => exact hd (fun s h => h) h
  | runReset src tag => exact hd (fun s h => hG.resetRun h) h
  | sampleWord word => exact hn (hG.arbitrate (hG.sampleTaken hs word)) h
  | staleTimerExpiry zone quantity => exact hn (hG.arbitrate (hG.of_marks hs (staleExpired_marks s zone quantity))) h
  | intervalExpiry => exact hn (hG.arbitrate (hG.intervalExpired hs)) h
  | rampStepExpiry zone => exact hn (hG.arbitrate (hG.of_marks hs (rampStep_marks s zone))) h
  | confirmTimerExpiry zone => exact hn (hG.arbitrate (hG.of_marks hs (confirmExpired_marks s zone))) h
  | settleTimerExpiry zone => exact hn (hG.of_marks hs (settleExpired_marks s zone)) h
  | soakTimerExpiry zone => exact hn (hG.arbitrate (hG.of_marks hs (soakExpired_marks s zone))) h
  | graceTimerExpiry zone => exact hn (hG.of_marks hs (graceExpired_marks s zone)) h
  | vectorCycle sense => exact hn (hG.arbitrate (hG.vectorCycle hs sense)) h
  | vectorBoundary => exact hn (hG.arbitrate (hG.of_marks hs (boundary_marks s))) h
  | prbsWindowEnd lane => exact hn (hG.arbitrate (hG.endPrbsWindow hs lane)) h
  | toggleWindowEnd lane => exact hn (hG.arbitrate (hG.endToggleWindow hs lane)) h
  | gateExpiry socket => exact hn (hG.arbitrate (hG.gateExpired hs socket)) h
  | haltLineAsserted othersPull => exact hn (hG.arbitrate (hG.of_marks hs (lineAsserted_marks s othersPull))) h
  | haltLineReleased => exact hn (u := s.lineReleased) hs h
  | freqLaneRisingEdge socket => exact hn (hG.of_marks hs (risingEdge_marks s socket)) h

/-- Every step keeps a lasting rule. -/
theorem step {s t : State} (hs : s.Each G) (h : step s = .next t) : t.Each G := by
  unfold Machine.step at h
  split at h
  · obtain rfl := Host.Outcome.next.inj h
    exact hs
  · rename_i c rest _
    exact hG.exec (s := { s with pending := rest }) hs h

end Lasting

end Sys2Proof.Machine
end

/-! ## The invariants of sockets (StepKeepsSocketBounds) -/

section
namespace Sys2Proof.Machine

/-- A socket whose credit has reached a nonzero target is not armed (R35), and its record lies in its ranges. -/
def Socket.Bounded (k : Socket) (_ _ : Bool) : Prop := (k.targetMet = true → k.state.armed = false) ∧ k.InRange

theorem targetMet_iff (k : Socket) : k.targetMet = true ↔ k.target ≠ 0 ∧ k.target * 256 ≤ k.credit := by
  simp [Socket.targetMet]

theorem each_bounded_iff (s : State) : s.Each Socket.Bounded ↔ s.TargetsKept ∧ s.SocketsInRange := by
  simp only [State.Each, Socket.Bounded, targetMet_iff, and_imp, State.TargetsKept, State.SocketsInRange]
  exact forall_and

/-- A history keeps its eight newest scores (R40). -/
theorem transferred_history_length (k : Socket) (h : k.history.length ≤ 8) : k.transferred.history.length ≤ 8 := by
  simp only [Socket.transferred, Config.historyLength, List.length_append, List.length_drop, List.length_singleton]
  omega

theorem inRange_of_marks {k k' : Socket} (h : k'.marks = k.marks) (hk : k.InRange) : k'.InRange := by
  simp only [Socket.marks, Prod.mk.injEq] at h
  simpa [Socket.InRange, h] using hk

theorem bounded_lasting : Lasting Socket.Bounded where
  marks := fun ⟨ht, hr⟩ h => ⟨fun hm => state_of_marks h ▸ ht (targetMet_of_marks h ▸ hm), inRange_of_marks h hr⟩
  lanes := fun _ _ h _ => h
  retired := fun ⟨_, hr⟩ hn => ⟨fun _ => hn, hr⟩
  checked := fun ⟨ht, hc, hf, _, hl, hh⟩ => ⟨ht, hc, hf, Nat.min_le_left .., hl, hh⟩
  transferred := fun {k} _ _ ⟨ht, hc, hf, hr, _, hh⟩ => ⟨ht, hc, hf, Nat.zero_le _, hr, transferred_history_length k hh⟩
  idle := fun ⟨ht, hc, hf, _, hl, hh⟩ => ⟨ht, hc, hf, Nat.zero_le _, hl, hh⟩
  reasoned := fun ⟨ht, hr⟩ ha _ _ _ => ⟨fun hm => absurd (ht hm) (by simp [ha]), hr⟩
  clean := fun _ h _ => h
  valued := fun ⟨_, hr⟩ hv _ hm => ⟨hm, (hv hr).1, (hv hr).2, hr.2.2⟩
  armCleared := fun {k a b} clear ⟨_, hc, hf, _, _, _⟩ ha => by
    refine ⟨fun _ => ha, ?_, ?_, Nat.zero_le _, Nat.zero_le _, Nat.zero_le _⟩ <;>
      simp only [Socket.armCleared] <;> split <;> omega
  released := fun h _ => h
  runCleared := fun ⟨_, hc, hf, _, _, _⟩ ha => ⟨fun _ => ha, hc, hf, Nat.zero_le _, Nat.zero_le _, Nat.zero_le _⟩
  started := fun ⟨_, hr⟩ _ _ hm => ⟨fun h => absurd (hm.symm.trans h) Bool.false_ne_true, hr⟩
  fresh := ⟨fun _ => rfl, by simp [Socket.InRange]⟩

/-- The state of a socket follows its reasons, its reasons its lanes, and its clean count SCORE (R12, R13, R44). -/
def Socket.Reasoned (k : Socket) (stuck lost : Bool) : Prop :=
  (k.state = .running → k.reasons = {}) ∧ (k.state = .suspect → k.reasons ≠ {}) ∧
    (k.state.armed = true → k.reasons.stuck = stuck ∧ k.reasons.lock = lost) ∧ (k.reasons.score = false → k.clean = 0)

theorem each_reasoned_iff (s : State) : s.Each Socket.Reasoned ↔ s.ReasonsFollow := Iff.rfl

/-- A socket that is not armed owes nothing to its reasons or lanes. -/
theorem reasoned_of_unarmed {k : Socket} {a b : Bool} (ha : k.state.armed = false) (hc : k.reasons.score = false → k.clean = 0) :
    k.Reasoned a b :=
  ⟨fun h => by simp [h, SocketState.armed] at ha, fun h => by simp [h, SocketState.armed] at ha,
    fun h => absurd (ha.symm.trans h) Bool.false_ne_true, hc⟩

theorem isEmpty_iff (r : Reasons) : r.isEmpty = true ↔ r = {} := by
  cases r; simp [Reasons.isEmpty, and_assoc]

theorem armedState_running (r : Reasons) : r.armedState = .running ↔ r = {} := by
  rw [← isEmpty_iff]; unfold Reasons.armedState; split <;> simp_all

theorem armedState_suspect (r : Reasons) : r.armedState = .suspect ↔ r ≠ {} := by
  rw [Ne, ← isEmpty_iff]; unfold Reasons.armedState; split <;> simp_all

theorem reasoned_lasting : Lasting Socket.Reasoned where
  marks := fun {k k' a b} h hm => by
    simp only [Socket.marks, Prod.mk.injEq] at hm
    simpa [Socket.Reasoned, hm] using h
  lanes := fun _ _ ⟨_, _, _, hc⟩ ha => reasoned_of_unarmed ha hc
  retired := fun ⟨_, _, _, hc⟩ hn => reasoned_of_unarmed hn hc
  checked := fun h => h
  transferred := fun h => h
  idle := fun h => h
  reasoned := fun ⟨_, _, hl, hc⟩ ha hs hk hclean =>
    ⟨(armedState_running _).mp, (armedState_suspect _).mp, fun _ => ⟨hs (hl ha).1, hk (hl ha).2⟩, hclean hc⟩
  clean := fun _ ⟨hr, hs, hl, _⟩ hscore => ⟨hr, hs, hl, fun h => absurd (h.symm.trans hscore) Bool.false_ne_true⟩
  valued := fun ⟨hr, hs, hl, hc⟩ _ hstate _ => by
    rcases hstate with rfl | hn
    · exact ⟨hr, hs, hl, hc⟩
    · exact reasoned_of_unarmed hn hc
  armCleared := fun _ _ ha => reasoned_of_unarmed ha fun _ => rfl
  released := fun _ ha => reasoned_of_unarmed ha fun _ => rfl
  runCleared := fun _ ha => reasoned_of_unarmed ha fun _ => rfl
  started := fun _ hr hc _ => ⟨fun _ => hr, nofun, fun _ => by simp [hr], fun _ => hc⟩
  fresh := reasoned_of_unarmed rfl fun _ => rfl

/-- Settles O8: both invariants are lasting rules about one socket and its lanes. -/
theorem stepKeepsSocketBounds : Obligations.StepKeepsSocketBounds := fun s t h =>
  ⟨fun ht hr => (each_bounded_iff t).mp (bounded_lasting.step ((each_bounded_iff s).mpr ⟨ht, hr⟩) h),
    fun hs => (each_reasoned_iff t).mp (reasoned_lasting.step ((each_reasoned_iff s).mpr hs) h)⟩

end Sys2Proof.Machine
end

/-! ## The socket commands (R6 to R11) -/

section
namespace Sys2Proof.Machine

theorem mem_namedSockets {set : BitVec 32} {i : SocketId} : i ∈ namedSockets set ↔ set.getLsbD i.val = true := by
  simp [namedSockets, allSockets]

theorem namedSockets_nodup (set : BitVec 32) : ((namedSockets set).map id).Nodup := by
  rw [List.map_id]; exact (List.nodup_finRange 32).filter _

/-- A socket command is refused whole with STATE if a named socket refuses (R6). -/
theorem socketCommand_refused {s : State} (hs : s.Ready) {set : BitVec 32} {refuses : SocketState → Bool}
    {act : SocketId → State → State} (h : ∃ i : SocketId, set.getLsbD i.val = true ∧ refuses (s.socket i).state = true)
    (src tag code : Byte) :
    s.deliver src tag code (State.socketCommand set refuses act) = s.replied src tag code .state [] := by
  have hany : (namedSockets set).any (fun i => refuses (s.socket i).state) = true :=
    List.any_eq_true.mpr (h.imp fun i hi => ⟨mem_namedSockets.mpr hi.1, hi.2⟩)
  rw [deliver_ready hs, State.socketCommand, if_pos hany]
  rfl

/-- Otherwise it is done on each named socket (R6). -/
theorem socketCommand_taken {s : State} (hs : s.Ready) {set : BitVec 32} {refuses : SocketState → Bool}
    {act : SocketId → State → State} (h : ∀ i : SocketId, set.getLsbD i.val = true → refuses (s.socket i).state = false)
    (src tag code : Byte) :
    s.deliver src tag code (State.socketCommand set refuses act) =
      (forEach (namedSockets set) act s).replied src tag code .ok [] := by
  have hany : ¬ (namedSockets set).any (fun i => refuses (s.socket i).state) = true := by
    simpa using fun i hi => h i (mem_namedSockets.mp hi)
  rw [deliver_ready hs, State.socketCommand, if_neg hany]
  rfl

/-- The VERDICT records of a loop over sockets in ascending order are those of the whole change (R17). -/
theorem forEach_verdicts {act : SocketId → State → State} (h : ∀ i (s : State), s.Turns i (act i s)) (p : SocketId → Bool)
    (s : State) :
    (forEach (allSockets.filter p) act s).reports = s.created (s.verdicts (forEach (allSockets.filter p) act s)) := by
  have hd : ((allSockets.filter p).map id).Nodup := by rw [List.map_id]; exact (List.nodup_finRange 32).filter _
  have hl := forEach_loops id (fun i s => (h i s).toLocal) hd s
  have hr := forEach_records id h hd s
  generalize forEach (allSockets.filter p) act s = u at hl hr ⊢
  have hv : s.verdicts u = allSockets.filterMap fun i => verdictOf i (s.socket i).state (u.socket i) s.runSeconds := by
    rw [← hl.checked.runSeconds]; rfl
  rw [hr, hv, List.filterMap_filter]
  congr 1
  refine List.filterMap_congr fun i _ => ?_
  split <;> rename_i hp
  · rfl
  · rw [verdictOf_same (by rw [(hl.other (by simp [hp])).socket])]

/-- What a socket command leaves alone, with its VERDICT records (R17), for an act on one socket. -/
theorem namedSockets_turns {act : SocketId → State → State} (h : ∀ i (s : State), s.Turns i (act i s)) (set : BitVec 32)
    (s : State) :
    s.Loops id (namedSockets set) act (forEach (namedSockets set) act s) ∧
      (forEach (namedSockets set) act s).reports = s.created (s.verdicts (forEach (namedSockets set) act s)) :=
  ⟨forEach_loops id (fun i s => (h i s).toLocal) (namedSockets_nodup set) s, forEach_verdicts h _ s⟩

/-- The switch of a socket is as the rule gives it, in the terms of the socket itself (R87). -/
theorem switchRule_updSocket (s : State) (i : SocketId) (f : Socket → Socket) :
    (s.updSocket i f).switchRule i =
      ((f (s.socket i)).populated && (f (s.socket i)).hold.isNone &&
        (s.zone (f (s.socket i)).zone).search.candidate != some i && (s.zone (f (s.socket i)).zone).rail.state.powered) := by
  simp [State.switchRule]

/-- Settles O43: the loop over the named sockets, each released alone. -/
theorem releaseEndsBurnIn : Obligations.ReleaseEndsBurnIn := by
  intro src tag sockets s hs
  refine ⟨fun ⟨i, hi, hk⟩ => congrArg _ (socketCommand_refused hs ⟨i, hi, by simp [hk]⟩ ..), fun hn => ?_⟩
  obtain ⟨hl, hr⟩ := namedSockets_turns releaseSocket_turns sockets s
  refine ⟨_, congrArg _ (socketCommand_taken hs (fun i hi => by simpa using hn i hi) ..), hl.checked.zones, hl.checked.step,
    hl.checked.engine, hl.checked.runSeconds, hr, fun i => ⟨fun hi => ?_, fun hi => ?_⟩⟩
  · exact (hl.other (mt mem_namedSockets.mp hi)).socket
  · obtain ⟨t, ht, hu⟩ := hl.socket (mem_namedSockets.mpr hi)
    have hv := hu.socket
    rw [releaseSocket_socket, switchRule_updSocket, ht.socket, switched_cases] at hv
    simp [hv, ht.checked.zone, Socket.toState, Socket.released]

/-- A hold other than SHORT and RUNAWAY is placed where there is none, and keeps one of any kind (R16). -/
theorem place_weak {h : Hold} (hs : h ≠ .short) (hr : h ≠ .runaway) (held : Option Hold) : Hold.place held h = some (held.getD h) := by
  unfold Hold.place
  split <;> simp_all

theorem quiet_verdicts_nil {s u : State} {xs : List SocketId} {act : SocketId → State → State} (hl : s.Loops id xs act u)
    (h : ∀ i (s : State), s.Quiet i (act i s)) : s.verdicts u = [] :=
  verdicts_nil fun i => by
    by_cases hi : i ∈ xs
    · obtain ⟨t, ht, hu⟩ := hl.socket hi
      rw [hu.socket, (h i t).state, ht.socket]
    · rw [(hl.other hi).socket]

/-- Settles O44: loops of moves without a record. -/
theorem holdAndRestoreMoveHolds : Obligations.HoldAndRestoreMoveHolds := by
  intro src tag sockets s hs
  have hhold : ∀ i (s : State), s.Quiet i (s.holdSocket i) := fun i s => placeHold_quiet s i .forced
  obtain ⟨hl, hr⟩ := namedSockets_turns (act := State.holdSocket) (fun i s => (hhold i s).turns) sockets s
  obtain ⟨hl', hr'⟩ := namedSockets_turns (act := State.restoreSocket) (fun i s => (restoreSocket_quiet i s).turns) sockets s
  rw [quiet_verdicts_nil hl hhold] at hr
  rw [quiet_verdicts_nil hl' restoreSocket_quiet] at hr'
  refine ⟨⟨_, congrArg _ (socketCommand_taken hs (fun _ _ => rfl) ..), hl.checked.zones, hl.checked.step, hl.checked.engine, hr,
    fun i => ⟨fun hi => (hl.other (mt mem_namedSockets.mp hi)).socket, fun hi => ?_⟩⟩,
    ⟨_, congrArg _ (socketCommand_taken hs (fun _ _ => rfl) ..), hl'.checked.zones, hl'.checked.step, hl'.checked.engine, hr',
    fun i => ⟨fun hi => ?_, fun hi hh => ?_⟩⟩⟩
  · obtain ⟨t, ht, hu⟩ := hl.socket (mem_namedSockets.mpr hi)
    have hv := hu.socket
    rw [State.holdSocket, placeHold_socket, if_pos rfl, ht.socket, switched_cases, place_weak (by simp) (by simp)] at hv
    simp [hv]
  · by_cases hm : i ∈ namedSockets sockets
    · obtain ⟨t, ht, hu⟩ := hl'.socket hm
      have hh := hi.resolve_left (not_not.mpr (mem_namedSockets.mp hm))
      rw [hu.socket, State.restoreSocket, if_pos (by rw [ht.socket, hh]; rfl), ht.socket]
    · exact (hl'.other hm).socket
  · obtain ⟨t, ht, hu⟩ := hl'.socket (mem_namedSockets.mpr hi)
    have hv := hu.socket
    rw [State.restoreSocket, if_neg (by rw [ht.socket]; simpa using hh), evaluateSwitch_socket, if_pos rfl,
      State.updSocket_socket_same, switchRule_updSocket, ht.socket, switched_cases] at hv
    simp [hv, ht.checked.zone]

/-- A SCORE or FORCED finding on an armed socket: it is FAILED, with hold FAIL under isolate_on_fail where there is no hold
(R11, R14, R16, R43). -/
theorem finding_weak_socket {s : State} {i : SocketId} {c : FailCause} (ha : (s.socket i).state.armed = true)
    (hc : c = .score ∨ c = .forced) :
    (s.finding i c).socket i =
      { s.socket i with
        state := .failed, cause := some c, qualified := false
        hold := if (s.policyOf i).isolateOnFail then some ((s.socket i).hold.getD .fail) else (s.socket i).hold
        switch := ((s.finding i c).socket i).switch
        estimate := ((s.finding i c).socket i).estimate } := by
  have hhold : c.hold (s.policyOf i).isolateOnFail = if (s.policyOf i).isolateOnFail then some .fail else none := by
    rcases hc with rfl | rfl <;> rfl
  have hf : SocketState.armed .failed = false := rfl
  rw [finding_socket, ha, hhold]
  dsimp only
  cases (s.policyOf i).isolateOnFail
  · simp [placeHold?_socket, Socket.toState, ha, hf]
  · rw [if_pos rfl, if_pos rfl, placeHold?_socket]
    dsimp only
    rw [switched_cases, place_weak (by simp) (by simp)]
    simp [Socket.toState, ha, hf]

/-- Settles O45: the finding FORCED on each named socket. -/
theorem failForcesVerdict : Obligations.FailForcesVerdict := by
  intro src tag sockets s hs
  refine ⟨fun ⟨i, hi, hk⟩ => congrArg _ (socketCommand_refused hs ⟨i, hi, by simp [hk]⟩ ..), fun hn => ?_⟩
  obtain ⟨hl, hr⟩ := namedSockets_turns (act := State.failSocket) (fun i s => finding_turns s i .forced) sockets s
  refine ⟨_, congrArg _ (socketCommand_taken hs (fun i hi => by simpa using hn i hi) ..), hl.checked.zones, hl.checked.step,
    hl.checked.engine, hl.checked.runSeconds, hr, fun i => ⟨fun hi => ?_, fun hi => ?_⟩⟩
  · exact (hl.other (mt mem_namedSockets.mp hi)).socket
  · obtain ⟨t, ht, hu⟩ := hl.socket (mem_namedSockets.mpr hi)
    have hv := hu.socket
    rw [State.failSocket, finding_weak_socket (ht.socket ▸ hn i hi) (.inr rfl), ht.socket, ht.policyOf] at hv
    simp [hv]

/-! ### SOCKET_ARM (R7) -/

/-- A socket without a qualification flag or an estimate loses nothing with its switch. -/
theorem switched_bare {k : Socket} (hq : k.qualified = false) (he : k.estimate = none) (on : Bool) :
    k.switched on = { k with switch := on } := by
  cases k with
  | mk populated zone policy target tjOffset tjSlope state switch =>
    subst hq he
    cases switch <;> cases on <;> rfl

/-- What the burn-in of a cleared socket begins with: COMPLETE where its target is met, with the DONE hold of R15, and RUNNING
otherwise. -/
theorem armSocket_socket {clear : Bool} {i : SocketId} {s : State} (ha : (s.socket i).state.armed = false) :
    (s.armSocket clear i).socket i =
      let k := (s.socket i).armReset clear
      { k with
        state := if k.targetMet then .complete else .running
        hold := if k.targetMet ∧ (s.policyOf i).stopOnComplete = true then some (k.hold.getD .done) else k.hold
        switch := ((s.armSocket clear i).socket i).switch } := by
  have hp : (s.armReset clear i).policyOf i = s.policyOf i := by
    rw [State.policyOf, armReset_socket]; rfl
  have hq : ((s.socket i).armReset clear).qualified = false := rfl
  have he : ((s.socket i).armReset clear).estimate = none := rfl
  rw [armSocket_eq, ha]
  dsimp only
  cases hm : ((s.socket i).armReset clear).targetMet
  · simp [changeState_socket_eq, Socket.toState, hq]
  · simp only [Bool.false_eq_true, if_false, if_true, true_and, complete_socket, hp, placeHold?_socket, armReset_socket]
    cases (s.policyOf i).stopOnComplete
    · simp [Socket.toState, hq]
    · simp only [if_true]
      rw [switched_bare (by exact hq) (by exact he), place_weak (by simp) (by simp)]
      simp [Socket.toState, hq]

/-- SOCKET_ARM leaves the lanes of a socket it clears with no more than a gate's raw count (R7, R142, R150). -/
theorem armSocket_lane {clear : Bool} {i : SocketId} {s : State} (ha : (s.socket i).state.armed = false) {n : LaneId}
    (hn : laneSocket n = i) :
    (s.armSocket clear i).lane n = { row := (s.lane n).row, gate := { raw := ((s.armSocket clear i).lane n).gate.raw } } := by
  have hreset : (s.armReset clear i).lane n = { row := (s.lane n).row, gate := { raw := ((s.armReset clear i).lane n).gate.raw } } := by
    rw [armReset_lane s clear i hn]; rfl
  rw [armSocket_eq, ha]
  simp only [Bool.false_eq_true, if_false]
  split
  · rw [State.complete, changeState_lane, placeHold?_lane, hreset]
  · rw [changeState_lane]; exact hreset

/-- Settles O42: the loop over the named sockets, each armed alone. -/
theorem armStartsBurnIn : Obligations.ArmStartsBurnIn := by
  intro src tag sockets options s hs
  refine ⟨fun ⟨i, hi, hk⟩ => congrArg _ (socketCommand_refused hs ⟨i, hi, by simp [hk]⟩ ..), fun hn => ?_⟩
  obtain ⟨hl, hr⟩ := namedSockets_turns (act := State.armSocket (options.getLsbD 0)) (armSocket_turns (options.getLsbD 0)) sockets s
  refine ⟨_, congrArg _ (socketCommand_taken hs (fun i hi => by simpa using hn i hi) ..), hl.checked.zones, hl.checked.step,
    hl.checked.engine, hl.checked.runSeconds, hr, fun i => ⟨fun hi => ?_, fun hi ha => ?_⟩⟩
  · have hb : s.Beside i (forEach (namedSockets sockets) (State.armSocket (options.getLsbD 0)) s) := by
      by_cases hm : i ∈ namedSockets sockets
      · obtain ⟨t, ht, hu⟩ := hl.socket hm
        rw [armSocket_eq, if_pos (ht.socket ▸ hi.resolve_left (not_not.mpr (mem_namedSockets.mp hm)))] at hu
        exact ht.trans hu
      · exact hl.other hm
    exact ⟨hb.socket, hb.lanes _ (laneSocket_primary i), hb.lanes _ (laneSocket_secondary i)⟩
  · obtain ⟨t, ht, hu⟩ := hl.socket (mem_namedSockets.mpr hi)
    have hta : (t.socket i).state.armed = false := ht.socket ▸ ha
    have hv := hu.socket
    have hp := hu.lanes _ (laneSocket_primary i)
    have hq := hu.lanes _ (laneSocket_secondary i)
    rw [armSocket_socket hta, ht.socket, ht.policyOf] at hv
    rw [armSocket_lane hta (laneSocket_primary i)] at hp
    rw [armSocket_lane hta (laneSocket_secondary i)] at hq
    simp only [hv, hp, hq]
    simp [Socket.armReset, Socket.armCleared, targetMet_iff]

end Sys2Proof.Machine
end

/-! ## SNAPSHOT (R39 to R46) -/

section
namespace Sys2Proof.Machine

/-- An armed socket with a new reason set stays armed, and so keeps its qualification flag. -/
theorem reasoned_armed {k : Socket} (ha : k.state.armed = true) (r : Reasons) :
    k.reasoned r = { k with reasons := r, state := r.armedState } := by
  simp [Socket.reasoned, Socket.toState, ha]

theorem withScore_self {r : Reasons} {b : Bool} (h : r.score = b) : ({ r with score := b } : Reasons) = r := by
  subst h; rfl

/-- The suspect and clean evaluation moves SCORE and the clean count by the table of R44, and keeps the socket armed. -/
theorem scored_cases {k : Socket} (ha : k.state.armed = true) (p : Policy) :
    ∃ state : SocketState, state.armed = true ∧ k.scored p =
      { k with
        state
        reasons := { k.reasons with
          score := if p.suspectThreshold ≤ k.last then true else k.reasons.score && decide (k.clean + 1 < p.clearK) }
        clean :=
          if k.reasons.score = true then if p.suspectThreshold ≤ k.last ∨ p.clearK ≤ k.clean + 1 then 0 else k.clean + 1
          else k.clean } := by
  have hc : ({ k with clean := 0 } : Socket).state.armed = true := ha
  unfold Socket.scored
  by_cases hs : p.suspectThreshold ≤ k.last <;> cases hr : k.reasons.score
  · exact ⟨_, armedState_armed { k.reasons with score := true }, by simp [hs, reasoned_armed ha]⟩
  · exact ⟨_, ha, by simp [hs, withScore_self hr]⟩
  · exact ⟨_, ha, by simp [hs, withScore_self hr]⟩
  · by_cases hk : p.clearK ≤ k.clean + 1
    · exact ⟨_, armedState_armed { k.reasons with score := false }, by
        simp [hs, hk, reasoned_armed hc, Nat.not_lt.mpr hk]⟩
    · exact ⟨_, ha, by simp [hs, hk, withScore_self hr, Nat.not_le.mp hk]⟩

/-- The state in which a transfer treats its sockets (R39). -/
def State.transferBegun (s : State) : State := { s with transferNumber := satSucc Config.longTop s.transferNumber }

/-- The state of a transfer before its SUMMARY record. Irreducible, so that no unifier runs its 32 turns. -/
@[irreducible] def State.transferDone (s : State) : State := forEach allSockets (fun i s => s.transferSocket i) s.transferBegun

theorem transfer_eq (s : State) :
    s.transfer =
      if (s.transferDone.summaryEntries s.judged).isEmpty then s.transferDone
      else s.transferDone.report (.summary s.transferDone.transferNumber (s.transferDone.summaryEntries s.judged)) := by
  unfold State.transferDone; rfl

theorem transferDone_loops (s : State) :
    s.transferBegun.Loops id allSockets (fun i s => s.transferSocket i) s.transferDone := by
  unfold State.transferDone
  exact forEach_loops id (fun i s => (transferSocket_turns s i).toLocal) (by rw [List.map_id]; exact List.nodup_finRange 32) _

theorem transferDone_socket (s : State) (i : SocketId) :
    ∃ t, s.transferBegun.Beside i t ∧ s.transferDone.socket i = (t.transferSocket i).socket i := by
  obtain ⟨t, ht, hu⟩ := (transferDone_loops s).socket (i := i) (List.mem_finRange i)
  exact ⟨t, ht, hu.socket⟩

/-- At a transfer a socket that is not armed drops its score (R41). -/
theorem transferDone_unarmed {s : State} {i : SocketId} (h : (s.socket i).state.armed = false) :
    s.transferDone.socket i = { s.socket i with running := 0 } := by
  obtain ⟨t, ht, hv⟩ := transferDone_socket s i
  have hk : t.socket i = s.socket i := ht.socket
  rw [hv, State.transferSocket, if_neg (by simp [hk, h]), State.updSocket_socket_same, hk]

theorem transferred_policyOf (s : State) (i : SocketId) : (s.updSocket i Socket.transferred).policyOf i = s.policyOf i := by
  rw [State.policyOf, State.updSocket_socket_same]; rfl

/-- An armed socket whose history fails has the finding SCORE (R43). -/
theorem transferDone_failed {s : State} {i : SocketId} (h : (s.socket i).state.armed = true)
    (hf : (s.policyOf i).failsHistory (s.socket i).transferred.history = true) :
    s.transferDone.socket i =
      { (s.socket i).transferred with
        state := .failed, cause := some .score, qualified := false
        hold := if (s.policyOf i).isolateOnFail then some ((s.socket i).hold.getD .fail) else (s.socket i).hold
        switch := (s.transferDone.socket i).switch
        estimate := (s.transferDone.socket i).estimate } := by
  obtain ⟨t, ht, hv⟩ := transferDone_socket s i
  have hk : t.socket i = s.socket i := ht.socket
  have hp : t.policyOf i = s.policyOf i := ht.policyOf
  have ha : ((t.updSocket i Socket.transferred).socket i).state.armed = true := by
    rw [State.updSocket_socket_same, hk]; exact h
  rw [hv, transferSocket_armed (hk ▸ h), hp, hk, if_pos hf, finding_weak_socket ha (.inl rfl),
    transferred_policyOf, hp, State.updSocket_socket_same, hk]
  rfl

/-- Another armed socket has its score judged (R44). -/
theorem transferDone_scored {s : State} {i : SocketId} (h : (s.socket i).state.armed = true)
    (hf : (s.policyOf i).failsHistory (s.socket i).transferred.history = false) :
    s.transferDone.socket i = (s.socket i).transferred.scored (s.policyOf i) := by
  obtain ⟨t, ht, hv⟩ := transferDone_socket s i
  have hk : t.socket i = s.socket i := ht.socket
  have hp : t.policyOf i = s.policyOf i := ht.policyOf
  have ha : ((t.updSocket i Socket.transferred).socket i).state.armed = true := by
    rw [State.updSocket_socket_same, hk]; exact h
  rw [hv, transferSocket_armed (hk ▸ h), hp, hk, if_neg (by simp [hf]), judgeScore_socket ha,
    transferred_policyOf, hp, State.updSocket_socket_same, hk]

/-- A transfer leaves an armed socket's score as its last score (R40). -/
theorem transferDone_last {s : State} {i : SocketId} (h : (s.socket i).state.armed = true) :
    (s.transferDone.socket i).last = (s.socket i).running := by
  cases hf : (s.policyOf i).failsHistory (s.socket i).transferred.history with
  | true => rw [transferDone_failed h hf]; rfl
  | false =>
    obtain ⟨_, -, e⟩ := scored_cases (k := (s.socket i).transferred) h (s.policyOf i)
    rw [transferDone_scored h hf, e]
    rfl

/-- The pairs of the SUMMARY record: the scores transferred that are not 0 (R46). -/
theorem transferDone_entries (s : State) :
    s.transferDone.summaryEntries s.judged =
      (allSockets.filter fun i => (s.socket i).state.armed && (s.socket i).running != 0).map fun i =>
        (i, (s.socket i).running) := by
  have hlast : (s.judged.map fun i => (i, (s.transferDone.socket i).last)) = s.judged.map fun i => (i, (s.socket i).running) :=
    List.map_congr_left fun i hi => by rw [transferDone_last (mem_judged.mp hi)]
  rw [State.summaryEntries, hlast, List.filter_map, State.judged, List.filter_filter]
  congr 1
  exact List.filter_congr fun i _ => Bool.and_comm ..

theorem be_one (n : Nat) : be 1 n = [BitVec.ofNat 8 n] := by simp [be]

/-- The newest eight scores with the one transferred (R40). -/
theorem transferred_history (k : Socket) :
    k.transferred.history = (k.history ++ [k.running]).drop (k.history.length + 1 - 8) := by
  rw [List.drop_append_of_le_length (by omega)]
  rfl

/-- The SUMMARY record moves nothing but the Report Queue. -/
theorem transfer_cases (s : State) : ∃ reports, s.transfer = { s.transferDone with reports } := by
  rw [transfer_eq]
  split
  · exact ⟨_, rfl⟩
  · exact ⟨_, report_state ..⟩

/-- The records of a transfer: VERDICT records, and then one SUMMARY record if a score transferred is not 0 (R17, R46). -/
theorem transfer_reports (s : State) :
    let entries := s.transferDone.summaryEntries s.judged
    s.transfer.reports = s.created
      (s.verdicts s.transfer ++ if entries = [] then [] else [.summary (satSucc Config.longTop s.transferNumber) entries]) := by
  have hrep := forEach_verdicts (act := fun i s => s.transferSocket i) (fun i s => transferSocket_turns s i) (fun _ => true)
    s.transferBegun
  rw [List.filter_true] at hrep
  have hdone : s.transferDone.reports = s.created (s.verdicts s.transferDone) := by unfold State.transferDone; exact hrep
  have hset : s.transferDone.settings = s.settings := (transferDone_loops s).checked.settings
  have hnum : s.transferDone.transferNumber = satSucc Config.longTop s.transferNumber :=
    (transferDone_loops s).checked.transferNumber
  obtain ⟨_, hu⟩ := transfer_cases s
  have hv : s.verdicts s.transfer = s.verdicts s.transferDone := by rw [hu]; rfl
  intro entries
  rw [hv, transfer_eq]
  by_cases he : entries = []
  · rw [if_pos (List.isEmpty_iff.mpr he), if_pos he, List.append_nil, hdone]
  · rw [if_neg (mt List.isEmpty_iff.mp he), if_neg he, report_created hdone hset, hnum]

/-- Settles O46: the transfer's loop over all sockets, and its SUMMARY record. -/
theorem snapshotTransfersScores : Obligations.SnapshotTransfersScores := by
  intro src tag s hs
  have hexec : exec (.snapshot src tag) s = .next (s.deliver src tag 64 State.takeSnapshot) := rfl
  rw [hexec, deliver_ready hs, State.takeSnapshot]
  refine ⟨fun hm => by rw [hm]; rfl, fun hm => ?_⟩
  intro entries
  have hentries : s.transferDone.summaryEntries s.judged = entries := transferDone_entries s
  have hframe := (transferDone_loops s).checked
  obtain ⟨_, hu⟩ := transfer_cases s
  have hsocket : ∀ i, s.transfer.socket i = s.transferDone.socket i := fun i => by rw [hu]; rfl
  have hreports := transfer_reports s
  rw [hentries] at hreports
  refine ⟨s.transfer, ?_, ?_, ?_, ?_, ?_, hreports, fun i => ⟨fun ha => ?_, fun ha => ?_⟩⟩
  · rw [hm, be_one, State.judged, ← List.countP_eq_length_filter]; rfl
  · rw [hu]; exact hframe.transferNumber
  · rw [hu]; exact hframe.zones
  · rw [hu]; exact hframe.step
  · rw [hu]; exact hframe.runSeconds
  · rw [hsocket, transferDone_unarmed ha]
  rw [hsocket, ← transferred_history]
  cases hf : (s.policyOf i).failsHistory (s.socket i).transferred.history
  · obtain ⟨state, hstate, e⟩ := scored_cases (k := (s.socket i).transferred) ha (s.policyOf i)
    have hpass := of_decide_eq_false hf
    rw [transferDone_scored ha hf, e]
    exact ⟨rfl, rfl, rfl, rfl, rfl, rfl, fun h => absurd h hpass, fun _ => ⟨hstate, rfl, rfl, rfl, rfl, rfl, rfl⟩⟩
  · have hfail := of_decide_eq_true hf
    rw [transferDone_failed ha hf]
    exact ⟨rfl, rfl, rfl, rfl, rfl, rfl, fun _ => ⟨rfl, rfl, rfl, rfl, rfl⟩, fun h => absurd hfail h⟩

end Sys2Proof.Machine
end

/-! ## The window ends (R147, R149) -/

section
namespace Sys2Proof.Machine

/-- When one socket alone has moved, its VERDICT record is the only one owed (R17). -/
theorem verdicts_one {s u : State} {i : SocketId} (h : ∀ j, j ≠ i → u.socket j = s.socket j) :
    s.verdicts u = (verdictOf i (s.socket i).state (u.socket i) u.runSeconds).toList := by
  have hv : s.verdicts u = allSockets.filterMap fun j => verdictOf j (s.socket j).state (u.socket j) u.runSeconds := rfl
  have hnone : ∀ xs : List SocketId, i ∉ xs →
      xs.filterMap (fun j => verdictOf j (s.socket j).state (u.socket j) u.runSeconds) = [] := fun xs hi =>
    List.filterMap_eq_nil_iff.mpr fun j hj => verdictOf_same (by rw [h j fun e => hi (e ▸ hj)]) _
  obtain ⟨a, b, hab⟩ := List.append_of_mem (List.mem_finRange i)
  have hall : allSockets = a ++ i :: b := hab
  have hd : (a ++ i :: b).Nodup := hab ▸ List.nodup_finRange 32
  have hd' := List.nodup_middle.mp hd
  have hi : i ∉ a ∧ i ∉ b := by simpa using (List.nodup_cons.mp hd').1
  rw [hv, hall, List.filterMap_append, List.filterMap_cons, hnone a hi.1, hnone b hi.2]
  cases verdictOf i (s.socket i).state (u.socket i) u.runSeconds <;> rfl

/-- What a LANE record with a new reason set makes of the sockets and the Report Queue (R12, R13, R17, R56). -/
structure State.LaneReasons (s : State) (n : LaneId) (event : LaneEvent) (reasons : Reasons) (u : State) : Prop where
  others : ∀ j : SocketId, j ≠ laneSocket n → u.socket j = s.socket j
  socket : u.socket (laneSocket n) =
    if (s.socket (laneSocket n)).state.armed = true then
      { s.socket (laneSocket n) with reasons, state := if reasons = {} then .running else .suspect }
    else s.socket (laneSocket n)
  records : u.reports = s.created (Record.lane (laneSocket n) n event :: s.verdicts u)

/-- A lane moves, and its event gives its socket a new reason set. -/
theorem laneReasons (s : State) (n : LaneId) (g : Lane → Lane) (event : LaneEvent) (f : Reasons → Reasons) :
    s.LaneReasons n event (f (s.socket (laneSocket n)).reasons)
      (((s.updLane n g).reportLane n event).setReasons (laneSocket n) f) := by
  have ht : ∀ j, ((s.updLane n g).reportLane n event).socket j = s.socket j := fun j => report_socket ..
  have hc : s.CheckedTo ((s.updLane n g).reportLane n event) :=
    (updLane_local s n g).checked.trans (report_checked ..)
  have hrep : ((s.updLane n g).reportLane n event).reports = s.created [.lane (laneSocket n) n event] :=
    created_one (s.updLane n g) _
  generalize (s.updLane n g).reportLane n event = t at ht hc hrep ⊢
  have hu := setReasons_turns t (laneSocket n) f
  have hothers : ∀ j, j ≠ laneSocket n → (t.setReasons (laneSocket n) f).socket j = s.socket j := fun j hj =>
    (hu.sockets j hj).trans (ht j)
  refine ⟨hothers, ?_, ?_⟩
  · have hstate : ∀ r : Reasons, r.armedState = if r = {} then .running else .suspect := fun r => by
      simp only [Reasons.armedState, isEmpty_iff]
    rw [setReasons_socket, ht]
    split
    · rename_i ha
      rw [reasoned_armed ha, hstate]
    · rfl
  · rw [hu.records, created_append hrep hc.settings, verdicts_one hothers, hu.checked.runSeconds, ht]
    rfl

/-- The reasons that a review leaves a socket, with the lanes of `u` (R13). -/
def State.reviewed (u : State) (i : SocketId) (r : Reasons) : Reasons :=
  { r with stuck := r.stuck && u.stuckAt i, lock := r.lock && u.lostAt i }

/-- A lane moves, and its event has the reasons of its socket reviewed: the review looks at the lanes as they stand after it. -/
theorem laneReviewed (s : State) (n : LaneId) (g : Lane → Lane) (event : LaneEvent) :
    let u := ((s.updLane n g).reportLane n event).reviewReasons (laneSocket n)
    s.LaneReasons n event (u.reviewed (laneSocket n) (s.socket (laneSocket n)).reasons) u := by
  have h := laneReasons s n g event (((s.updLane n g).reportLane n event).reviewed (laneSocket n))
  have hlanes : ∀ r, (((s.updLane n g).reportLane n event).reviewReasons (laneSocket n)).reviewed (laneSocket n) r =
      ((s.updLane n g).reportLane n event).reviewed (laneSocket n) r := fun r => by
    simp [State.reviewed, State.stuckAt, State.lostAt]
  intro u
  rw [hlanes]
  exact h

/-! ### The judgement of a window -/

/-- A PRBS window that agrees with the lock (R147). -/
theorem prbsEndWindow_agrees {p : PrbsCheck} (h : (decide (p.errors ≤ 4) != p.locked) = false) :
    p.endWindow = ({ p with predictions := 0, errors := 0, run := 0 }, none) := by
  simp [PrbsCheck.endWindow, h]

/-- The first one of a run that disagrees. -/
theorem prbsEndWindow_first {p : PrbsCheck} (h : (decide (p.errors ≤ 4) != p.locked) = true) (hr : p.run = 0) :
    p.endWindow = ({ p with predictions := 0, errors := 0, run := 1 }, none) := by
  simp [PrbsCheck.endWindow, h, hr]

/-- The second one changes the lock. -/
theorem prbsEndWindow_second {p : PrbsCheck} (h : (decide (p.errors ≤ 4) != p.locked) = true) (hr : 1 ≤ p.run) :
    p.endWindow =
      ({ p with predictions := 0, errors := 0, run := 0, locked := !p.locked, lockLost := p.locked },
        some (if p.locked then .lockLost else .lockGained)) := by
  have h2 : 2 ≤ p.run + 1 := by omega
  simp only [PrbsCheck.endWindow, h, h2, if_true]
  cases p.locked <;> rfl

/-- A toggle window that agrees with STUCK (R149). -/
theorem toggleEndWindow_agrees {w : ToggleWatch} (h : (decide (w.edges < 4) != w.stuck) = false) :
    w.endWindow = ({ w with cycles := 0, edges := 0, run := 0 }, none) := by
  simp [ToggleWatch.endWindow, h]

/-- The first one of a run that disagrees. -/
theorem toggleEndWindow_first {w : ToggleWatch} (h : (decide (w.edges < 4) != w.stuck) = true) (hr : w.run = 0) :
    w.endWindow = ({ w with cycles := 0, edges := 0, run := 1 }, none) := by
  simp [ToggleWatch.endWindow, h, hr]

/-- The second one changes STUCK. -/
theorem toggleEndWindow_second {w : ToggleWatch} (h : (decide (w.edges < 4) != w.stuck) = true) (hr : 1 ≤ w.run) :
    w.endWindow =
      ({ w with cycles := 0, edges := 0, run := 0, stuck := !w.stuck }, some (if w.stuck then .stuckClear else .stuckSet)) := by
  have h2 : 2 ≤ w.run + 1 := by omega
  simp only [ToggleWatch.endWindow, h, h2, if_true]
  cases w.stuck <;> rfl

/-! ### The ends as the statement says them -/

theorem endPrbsWindow_lane {s : State} {n : LaneId} (h : (s.lane n).prbsWindowDue = true) (m : LaneId) :
    (s.endPrbsWindow n).lane m = if n = m then { s.lane m with prbs := (s.lane m).prbs.endWindow.1 } else s.lane m := by
  rw [endPrbsWindow_eq, if_pos h, lockChanged_lane, State.updLane_lane]
  split
  · rename_i e; rw [e]
  · rfl

theorem endToggleWindow_lane {s : State} {n : LaneId} (h : (s.lane n).toggleWindowDue = true) (m : LaneId) :
    (s.endToggleWindow n).lane m = if n = m then { s.lane m with watch := (s.lane m).watch.endWindow.1 } else s.lane m := by
  rw [endToggleWindow_eq, if_pos h, stuckChanged_lane, State.updLane_lane]
  split
  · rename_i e; rw [e]
  · rfl

/-- A window that changes nothing but its own counts leaves the sockets and the Report Queue. -/
theorem endPrbsWindow_stands {s : State} {n : LaneId} (h : (s.lane n).prbs.endWindow.2 = none) :
    (s.endPrbsWindow n).sockets = s.sockets ∧ (s.endPrbsWindow n).reports = s.reports := by
  rw [endPrbsWindow_eq, h]
  split <;> exact ⟨rfl, rfl⟩

theorem endToggleWindow_stands {s : State} {n : LaneId} (h : (s.lane n).watch.endWindow.2 = none) :
    (s.endToggleWindow n).sockets = s.sockets ∧ (s.endToggleWindow n).reports = s.reports := by
  rw [endToggleWindow_eq, h]
  split <;> exact ⟨rfl, rfl⟩

/-- The second window running that disagrees with the lock changes it, with the reasons that follow (R147, R12, R13). -/
theorem endPrbsWindow_changes {s : State} {n : LaneId} (hd : (s.lane n).prbsWindowDue = true)
    (hg : (decide ((s.lane n).prbs.errors ≤ 4) != (s.lane n).prbs.locked) = true) (hr : 1 ≤ (s.lane n).prbs.run) :
    let r := (s.socket (laneSocket n)).reasons
    let u := s.endPrbsWindow n
    if (s.lane n).prbs.locked = true then s.LaneReasons n .lockLost { r with lock := true } u
    else s.LaneReasons n .lockGained (u.reviewed (laneSocket n) r) u := by
  rw [endPrbsWindow_eq, if_pos hd, prbsEndWindow_second hg hr]
  intro r u
  split <;> rename_i hl <;> simp only [u, hl]
  · exact laneReasons s n _ .lockLost fun r => { r with lock := true }
  · exact laneReviewed s n _ .lockGained

/-- The second window running that disagrees with STUCK changes it, with the reasons that follow (R149, R12, R13). -/
theorem endToggleWindow_changes {s : State} {n : LaneId} (hd : (s.lane n).toggleWindowDue = true)
    (hg : (decide ((s.lane n).watch.edges < 4) != (s.lane n).watch.stuck) = true) (hr : 1 ≤ (s.lane n).watch.run) :
    let r := (s.socket (laneSocket n)).reasons
    let u := s.endToggleWindow n
    if (s.lane n).watch.stuck = true then s.LaneReasons n .stuckClear (u.reviewed (laneSocket n) r) u
    else s.LaneReasons n .stuckSet { r with stuck := true } u := by
  rw [endToggleWindow_eq, if_pos hd, toggleEndWindow_second hg hr]
  intro r u
  split <;> rename_i hl <;> simp only [u, hl]
  · exact laneReviewed s n _ .stuckClear
  · exact laneReasons s n _ .stuckSet fun r => { r with stuck := true }

/-- Settles O59: the judgement of the window, then the LANE record and the reasons its event gives. -/
theorem windowEndsJudgeLanes : Obligations.WindowEndsJudgeLanes := by
  intro n s i k p w stands changes reviewed
  have hprbs : exec (.prbsWindowEnd n) s = .next (s.endPrbsWindow n).arbitrate := rfl
  have htoggle : exec (.toggleWindowEnd n) s = .next (s.endToggleWindow n).arbitrate := rfl
  refine ⟨fun h => ?_, fun h => ?_, fun h => ?_, fun h => ?_⟩
  · have hd : (s.lane n).prbsWindowDue = false := decide_eq_false (Nat.not_le_of_lt h)
    rw [hprbs, endPrbsWindow_eq, hd]; rfl
  · have hd : (s.lane n).prbsWindowDue = true := decide_eq_true h
    have hc := (endPrbsWindow_local s n).checked
    have hlane := endPrbsWindow_lane hd
    have hn := (hlane n).trans (if_pos rfl)
    refine ⟨_, hprbs, hc.zones, hc.runSeconds, fun m hm => (hlane m).trans (if_neg hm.symm), ?_⟩
    rw [hn]
    refine ⟨rfl, rfl, rfl, fun hg => ?_, fun hg hr => ?_, fun hg hr => ?_⟩
    · exact ⟨congrArg Prod.fst (prbsEndWindow_agrees hg), endPrbsWindow_stands (congrArg Prod.snd (prbsEndWindow_agrees hg))⟩
    · exact ⟨congrArg Prod.fst (prbsEndWindow_first hg hr),
        endPrbsWindow_stands (congrArg Prod.snd (prbsEndWindow_first hg hr))⟩
    · refine ⟨congrArg Prod.fst (prbsEndWindow_second hg hr), ?_⟩
      have hu := endPrbsWindow_changes hd hg hr
      split <;> rename_i hl
      · rw [if_pos hl] at hu; exact ⟨hu.others, hu.socket, hu.records⟩
      · rw [if_neg hl] at hu; exact ⟨hu.others, hu.socket, hu.records⟩
  · have hd : (s.lane n).toggleWindowDue = false := decide_eq_false (Nat.not_le_of_lt h)
    rw [htoggle, endToggleWindow_eq, hd]; rfl
  · have hd : (s.lane n).toggleWindowDue = true := decide_eq_true h
    have hc := (endToggleWindow_local s n).checked
    have hlane := endToggleWindow_lane hd
    have hn := (hlane n).trans (if_pos rfl)
    refine ⟨_, htoggle, hc.zones, hc.runSeconds, fun m hm => (hlane m).trans (if_neg hm.symm), ?_⟩
    rw [hn]
    refine ⟨rfl, rfl, rfl, fun hg => ?_, fun hg hr => ?_, fun hg hr => ?_⟩
    · exact ⟨congrArg Prod.fst (toggleEndWindow_agrees hg), endToggleWindow_stands (congrArg Prod.snd (toggleEndWindow_agrees hg))⟩
    · exact ⟨congrArg Prod.fst (toggleEndWindow_first hg hr),
        endToggleWindow_stands (congrArg Prod.snd (toggleEndWindow_first hg hr))⟩
    · refine ⟨congrArg Prod.fst (toggleEndWindow_second hg hr), ?_⟩
      have hu := endToggleWindow_changes hd hg hr
      split <;> rename_i hl
      · rw [if_pos hl] at hu; exact ⟨hu.others, hu.socket, hu.records⟩
      · rw [if_neg hl] at hu; exact ⟨hu.others, hu.socket, hu.records⟩

end Sys2Proof.Machine
end

/-! ## Power-on reset (R18) -/

section
namespace Sys2Proof.Machine

@[simp] theorem reset_socket (i : SocketId) : State.reset.socket i = {} := Table.get_fill ..

@[simp] theorem reset_zone (z : ZoneId) : State.reset.zone z = {} := Table.get_fill ..

@[simp] theorem reset_lane (n : LaneId) : State.reset.lane n = {} := Table.get_fill ..

/-- Settles O3: every row is the reset record. -/
theorem resetSocketRecords : Obligations.ResetSocketRecords := fun i => by
  rw [reset_socket]
  decide

/-- Every rail and heat is off at reset, so no trip asks for the HALT line (R166). -/
theorem reset_outputFollows : State.reset.OutputFollows := by
  simp only [State.OutputFollows, State.anyHaltSource, reset_zone]
  decide

/-- The staged step is empty, the engine stopped, and no zone has a target or a goal (R157, R165). -/
theorem reset_stepConsistent : State.reset.StepConsistent :=
  ⟨fun _ => rfl, fun _ => rfl, fun _ z => ⟨Table.get_fill .., Table.get_fill .., by rw [reset_zone], by rw [reset_zone]⟩⟩

/-- No lane is in FREQ mode at reset, and no gate runs (R141, R150). -/
theorem reset_gatesRun : State.reset.GatesRun := by
  simp [State.GatesRun, State.freqLane]

/-- The reset records of a zone hang together. -/
theorem fresh_railConsistent : Zone.RailConsistent {} := by simp [Zone.RailConsistent, RailState.powered]

theorem fresh_heatConsistent : Heat.Consistent {} := by simp [Heat.Consistent, ThermalState.lawful]

theorem fresh_watched : Zone.Watched {} := by simp [Zone.Watched, RailState.powered]

theorem reset_haltHolds : State.reset.HaltHolds := ⟨nofun, nofun⟩

theorem reset_transmittersServe : State.reset.TransmittersServe := ⟨fun _ _ => ⟨rfl, rfl⟩, fun _ => rfl, nofun, nofun⟩

theorem reset_engineConsistent : State.reset.EngineConsistent := ⟨nofun, nofun, by decide⟩

theorem reset_queuesBounded : State.reset.QueuesBounded := ⟨by decide, by decide, by decide, by decide, by decide⟩

/-- The two rules about sockets and their lanes hold of the reset records (R18). -/
theorem reset_each {G : Socket → Bool → Bool → Prop} (hG : Lasting G) : State.reset.Each G := fun i => by
  simpa [State.stuckAt, State.lostAt] using hG.fresh

/-- Settles O5: the invariants of records follow from the reset records, and the others hold of the link, the step and the
engine at reset. -/
theorem resetStateIsSound : Obligations.ResetStateIsSound := by
  obtain ⟨htargets, hrange⟩ := (each_bounded_iff _).mp (reset_each bounded_lasting)
  have hrails : State.reset.RailsConsistent := fun z => (reset_zone z).symm ▸ fresh_railConsistent
  have hheat : State.reset.HeatConsistent := fun z => (reset_zone z).symm ▸ fresh_heatConsistent
  have htimers : State.reset.TimersWatched := fun z => (reset_zone z).symm ▸ fresh_watched
  have hswitches : State.reset.SwitchesFollow := fun i => by simp [State.switchRule]
  have hqualified : State.reset.QualifiedHold := fun i => by simp
  exact ⟨reset_queuesBounded, fun _ => rfl, hswitches, reset_outputFollows, htargets, hrange, hrails, hheat, htimers,
    reset_haltHolds, reset_transmittersServe, hqualified, reset_stepConsistent, reset_gatesRun, reset_engineConsistent,
    (each_reasoned_iff _).mp (reset_each reasoned_lasting)⟩

end Sys2Proof.Machine
end

/-! ## SOCKET_TABLE_WRITE (R1 to R5) -/

section
namespace Sys2Proof.Machine

/-! ### Row numbers and rows -/

theorem lookup_eq_some_of_mem {α β : Type} [DecidableEq α] {rows : List (α × β)} (hd : (rows.map Prod.fst).Nodup) {a : α} {b : β}
    (h : (a, b) ∈ rows) : rows.lookup a = some b := by
  obtain ⟨before, after, rfl⟩ := List.append_of_mem h
  refine List.lookup_eq_some_iff.mpr ⟨before, after, rfl, fun p hp => ?_⟩
  rw [List.map_append, List.map_cons] at hd
  have ha : a ∉ before.map Prod.fst := fun hm => (List.nodup_append.mp hd).2.2 a hm a List.mem_cons_self rfl
  simpa using fun e : a = p.1 => ha (e ▸ List.mem_map_of_mem hp)

theorem mem_of_lookup {α β : Type} [DecidableEq α] {rows : List (α × β)} {a : α} {b : β} (h : rows.lookup a = some b) :
    (a, b) ∈ rows := by
  obtain ⟨before, after, rfl, -⟩ := List.lookup_eq_some_iff.mp h
  simp

/-- A row of a bank is written exactly when the write names its number. -/
theorem mem_rowsOf {n : Nat} [NeZero n] {rows : List (Nat × RowWrite)} (hd : (rows.map Prod.fst).Nodup)
    (hn : ∀ row ∈ rows, row.1 < n) {i : Fin n} {w : RowWrite} : (i, w) ∈ rowsOf n rows ↔ rows.lookup i.val = some w := by
  constructor
  · intro h
    obtain ⟨row, hrow, e⟩ := List.mem_map.mp h
    obtain ⟨rfl, rfl⟩ := Prod.mk.inj e
    have hval : (Fin.ofNat n row.1).val = row.1 := Nat.mod_eq_of_lt (hn row hrow)
    rw [hval]
    exact lookup_eq_some_of_mem hd hrow
  · intro h
    exact List.mem_map.mpr ⟨_, mem_of_lookup h, by simp⟩

theorem rowWriteAt_some {rows : List (Nat × RowWrite)} {n : Nat} {w : RowWrite} (h : rows.lookup n = some w) :
    rowWriteAt rows n = w := by
  rw [rowWriteAt, h]; rfl

theorem rowWriteAt_none {rows : List (Nat × RowWrite)} {n : Nat} (h : rows.lookup n = none) : rowWriteAt rows n = [] := by
  rw [rowWriteAt, h]; rfl

/-! ### What the effects of a written row keep -/

/-- A socket but for what the effects of a written row move: its state, its hold and its switch, and what these take away. -/
def Socket.record (k : Socket) : Socket :=
  { k with state := .vacant, hold := none, switch := false, qualified := false, estimate := none }

theorem fields_of_record {k k' : Socket} (h : k'.record = k.record) :
    (k'.populated = k.populated ∧ k'.zone = k.zone ∧ k'.policy = k.policy ∧ k'.target = k.target ∧ k'.tjOffset = k.tjOffset ∧
      k'.tjSlope = k.tjSlope) ∧
    (k'.credit = k.credit ∧ k'.fraction = k.fraction ∧ k'.running = k.running ∧ k'.last = k.last ∧ k'.history = k.history ∧
      k'.clean = k.clean ∧ k'.cause = k.cause ∧ k'.reasons = k.reasons ∧ k'.firstFail = k.firstFail) := by
  simp only [Socket.record, Socket.mk.injEq] at h
  simp [h]

theorem toState_record (k : Socket) (new : SocketState) : (k.toState new).record = k.record := rfl

theorem switched_record (k : Socket) (on : Bool) : (k.switched on).record = k.record := by
  rw [switched_cases]; rfl

theorem placeHold?_record (s : State) (i : SocketId) (h : Option Hold) :
    ((s.placeHold? i h).socket i).record = (s.socket i).record := by
  rw [placeHold?_cases]; rfl

theorem testCompletion_record (s : State) (i : SocketId) : ((s.testCompletion i).socket i).record = (s.socket i).record := by
  rw [testCompletion_socket]
  split
  · rw [complete_socket, toState_record, placeHold?_record]
  · rfl

theorem socketWritten_record (row : SocketId × RowWrite) (s : State) :
    ((State.socketWritten row s).socket row.1).record = (s.socket row.1).record := by
  have hmoved : ∀ t : State, ((t.applyPopulated row.1).socket row.1).record = (t.socket row.1).record := fun t => by
    rw [applyPopulated_socket, toState_record]
  have hswitch : ∀ t : State, ((t.evaluateSwitch row.1).socket row.1).record = (t.socket row.1).record := fun t => by
    rw [evaluateSwitch_socket, if_pos rfl, switched_record]
  have hif : ∀ (b : Bool) (t u : State), (t.socket row.1).record = (u.socket row.1).record →
      ((if b = true then t else u).socket row.1).record = (u.socket row.1).record := fun b t u h => by
    cases b
    · rfl
    · exact h
  exact (hif _ _ _ (testCompletion_record ..)).trans ((hif _ _ _ (hswitch _)).trans (hif _ _ _ (hmoved s)))

/-- The busy condition of a SOCKET row, in words (R3). -/
theorem socketBusy_iff (s : State) (i : SocketId) (w : RowWrite) :
    s.socketBusy i w = true ↔
      ((w.selects 0 = true ∨ w.selects 1 = true ∨ w.selects 2 = true) ∧
        ((s.socket i).switch = true ∨ (s.zone (s.socket i).zone).rail.state = .searching)) ∨
      (w.selects 1 = true ∧ (s.zone (w.apply Socket.put (s.socket i)).zone).rail.state = .searching) ∨
      (w.selects 0 = true ∧ (w.apply Socket.put (s.socket i)).populated = false ∧ (s.socket i).state.armed = true) := by
  simp only [State.socketBusy, Bool.or_eq_true, Bool.and_eq_true, decide_eq_true_eq, Bool.not_eq_true', or_assoc, and_assoc]
  tauto

/-- Where its move is not refused, a written socket moves between VACANT and READY, completes, or keeps its state (R4, R5). -/
theorem writtenState_eq {n : Socket} {w : RowWrite}
    (h : w.selects 0 = true → n.populated = false → n.state.armed = false) :
    n.writtenState w =
      if w.selects 0 = true ∧ n.populated = true ∧ n.state = .vacant then .ready
      else if w.selects 0 = true ∧ n.populated = false then .vacant
      else if w.selects 3 = true ∧ n.state.armed = true ∧ n.target ≠ 0 ∧ n.target * 256 ≤ n.credit then .complete
      else n.state := by
  have hmet : (w.selects 3 && (n.state.armed && n.targetMet)) = true ↔
      w.selects 3 = true ∧ n.state.armed = true ∧ n.target ≠ 0 ∧ n.target * 256 ≤ n.credit := by
    simp only [Bool.and_eq_true, targetMet_iff]
  have hready : SocketState.armed .ready = false := rfl
  have hvacant : SocketState.armed .vacant = false := rfl
  unfold Socket.writtenState Socket.populatedState
  cases h0 : w.selects 0 with
  | false => simp [← hmet]
  | true =>
    cases hp : n.populated with
    | true => by_cases hv : n.state = .vacant <;> simp [hv, hready, ← hmet]
    | false => simp [h h0 hp, hvacant]

/-- A row that the write names is as its fields and its effects leave it. -/
theorem socketWritten_named {rows : List (SocketId × RowWrite)} (hd : (rows.map Prod.fst).Nodup) (s : State)
    {row : SocketId × RowWrite} (hrow : row ∈ rows) :
    let n := row.2.apply Socket.put (s.socket row.1)
    let v := (forEachFreely rows State.socketWritten (s.rowsWritten rows)).socket row.1
    v.record = n.record ∧ v.state = n.writtenState row.2 := by
  obtain ⟨t, ht, hu⟩ := (forEachFreely_loops Prod.fst socketWritten_local hd (s.rowsWritten rows)).turns row hrow
  have hput := ht.socket.trans ((rowsWritten_socket hd s).2 row hrow)
  intro n v
  have hv : v = (State.socketWritten row t).socket row.1 := hu.socket
  rw [hv, socketWritten_record, state_of_marks (socketWritten_socket_marks row t), hput]
  exact ⟨rfl, rfl⟩

/-- A row that the write does not name stands. -/
theorem socketWritten_unnamed {rows : List (SocketId × RowWrite)} (hd : (rows.map Prod.fst).Nodup) (s : State) {i : SocketId}
    (hi : i ∉ rows.map Prod.fst) : (forEachFreely rows State.socketWritten (s.rowsWritten rows)).socket i = s.socket i :=
  ((forEachFreely_loops Prod.fst socketWritten_local hd (s.rowsWritten rows)).others i hi).socket.trans
    ((rowsWritten_socket hd s).1 i hi)

/-- Settles O27: the busy test of every row, and otherwise the rows written and their effects, one socket each. -/
theorem socketWriteTakes : Obligations.SocketWriteTakes := by
  intro src tag first count mask values rows s hs hcheck new sel searching busy
  obtain ⟨hnum, hin⟩ := checkWrite_rows hcheck
  have hrange : ∀ row ∈ rows, row.1 < 32 := hin
  have hd := rowsOf_nodup (n := 32) hnum hrange
  have hmem : ∀ {i : SocketId} {w : RowWrite}, (i, w) ∈ rowsOf 32 rows ↔ rows.lookup i.val = some w := mem_rowsOf hnum hrange
  have hexec : exec (.socketTableWrite src tag first count mask values) s =
      .next (s.deliver src tag 1 (State.tableWrite 2 first count mask values)) := rfl
  have hwrite : State.tableWrite 2 first count mask values s = s.writeSockets (rowsOf 32 rows) := by
    rw [State.tableWrite, hcheck]; rfl
  have hbusy : ∀ i, busy i ↔ s.socketBusy i (rowWriteAt rows i.val) = true := fun i => (socketBusy_iff ..).symm
  rw [hexec, deliver_ready hs, hwrite, writeSockets_eq]
  refine ⟨fun ⟨i, hi⟩ => ?_, fun hfree => ?_⟩
  · have hb := (hbusy i).mp hi
    cases hl : rows.lookup i.val with
    | none => rw [rowWriteAt_none hl] at hb; exact absurd hb (by simp [State.socketBusy, RowWrite.selects])
    | some w =>
      rw [rowWriteAt_some hl] at hb
      rw [if_pos (List.any_eq_true.mpr ⟨(i, w), hmem.mpr hl, hb⟩)]
      rfl
  have hnot : ∀ i w, rows.lookup i.val = some w → s.socketBusy i w = false := fun i w hl => by
    have := mt (hbusy i).mpr (hfree i)
    rw [rowWriteAt_some hl] at this
    exact Bool.eq_false_iff.mpr this
  have hany : ¬ ((rowsOf 32 rows).any fun row => s.socketBusy row.1 row.2) = true := fun h => by
    obtain ⟨row, hrow, hb⟩ := List.any_eq_true.mp h
    exact absurd (hnot row.1 row.2 (hmem.mp hrow)) (by simp [hb])
  have hc := (forEachFreely_loops Prod.fst socketWritten_local hd (s.rowsWritten (rowsOf 32 rows))).checked
  rw [if_neg hany]
  refine ⟨_, rfl, hc.zones, hc.step, hc.engine, hc.halt, hc.link, fun i => ?_⟩
  cases hl : rows.lookup i.val with
  | none =>
    have hi : i ∉ (rowsOf 32 rows).map Prod.fst := fun h => by
      obtain ⟨row, hrow, rfl⟩ := List.mem_map.mp h
      exact absurd (hmem.mp hrow) (by simp [hl])
    have hnew : new i = s.socket i := congrArg (fun w : RowWrite => w.apply Socket.put (s.socket i)) (rowWriteAt_none hl)
    have hsel : ∀ n, sel i n = false := fun n => congrArg (fun w : RowWrite => w.selects n) (rowWriteAt_none hl)
    simp [socketWritten_unnamed hd s hi, hnew, hsel]
  | some w =>
    obtain ⟨hrec, hstate⟩ := socketWritten_named hd s (hmem.mpr hl)
    have hnew : new i = w.apply Socket.put (s.socket i) :=
      congrArg (fun w : RowWrite => w.apply Socket.put (s.socket i)) (rowWriteAt_some hl)
    have hsel : ∀ n, sel i n = w.selects n := fun n => congrArg (fun w : RowWrite => w.selects n) (rowWriteAt_some hl)
    have hput := socketPut_cases w (s.socket i)
    have hkeep := hrec.trans (congrArg Socket.record hput)
    have hcredit : (w.apply Socket.put (s.socket i)).credit = (s.socket i).credit := (congrArg Socket.credit hput :)
    have hk : (w.apply Socket.put (s.socket i)).state = (s.socket i).state := (congrArg Socket.state hput :)
    have hmove : w.selects 0 = true → (w.apply Socket.put (s.socket i)).populated = false →
        (w.apply Socket.put (s.socket i)).state.armed = false := fun h0 hp => Bool.eq_false_iff.mpr fun ha =>
      absurd ((socketBusy_iff s i w).mpr (.inr (.inr ⟨h0, hp, hk ▸ ha⟩))) (by simp [hnot i w hl])
    rw [writtenState_eq hmove, hk, hcredit] at hstate
    simp only [hnew, hsel]
    exact ⟨nofun, (fields_of_record hrec).1, (fields_of_record hkeep).2, hstate⟩

end Sys2Proof.Machine
end

/-! ## RUN_RESET (R186) -/

section
namespace Sys2Proof.Machine

/-! ### The blocks before accounting -/

/-- A notice moves no more of a socket than its qualification flag (R23), -/
theorem notice_socket_cases (s : State) (l : Latch) (named : ZoneId → Bool) (i : SocketId) :
    (s.notice l named).socket i = { s.socket i with qualified := ((s.notice l named).socket i).qualified } := by
  rw [notice_socket]; split <;> rfl

/-- and no more of a zone than its latches. -/
theorem notice_zone_cases (s : State) (l : Latch) (named : ZoneId → Bool) (z : ZoneId) :
    (s.notice l named).zone z = { s.zone z with latches := ((s.notice l named).zone z).latches } := by
  rw [notice_zone]; split <;> rfl

/-- The rails, the search, the heat controller, the engine and the checker at RUN_RESET (R90, R103, R120, R139, R155). -/
def State.resetBlocks (s : State) : State := (s.resetRails.resetHeat.resetEngine).resetLanes fun _ => true

/-- No rail is powered after the rails' part, so every switch is off (R87). -/
theorem resetRails_socket (s : State) (i : SocketId) : s.resetRails.socket i = (s.socket i).switched false := by
  simp [State.resetRails, evaluateSwitches_socket, State.switchRule, RailState.powered]

theorem resetRails_lane (s : State) (n : LaneId) : (s.resetRails.lane n).row = (s.lane n).row := by
  simp only [State.resetRails, evaluateSwitches_lane, State.setZones_lane]
  split
  · rw [laneSwitched_cases]
  · rfl

theorem resetRails_zone (s : State) (z : ZoneId) :
    s.resetRails.zone z = { s.zone z with rail := {}, search := {}, driving := false } :=
  s.setZones_zone (fun z => { s.zone z with rail := {}, search := {}, driving := false }) z

/-- Watching the exercised condition moves qualification flags and latches (R137). -/
theorem watchExercise_socket (s : State) (f : State → State) (i : SocketId) :
    (s.watchExercise f).socket i = { (f s).socket i with qualified := ((s.watchExercise f).socket i).qualified } :=
  notice_socket_cases (f s) ..

theorem watchExercise_zone (s : State) (f : State → State) (z : ZoneId) :
    (s.watchExercise f).zone z = { (f s).zone z with latches := ((s.watchExercise f).zone z).latches } :=
  notice_zone_cases (f s) ..

theorem resetEngine_socket (s : State) (i : SocketId) :
    s.resetEngine.socket i = { s.socket i with qualified := (s.resetEngine.socket i).qualified } :=
  watchExercise_socket s (·.updEngine fun e => { e with state := .stopped, loopIndex := 0, cycle := 0 }) i

theorem resetEngine_zone (s : State) (z : ZoneId) :
    s.resetEngine.zone z = { s.zone z with latches := (s.resetEngine.zone z).latches } :=
  watchExercise_zone s (·.updEngine fun e => { e with state := .stopped, loopIndex := 0, cycle := 0 }) z

theorem resetBlocks_socket (s : State) (i : SocketId) :
    s.resetBlocks.socket i =
      { s.socket i with switch := false, estimate := none, qualified := (s.resetBlocks.socket i).qualified } := by
  have h : s.resetBlocks.socket i = { s.resetRails.resetHeat.resetEngine.socket i with estimate := none } := by
    rw [State.resetBlocks, resetLanes_socket]; rfl
  have hr : s.resetRails.resetHeat.socket i = (s.socket i).switched false := resetRails_socket s i
  rw [h, resetEngine_socket, hr, switched_cases]

theorem resetBlocks_lane (s : State) (n : LaneId) : s.resetBlocks.lane n = { row := (s.lane n).row } := by
  have hoff : ∀ i, (s.resetRails.resetHeat.resetEngine.socket i).switch = false := fun i => by
    have hr : s.resetRails.resetHeat.socket i = (s.socket i).switched false := resetRails_socket s i
    rw [resetEngine_socket, hr]
    exact switched_switch ..
  have hrow : (s.resetRails.resetHeat.resetEngine.lane n).row = (s.lane n).row := resetRails_lane s n
  rw [State.resetBlocks, resetLanes_lane, if_pos rfl, hoff, Lane.resetState, hrow, Bool.and_false]
  rfl

theorem resetBlocks_zone (s : State) (z : ZoneId) :
    s.resetBlocks.zone z =
      { cfg := (s.zone z).cfg, values := (s.zone z).values, latches := (s.resetBlocks.zone z).latches } := by
  have hr : s.resetRails.resetHeat.zone z = { s.zone z with rail := {}, search := {}, driving := false, heat := {} } := by
    rw [State.resetHeat, State.setZones_zone, resetRails_zone]
  have h := resetEngine_zone s.resetRails.resetHeat z
  rw [hr] at h
  exact h

theorem resetBlocks_engine (s : State) :
    s.resetBlocks.engine = { s.engine with
      state := .stopped, queue := [], expected := none, lastDrive := 0, loopIndex := 0, cycle := 0
      prbsA := BitVec.allOnes 9, prbsB := BitVec.allOnes 15, clockPhase := true } := rfl

/-! ### Accounting -/

/-- The VERDICT records of RUN_RESET, one for each armed socket (R17, R19), with the reasons and last scores as they were before
the clearing or after it (log 20). -/
def State.resetVerdicts (s : State) (cleared : Bool) : List Record :=
  s.judged.map fun i =>
    let k := s.socket i
    .verdict i k.state .ready none (if cleared then {} else k.reasons) s.runSeconds (k.credit / 256)
      (if cleared then 0 else k.last)

theorem verdictsRun_reports (s : State) : (SocketReset.verdicts.run s).reports = s.created (s.resetVerdicts false) := by
  have h := forEach_records id (act := fun i s => s.changeState i .ready)
    (fun i s => (State.Quiet.refl s i).changeState (c := none) rfl) (judged_nodup s) s
  refine h.trans (congrArg s.created ?_)
  rw [State.resetVerdicts, ← List.filterMap_eq_map]
  refine List.filterMap_congr fun i hi => ?_
  have ha := mem_judged.mp hi
  have hu : (forEach s.judged (fun i s => s.changeState i .ready) s).socket i = (s.socket i).toState .ready :=
    (verdictsRun_socket s i).trans (if_pos ha)
  have hne : (s.socket i).state ≠ .ready := fun e => by simp [e, SocketState.armed] at ha
  simp only [id, hu, verdictOf, toState_state, if_neg hne]
  rfl

theorem resetVerdicts_clear (s : State) : (SocketReset.clear.run s).resetVerdicts false = s.resetVerdicts true := by
  have hk : ∀ i, (SocketReset.clear.run s).socket i = (s.socket i).runCleared := fun i => State.setSockets_socket ..
  have hj : (SocketReset.clear.run s).judged = s.judged := List.filter_congr fun i _ => by rw [hk]; rfl
  rw [State.resetVerdicts, hj]
  exact List.map_congr_left fun i _ => by rw [hk]; rfl

theorem resetAccounting_reports (s : State) :
    ∃ cleared, s.resetAccounting.reports = s.created (s.resetVerdicts cleared) := by
  obtain ⟨n, h | h⟩ := forEachFreely_pair SocketReset.verdicts SocketReset.clear SocketReset.run s
  · refine ⟨false, ?_⟩
    simp only [State.resetAccounting, h]
    exact verdictsRun_reports { s with freeIndex := n }
  · refine ⟨true, ?_⟩
    simp only [State.resetAccounting, h]
    exact (verdictsRun_reports (SocketReset.clear.run { s with freeIndex := n })).trans
      (congrArg s.created (resetVerdicts_clear { s with freeIndex := n }))

theorem accountingParts_checked (s : State) :
    s.CheckedTo (forEachFreely [SocketReset.verdicts, SocketReset.clear] SocketReset.run s) :=
  forEachFreely_checked _ (fun part s => match part with
    | .verdicts => (verdictsRun_loops s).checked
    | .clear => rfl) s

theorem resetAccounting_zone (s : State) (z : ZoneId) : s.resetAccounting.zone z = { s.zone z with latches := {} } := by
  rw [State.resetAccounting, State.setZones_zone]

/-! ### The state that step control reads the line in -/

/-- From `s` to `t` nothing has moved that RUN_RESET keeps (R186). -/
def State.RunKept (s t : State) : Prop :=
  t = { s with
    sockets := t.sockets, zones := t.zones, lanes := t.lanes, engine := t.engine, step := t.step, halt := t.halt
    reports := t.reports, freeIndex := t.freeIndex }

theorem State.RunKept.trans {s t u : State} (h : s.RunKept t) (h' : t.RunKept u) : s.RunKept u := by
  cases s; cases t; cases u
  simp only [State.RunKept, State.mk.injEq] at *
  simp_all

theorem State.CheckedTo.runKept {s t : State} (h : s.CheckedTo t) : s.RunKept t := by
  unfold State.RunKept; rw [h]

theorem State.RunKept.fields {s t : State} (h : s.RunKept t) :
    (t.settings = s.settings ∧ t.order = s.order ∧ t.policies = s.policies ∧ t.accel = s.accel ∧ t.volt = s.volt ∧
      t.channels = s.channels ∧ t.drive = s.drive ∧ t.link = s.link) ∧
    (t.runSeconds = s.runSeconds ∧ t.transferNumber = s.transferNumber ∧ t.badWords = s.badWords) := by
  rw [h]; simp

/-- The state before step control reads the line. -/
def State.restarted (s : State) : State := s.resetBlocks.resetAccounting.resetStep

theorem resetRun_eq (s : State) : s.resetRun = s.restarted.readLine.accept (be 1 s.restarted.readLine.step.state.code) := rfl

/-- Step control's part moves its own record and the own output, with one STEP record (R171). -/
theorem resetStep_eq (s : State) : s.resetStep =
    ({ s with step := {}, halt := (s.updStep fun _ => {}).evaluateOutput.halt } : State).report (.step .runReset 0 s.runSeconds) :=
  rfl

theorem restarted_kept (s : State) : s.RunKept s.restarted := by
  have hb : s.RunKept s.resetBlocks := rfl
  have ha : s.resetBlocks.RunKept s.resetBlocks.resetAccounting :=
    (accountingParts_checked s.resetBlocks).runKept.trans rfl
  have hs : s.resetBlocks.resetAccounting.RunKept s.restarted := by
    rw [State.restarted, resetStep_eq]
    exact State.RunKept.trans (t := { s.resetBlocks.resetAccounting with
      step := {}, halt := (s.resetBlocks.resetAccounting.updStep fun _ => {}).evaluateOutput.halt }) rfl
      (report_checked ..).runKept
  exact (hb.trans ha).trans hs

end Sys2Proof.Machine
end

section
namespace Sys2Proof.Machine

/-! ### What RUN_RESET leaves before step control reads the line (R171, R186) -/

theorem restarted_step (s : State) : s.restarted.step = {} := by
  rw [State.restarted, resetStep_eq, report_state]

theorem restarted_engine (s : State) : s.restarted.engine = { s.engine with
    state := .stopped, queue := [], expected := none, lastDrive := 0, loopIndex := 0, cycle := 0
    prbsA := BitVec.allOnes 9, prbsB := BitVec.allOnes 15, clockPhase := true } := by
  have ha : s.resetBlocks.resetAccounting.engine = s.resetBlocks.engine := (accountingParts_checked s.resetBlocks).engine
  rw [State.restarted, resetStep_eq, report_state, ← resetBlocks_engine, ← ha]

/-- Every rail, search and heat record is as after power-on, with no latch (R68, R90, R103, R120). -/
theorem restarted_zone (s : State) (z : ZoneId) :
    s.restarted.zone z = { cfg := (s.zone z).cfg, values := (s.zone z).values } := by
  have h : s.restarted.zone z = s.resetBlocks.resetAccounting.zone z := report_zone ..
  rw [h, resetAccounting_zone, resetBlocks_zone]

theorem restarted_lane (s : State) (n : LaneId) : s.restarted.lane n = { row := (s.lane n).row } := by
  have h : s.restarted.lane n = s.resetBlocks.resetAccounting.lane n := report_lane ..
  rw [h, resetAccounting_lane, resetBlocks_lane]

/-- What RUN_RESET makes of a socket (R19). -/
theorem restarted_socket (s : State) (i : SocketId) :
    s.restarted.socket i = { s.socket i with
      state := if (s.socket i).state.armed then .ready else (s.socket i).state
      running := 0, last := 0, history := [], reasons := {}, clean := 0
      qualified := false, switch := false, estimate := none } := by
  have h : s.restarted.socket i = s.resetBlocks.resetAccounting.socket i := report_socket ..
  rw [h, resetAccounting_socket, resetBlocks_socket]
  rfl

/-- No HALT source is left, so the own output is released (R166, R171). -/
theorem restarted_halt (s : State) : s.restarted.halt = { s.halt with own := false } := by
  have hz : ∀ z, (s.resetBlocks.resetAccounting.zone z).haltSource = false := fun z => by
    rw [resetAccounting_zone, resetBlocks_zone]; rfl
  have hsource : (s.resetBlocks.resetAccounting.updStep fun _ => {}).anyHaltSource = false := by
    simp only [State.anyHaltSource, State.updStep_zone, hz, List.any_eq_false]
    simp
  have hkept : s.resetBlocks.resetAccounting.halt = s.halt := (accountingParts_checked s.resetBlocks).halt
  rw [State.restarted, resetStep_eq, report_state]
  simp [State.evaluateOutput, hsource, hkept]

theorem resetVerdicts_resetBlocks (s : State) (cleared : Bool) : s.resetBlocks.resetVerdicts cleared = s.resetVerdicts cleared := by
  have hj : s.resetBlocks.judged = s.judged := List.filter_congr fun i _ => by rw [resetBlocks_socket]
  rw [State.resetVerdicts, hj]
  exact List.map_congr_left fun i _ => by rw [resetBlocks_socket]; rfl

/-- The VERDICT records come first, and then RUN_RESET (R17, R171). -/
theorem restarted_reports (s : State) :
    ∃ cleared, s.restarted.reports = s.created (s.resetVerdicts cleared ++ [.step .runReset 0 s.runSeconds]) := by
  obtain ⟨cleared, h⟩ := resetAccounting_reports s.resetBlocks
  have hc := accountingParts_checked s.resetBlocks
  have hreports : s.resetBlocks.resetAccounting.reports = s.created (s.resetVerdicts cleared) := by
    rw [h, resetVerdicts_resetBlocks]; rfl
  have hset : s.resetBlocks.resetAccounting.settings = s.settings := hc.settings
  have hrun : s.resetBlocks.resetAccounting.runSeconds = s.runSeconds := hc.runSeconds
  refine ⟨cleared, ?_⟩
  rw [State.restarted, resetStep_eq, ← hrun]
  exact report_created (t := { s.resetBlocks.resetAccounting with
    step := {}, halt := (s.resetBlocks.resetAccounting.updStep fun _ => {}).evaluateOutput.halt }) hreports hset _

/-! ### The entry to HALTED from the reset records (R167, R171) -/

/-- A rail that a HALT has tripped from the reset record. -/
def Rail.halted : Rail := { state := .tripped, tripCause := some .halt }

/-- The ZONE record of a HALT trip (R84). -/
def State.haltTrip (s : State) (z : ZoneId) : Record :=
  let v := (s.zone z).values
  .zone z (.railTripped .halt) s.runSeconds v.voltage v.current v.temperature

/-- A zone whose rail and search are as after power-on. -/
def Zone.Fresh (v : Zone) : Prop := v.rail = {} ∧ v.search = {} ∧ v.driving = false

/-- With no zone waiting POWER_DOWN there is nothing to test again (R78). -/
theorem retestAllDown_idle {s : State} (h : ∀ z, (s.zone z).rail.waiting = .none) : s.retestAllDown = s := by
  have hready : ∀ z, s.readyDown z = false := fun z => by simp [State.readyDown, h]
  simp [State.retestAllDown, State.retestDown, hready, freely]

/-- An update of a zone is what it makes of that zone. -/
theorem updZone_congr {s : State} {z : ZoneId} {f g : Zone → Zone} (h : f (s.zone z) = g (s.zone z)) :
    s.updZone z f = s.updZone z g := by
  have ht : s.zones.upd z f = s.zones.upd z g := by unfold Table.upd; exact congrArg _ h
  unfold State.updZone; rw [ht]

theorem updZone_updZone (s : State) (z : ZoneId) (f g : Zone → Zone) : (s.updZone z f).updZone z g = s.updZone z (g ∘ f) := by
  have ht : (s.zones.upd z f).upd z g = s.zones.upd z (g ∘ f) := Table.ext_get fun w => by
    by_cases hw : z = w <;> simp [Table.get_upd, hw]
  unfold State.updZone; exact congrArg (fun t => { s with zones := t }) ht

/-- From OFF a rail enters TRIPPED without a notice and without a switch (R87, R136). -/
theorem enterRail_off_tripped {s : State} {z : ZoneId} (h : (s.zone z).rail.state = .off) :
    s.enterRail z .tripped =
      s.updZone z fun v => { v with rail := { v.rail with state := .tripped }, driving := false } := by
  simp [State.enterRail, h, RailState.powered, RailState.ungated]

/-- A HALT trips a fresh rail with its ZONE record, and with no zone waiting and step control HALTED nothing follows (R84). -/
theorem trip_fresh {s : State} {z : ZoneId} (hz : (s.zone z).Fresh) (hstep : s.step.state = .halted)
    (hwait : ∀ w, (s.zone w).rail.waiting = .none) :
    s.trip z .halt = (s.updZone z fun v => { v with rail := .halted }).report (s.haltTrip z) := by
  obtain ⟨hrail, hsearch, hdriving⟩ := hz
  have hentered : ∀ f : Rail → Rail, f {} = { tripCause := some .halt } →
      (s.updRail z f).enterRail z .tripped = s.updZone z fun v => { v with rail := .halted } := fun f hf => by
    rw [enterRail_off_tripped (by simp [hrail, hf]), State.updRail, updZone_updZone]
    exact updZone_congr (by simp [hrail, hf, hdriving, Rail.halted])
  have hwaits : ∀ w,
      (((s.updZone z fun v => { v with rail := .halted }).report (s.haltTrip z)).zone w).rail.waiting = .none := fun w => by
    rw [report_zone, State.updZone_zone]
    split
    · rfl
    · exact hwait w
  have hrecord : (s.updZone z fun v => { v with rail := .halted }).reportZone z (.railTripped .halt) =
      (s.updZone z fun v => { v with rail := .halted }).report (s.haltTrip z) := by
    simp [State.reportZone, State.haltTrip]
  unfold State.trip
  rw [if_neg (by simp [hrail]), if_pos (by rw [hsearch])]
  dsimp only
  rw [hentered _ rfl, hrecord, if_neg (by simp), State.testStopping, if_neg, retestAllDown_idle hwaits]
  rw [report_state]
  simp [hstep]

/-- From `s` to `t` only the zones and the Report Queue have moved. -/
def State.ZonesTo (s t : State) : Prop := t = { s with zones := t.zones, reports := t.reports }

theorem State.ZonesTo.trans {s t u : State} (h : s.ZonesTo t) (h' : t.ZonesTo u) : s.ZonesTo u := by
  cases s; cases t; cases u
  simp only [State.ZonesTo, State.mk.injEq] at *
  simp_all

/-- One trip of a HALT on a fresh rail: the zone, the record and nothing else. -/
theorem trip_fresh_turn {s : State} {z : ZoneId} (hz : (s.zone z).Fresh) (hstep : s.step.state = .halted)
    (hwait : ∀ w, (s.zone w).rail.waiting = .none) :
    s.ZonesTo (s.trip z .halt) ∧ (s.trip z .halt).reports = s.created [s.haltTrip z] ∧
      ∀ w, (s.trip z .halt).zone w = if z = w then { s.zone z with rail := .halted } else s.zone w := by
  rw [trip_fresh hz hstep hwait]
  refine ⟨?_, created_one (s.updZone z fun v => { v with rail := .halted }) _, fun w => by rw [report_zone, State.updZone_zone]⟩
  unfold State.ZonesTo
  rw [report_state]
  rfl

/-- The trips of a HALT, one zone after another. -/
theorem halt_trips {zs : List ZoneId} (hd : zs.Nodup) {s : State} (hz : ∀ z ∈ zs, (s.zone z).Fresh)
    (hstep : s.step.state = .halted) (hwait : ∀ w, (s.zone w).rail.waiting = .none) :
    let u := forEach zs (fun z s => s.trip z .halt) s
    s.ZonesTo u ∧ u.reports = s.created (zs.map s.haltTrip) ∧
      ∀ z, u.zone z = if z ∈ zs then { s.zone z with rail := .halted } else s.zone z := by
  induction zs generalizing s with
  | nil => exact ⟨rfl, rfl, fun _ => rfl⟩
  | cons x xs ih =>
    obtain ⟨hx, hd⟩ := List.nodup_cons.mp hd
    obtain ⟨hto, hrep, hzone⟩ := trip_fresh_turn (hz x List.mem_cons_self) hstep hwait
    rw [forEach_cons]
    generalize s.trip x .halt = t at hto hrep hzone ⊢
    have hrun : t.runSeconds = s.runSeconds := (congrArg State.runSeconds hto :)
    have hset : t.settings = s.settings := (congrArg State.settings hto :)
    have hstep' : t.step = s.step := (congrArg State.step hto :)
    have hother : ∀ w ∈ xs, t.zone w = s.zone w := fun w hw => by
      rw [hzone, if_neg fun e : x = w => hx (e ▸ hw)]
    have htrips : xs.map t.haltTrip = xs.map s.haltTrip := List.map_congr_left fun w hw => by
      rw [State.haltTrip, State.haltTrip, hother w hw, hrun]
    obtain ⟨hto', hrep', hzone'⟩ := ih (s := t) hd
      (fun w hw => by rw [hother w hw]; exact hz w (List.mem_cons_of_mem x hw)) (by rw [hstep', hstep])
      (fun w => by rw [hzone]; split; exacts [rfl, hwait w])
    refine ⟨hto.trans hto', ?_, fun w => ?_⟩
    · rw [hrep', htrips, created_append hrep hset]; rfl
    · rw [hzone', hzone]
      by_cases hw : x = w
      · subst hw; simp [hx]
      · simp [hw, Ne.symm hw]

/-- An engine that is STOPPED has no exercised zone, so stopping it gives no notice (R137). -/
theorem stopEngineAtOnce_stopped {s : State} (h : s.engine.state = .stopped) :
    s.stopEngineAtOnce = s.updEngine fun e => { e with state := .stopped, loopIndex := 0, cycle := 0, queue := [] } := by
  have hex : ∀ z, s.exercised z = false := fun z => by simp [State.exercised, h, EngineState.playing]
  simp only [State.stopEngineAtOnce, State.stopEngine, State.watchExercise, hex, Bool.false_and, notice_none]
  rfl

/-- The state in which the trips of an entry to HALTED begin (R167). -/
def State.haltBegun (v : State) : State :=
  { v with step := { state := .halted }, reports := v.created [.step .halted 0 v.runSeconds] }

/-- The entry to HALTED from fresh zones and a stopped engine (R167): every rail TRIPPED for HALT, with the records of the entry and
of the trips, and nothing else. -/
structure State.HaltedFresh (v u : State) : Prop where
  kept : v.RunKept u
  step : u.step = { state := .halted }
  halt : u.halt = v.halt
  engine : u.engine = { v.engine with state := .stopped, loopIndex := 0, cycle := 0, queue := [] }
  sockets : u.sockets = v.sockets
  lanes : u.lanes = v.lanes
  zone : ∀ z, u.zone z = { v.zone z with rail := .halted, heat := { (v.zone z).heat with duty := 0 } }
  reports : u.reports = v.created (.step .halted 0 v.runSeconds :: allZones.map v.haltTrip)

theorem enterHalted_fresh {v : State} (hstep : v.step = {}) (hz : ∀ z, (v.zone z).Fresh) (he : v.engine.state = .stopped) :
    v.HaltedFresh v.enterHalted := by
  have hentered : v.enterHalted =
      ((forEach allZones (fun z s => s.trip z .halt)
        ((v.updStep fun c => { c with state := .halted }).reportStep .halted)).forceDuties.stopEngineAtOnce).updStep
          StepCtl.unsettle := by
    rw [State.enterHalted, hstep]; rfl
  have hbegun : (v.updStep fun c => { c with state := .halted }).reportStep .halted =
      v.haltBegun := by
    have hv : (v.updStep fun c => { c with state := .halted }) = { v with step := { state := .halted } } := by
      simp [State.updStep, hstep]
    rw [hv, State.reportStep, report_state, created_one]
    rfl
  rw [hentered, hbegun]
  obtain ⟨hto, hrep, hzone⟩ := halt_trips (List.nodup_finRange 4)
    (s := v.haltBegun)
    (fun z _ => hz z) rfl (fun w => by have h := (hz w).1; exact congrArg Rail.waiting h)
  change State.ZonesTo _ (forEach allZones _ _) at hto
  change (forEach allZones _ _).reports = _ at hrep
  change ∀ z, (forEach allZones _ _).zone z = _ at hzone
  generalize forEach allZones (fun z s => s.trip z .halt) _ = t at hto hrep hzone ⊢
  have hengine : t.engine = v.engine := (congrArg State.engine hto :)
  rw [stopEngineAtOnce_stopped (s := t.forceDuties) (by rw [← he, ← hengine]; rfl)]
  exact {
    kept := State.RunKept.trans (t := t) (by unfold State.RunKept; rw [hto]; rfl) rfl
    step := by
      have h : t.step = { state := .halted } := (congrArg State.step hto :)
      change StepCtl.unsettle t.step = _
      rw [h]; rfl
    halt := (congrArg State.halt hto :)
    engine := by rw [← hengine]; rfl
    sockets := (congrArg State.sockets hto :)
    lanes := (congrArg State.lanes hto :)
    zone := fun z => by
      have h : t.zone z = { v.zone z with rail := .halted } := (hzone z).trans (if_pos (List.mem_finRange z))
      have hforced := State.setZones_zone t (fun z => { t.zone z with heat := { (t.zone z).heat with duty := 0 } }) z
      exact hforced.trans (by rw [h])
    reports := hrep.trans (created_append (s := v) (t := v.haltBegun) rfl rfl _) }

/-- Settles O48: the blocks restarted one by one, and then the line read, with the entry to HALTED from fresh zones. -/
theorem runResetRestartsBlocks : Obligations.RunResetRestartsBlocks := by
  intro src tag s hs halts verdicts trips
  obtain ⟨cleared, hreports⟩ := restarted_reports s
  have hrun : s.restarted.runSeconds = s.runSeconds := (restarted_kept s).fields.2.1
  have hhalt := restarted_halt s
  have hline : (s.restarted.halt.line && s.restarted.settings.haltIn) = halts := by
    rw [hhalt, (restarted_kept s).fields.1.1]; simp [Halt.line, halts]
  have hexec : exec (.runReset src tag) s = .next (s.deliver src tag 90 State.resetRun) := rfl
  rw [hexec, deliver_ready hs, resetRun_eq]
  refine ⟨s.restarted.readLine, ?_⟩
  cases hh : halts
  · have hread : s.restarted.readLine = s.restarted := by rw [State.readLine, if_neg (by simp [hline, hh])]
    rw [hread]
    refine ⟨by rw [restarted_step]; rfl, restarted_step s, hhalt, ⟨cleared, ?_⟩, (restarted_kept s).fields.1,
      (restarted_kept s).fields.2, restarted_engine s, restarted_zone s, restarted_lane s, restarted_socket s⟩
    rw [hreports]
    exact congrArg s.created (List.append_nil _).symm
  · have hread : s.restarted.readLine = s.restarted.enterHalted := by rw [State.readLine, if_pos (by rw [hline, hh])]
    have hfresh : ∀ z, (s.restarted.zone z).Fresh := fun z => by rw [restarted_zone]; exact ⟨rfl, rfl, rfl⟩
    have hu := enterHalted_fresh (restarted_step s) hfresh (by rw [restarted_engine])
    have hkept := (restarted_kept s).trans hu.kept
    have htrips : allZones.map s.restarted.haltTrip = trips := List.map_congr_left fun z _ => by
      rw [State.haltTrip, restarted_zone, hrun]
    rw [hread]
    refine ⟨by rw [hu.step]; rfl, hu.step, hu.halt.trans hhalt, ⟨cleared, ?_⟩, hkept.fields.1, hkept.fields.2,
      by rw [hu.engine, restarted_engine], fun z => by rw [hu.zone, restarted_zone]; rfl, fun n => ?_, fun i => ?_⟩
    · rw [hu.reports, created_append hreports (restarted_kept s).fields.1.1, hrun, htrips]; rfl
    · exact (congrArg (fun t => t.get n) hu.lanes).trans (restarted_lane s n)
    · exact (congrArg (fun t => t.get i) hu.sockets).trans (restarted_socket s i)

end Sys2Proof.Machine
end

/-! ## What earns a socket its qualification

A qualified socket meets the conditions of accrual, and no latch of its zone is set (R22, R25). `Zonal` is what the blocks of a zone
(rails, search, heat) do to that and to the rest of the state. -/

section
namespace Sys2Proof.Machine

/-- The conditions of accrual that a zone's own record gives (R25), with no latch set (R22); `unheated` is what an OFF zone needs of
step control. -/
def Zone.Earns (v : Zone) (unheated : Prop) : Prop :=
  v.rail.state = .hold ∧ v.values.voltage.isSome = true ∧ v.latches = {} ∧
    (v.heat.state = .stable ∨ (v.heat.state = .off ∧ v.heat.target = none ∧ unheated))

/-- Every qualified socket is armed and switched on in a zone that earns and is exercised. The OFF zones that `excused` names may have
a temperature target that the heat controller has still to take. -/
def State.EarnedBut (s : State) (excused : ZoneId → Prop) : Prop :=
  ∀ i, (s.socket i).qualified = true →
    let z := (s.socket i).zone
    (s.socket i).state.armed = true ∧ (s.socket i).switch = true ∧
      (s.zone z).Earns (s.step.cur.tempTarget.get z = none ∨ excused z) ∧ s.exercised z = true

/-- The same with no zone excused. -/
def State.Earned (s : State) : Prop := s.EarnedBut fun _ => False

/-- In consistent thermal records this is what `QualifiedHold` says. -/
theorem earned_of_hold {s : State} (hh : s.HeatConsistent) (h : s.QualifiedHold) : s.Earned := fun i hq => by
  obtain ⟨hm, hl⟩ := h i hq
  have hoff : (s.zone (s.socket i).zone).heat.state = .off → (s.zone (s.socket i).zone).heat.target = none := fun h => by
    rw [(hh _).1 h]
  simp only [State.meetsConditions, Bool.and_eq_true, Bool.or_eq_true, decide_eq_true_eq, Option.isNone_iff_eq_none] at hm
  obtain ⟨⟨⟨⟨⟨ha, hs⟩, hr⟩, hv⟩, ht⟩, he⟩ := hm
  exact ⟨ha, hs, ⟨hr, hv, hl, ht.imp_right fun ⟨h, ht⟩ => ⟨h, hoff h, .inl ht⟩⟩, he⟩

theorem hold_of_earned {s : State} (h : s.Earned) : s.QualifiedHold := fun i hq => by
  obtain ⟨ha, hs, ⟨hr, hv, hl, ht⟩, he⟩ := h i hq
  refine ⟨?_, hl⟩
  simp only [State.meetsConditions, Bool.and_eq_true, Bool.or_eq_true, decide_eq_true_eq, Option.isNone_iff_eq_none]
  exact ⟨⟨⟨⟨⟨ha, hs⟩, hr⟩, hv⟩, ht.imp_right fun ⟨h, _, ht⟩ => ⟨h, ht.resolve_right id⟩⟩, he⟩

/-- A zone in which no socket can be qualified. -/
def Zone.Barren (v : Zone) : Prop := ∀ x, ¬ v.Earns x

theorem barren_of_rail {v : Zone} (h : v.rail.state ≠ .hold) : v.Barren := fun _ he => h he.1

theorem barren_of_latch {v : Zone} (h : v.latches ≠ {}) : v.Barren := fun _ he => h he.2.2.1

theorem barren_of_heat {v : Zone} (h : v.heat.state ≠ .stable) (h' : v.heat.state ≠ .off) : v.Barren := fun _ he =>
  he.2.2.2.elim h fun he => h' he.1

theorem setLatch_ne (l : Latches) (a : Latch) : l.setLatch a ≠ {} := by
  cases a <;> simp [Latches.setLatch]

theorem barren_setLatch (v : Zone) (l : Latch) : ({ v with latches := v.latches.setLatch l } : Zone).Barren :=
  barren_of_latch (setLatch_ne _ l)

/-! ### One socket -/

/-- From `k` to `k'` a socket is not newly qualified, and one still qualified stays in its zone, armed and switched on as it was. -/
def Socket.Follows (k k' : Socket) : Prop :=
  k'.qualified = true → k.qualified = true ∧ k'.zone = k.zone ∧ (k.state.armed = true → k'.state.armed = true) ∧
    (k.switch = true → k'.switch = true)

theorem Socket.Follows.refl (k : Socket) : k.Follows k := fun h => ⟨h, rfl, id, id⟩

theorem Socket.Follows.trans {k k' k'' : Socket} (h : k.Follows k') (h' : k'.Follows k'') : k.Follows k'' := fun hq => by
  obtain ⟨hq, hz', ha', hs'⟩ := h' hq
  obtain ⟨hq, hz, ha, hs⟩ := h hq
  exact ⟨hq, hz'.trans hz, ha' ∘ ha, hs' ∘ hs⟩

/-- A socket that keeps the fields that qualification looks at. -/
theorem Socket.Follows.of_eq {k k' : Socket} (hq : k'.qualified = k.qualified) (hz : k'.zone = k.zone) (ha : k'.state = k.state)
    (hs : k'.switch = k.switch) : k.Follows k' := fun h => ⟨hq ▸ h, hz, fun h => ha ▸ h, fun h => hs ▸ h⟩

/-- A switch that opens clears the flag (R24). -/
theorem switched_follows (k : Socket) (on : Bool) : k.Follows (k.switched on) := by
  unfold Socket.switched
  split
  · exact .refl k
  split
  · exact fun h => ⟨h, rfl, id, fun _ => rfl⟩
  · exact fun h => nomatch h

/-- Leaving the armed states clears the flag (R24). -/
theorem toState_follows (k : Socket) (new : SocketState) : k.Follows (k.toState new) := fun h => by
  simp only [Socket.toState, Bool.and_eq_true, Bool.not_eq_true', Bool.and_eq_false_iff, Bool.not_eq_false'] at h ⊢
  exact ⟨h.1, trivial, fun ha => h.2.resolve_left (by simp [ha]), id⟩

/-! ### Qualification over a move of the state -/

/-- Qualification stays earned over a move that keeps the zones of the sockets still qualified earning and exercised. -/
theorem State.EarnedBut.move {s t : State} {x y : ZoneId → Prop} (h : s.EarnedBut x)
    (hk : ∀ i, (s.socket i).Follows (t.socket i))
    (hz : ∀ i, (t.socket i).qualified = true →
      let z := (s.socket i).zone
      (s.zone z).Earns (s.step.cur.tempTarget.get z = none ∨ x z) →
        (t.zone z).Earns (t.step.cur.tempTarget.get z = none ∨ y z))
    (he : ∀ i, (t.socket i).qualified = true → s.exercised (s.socket i).zone = true → t.exercised (s.socket i).zone = true) :
    t.EarnedBut y := fun i hq => by
  obtain ⟨hq', hzone, ha, hs⟩ := hk i hq
  obtain ⟨ha', hs', hearn, hex⟩ := h i hq'
  dsimp only
  rw [hzone]
  exact ⟨ha ha', hs hs', hz i hq hearn, he i hq hex⟩

/-- With no socket qualified there is nothing to earn. -/
theorem earnedBut_of_none {s : State} (h : ∀ i, (s.socket i).qualified = false) (x : ZoneId → Prop) : s.EarnedBut x :=
  fun i hq => by simp [h i] at hq

/-! ### Moves of the zones' blocks -/

/-- From `s` to `t` the rails, the search and the heat controller moved: zones, switches with what an open one takes away, lanes,
records, the own output, and a STOPPING step that ends. Qualification stays earned. -/
structure State.Zonal (s t : State) : Prop where
  frame : t = { s with
    sockets := t.sockets, zones := t.zones, lanes := t.lanes, step := t.step, halt := t.halt
    reports := t.reports, freeIndex := t.freeIndex }
  socket : ∀ i, t.socket i =
    { s.socket i with
      switch := (t.socket i).switch, qualified := (t.socket i).qualified, estimate := (t.socket i).estimate }
  step : s.step.state ≠ .stopping → t.step = s.step
  reports : ∃ rs : List Record, t.reports = rs.foldl Reports.create s.reports
  earned : ∀ {x}, s.EarnedBut x → t.EarnedBut x

theorem State.Zonal.refl (s : State) : s.Zonal s := ⟨rfl, fun _ => rfl, fun _ => rfl, ⟨[], rfl⟩, id⟩

theorem State.Zonal.trans {s t u : State} (h : s.Zonal t) (h' : t.Zonal u) : s.Zonal u where
  frame := by
    have a := h.frame; have b := h'.frame
    cases s; cases t; cases u
    simp only [State.mk.injEq] at *
    simp_all
  socket := fun i => by rw [h'.socket i, h.socket i]
  step := fun hs => by
    have e := h.step hs
    rw [h'.step (e ▸ hs), e]
  reports := by
    obtain ⟨a, ha⟩ := h.reports
    obtain ⟨b, hb⟩ := h'.reports
    exact ⟨a ++ b, by rw [hb, ha, List.foldl_append]⟩
  earned := fun hs => h'.earned (h.earned hs)

theorem State.Zonal.engine {s t : State} (h : s.Zonal t) : t.engine = s.engine := by rw [h.frame]

theorem forEach_zonal {α : Type} (xs : List α) {f : α → State → State} (h : ∀ (x : α) (s : State), s.Zonal (f x s)) (s : State) :
    s.Zonal (forEach xs f s) :=
  forEach_keeps (P := s.Zonal) (fun x _ _ hs => hs.trans (h x _)) (.refl s)

theorem freeIndex_zonal (s : State) (n : Nat) : s.Zonal { s with freeIndex := n } :=
  ⟨rfl, fun _ => rfl, fun _ => rfl, ⟨[], rfl⟩, id⟩

theorem forEachFreely_zonal {α : Type} (xs : List α) {f : α → State → State} (h : ∀ (x : α) (s : State), s.Zonal (f x s))
    (s : State) : s.Zonal (forEachFreely xs f s) :=
  forEachFreely_keeps (P := s.Zonal) (fun _ n hs => hs.trans (freeIndex_zonal _ n)) (fun x _ _ hs => hs.trans (h x _)) (.refl s)

variable (s : State)

/-! ### Updates, records, notices and switches -/

/-- A zone's record moves, and where it earned it still does. -/
theorem updZone_zonal (z : ZoneId) (f : Zone → Zone) (h : ∀ x, (s.zone z).Earns x → (f (s.zone z)).Earns x) :
    s.Zonal (s.updZone z f) := by
  refine ⟨rfl, fun _ => rfl, fun _ => rfl, ⟨[], rfl⟩, fun hs => hs.move (fun i => .refl _) (fun i _ => ?_) fun _ _ => id⟩
  dsimp only
  rw [State.updZone_zone]
  split
  · subst_vars; exact h _
  · exact id

theorem updZone_zonal_of_barren (z : ZoneId) (f : Zone → Zone) (h : (s.zone z).Barren) : s.Zonal (s.updZone z f) :=
  updZone_zonal s z f fun x hx => absurd hx (h x)

theorem updRail_zonal (z : ZoneId) (f : Rail → Rail) (h : (f (s.zone z).rail).state = (s.zone z).rail.state) :
    s.Zonal (s.updRail z f) :=
  updZone_zonal s z _ fun _ ⟨hr, hv, hl, ht⟩ => ⟨h.trans hr, hv, hl, ht⟩

theorem updSearch_zonal (z : ZoneId) (f : Search → Search) : s.Zonal (s.updSearch z f) :=
  updZone_zonal s z _ fun _ h => h

theorem updHeat_zonal (z : ZoneId) (f : Heat → Heat)
    (h : (f (s.zone z).heat).state = (s.zone z).heat.state ∧ (f (s.zone z).heat).target = (s.zone z).heat.target) :
    s.Zonal (s.updHeat z f) :=
  updZone_zonal s z _ fun _ ⟨hr, hv, hl, ht⟩ => ⟨hr, hv, hl, by simpa [h] using ht⟩

theorem updHeat_zonal_of_barren (z : ZoneId) (f : Heat → Heat) (h : (s.zone z).Barren) : s.Zonal (s.updHeat z f) :=
  updZone_zonal_of_barren s z _ h

theorem updValues_zonal (z : ZoneId) (f : Values → Values)
    (h : (s.zone z).values.voltage.isSome = true → (f (s.zone z).values).voltage.isSome = true) : s.Zonal (s.updValues z f) :=
  updZone_zonal s z _ fun _ ⟨hr, hv, hl, ht⟩ => ⟨hr, h hv, hl, ht⟩

theorem report_zonal (r : Record) : s.Zonal (s.report r) := by
  rcases report_cases s r with h | ⟨-, h⟩ <;> rw [h]
  · exact .refl s
  · exact ⟨rfl, fun _ => rfl, fun _ => rfl, ⟨[r], rfl⟩, id⟩

theorem reportZone_zonal (z : ZoneId) (e : ZoneEvent) : s.Zonal (s.reportZone z e) := report_zonal ..

theorem reportStep_zonal (e : StepEvent) : s.Zonal (s.reportStep e) := report_zonal ..

theorem reportPattern_zonal (e : PatternEvent) (b x : Option Nat) : s.Zonal (s.reportPattern e b x) := report_zonal ..

theorem evaluateOutput_zonal : s.Zonal s.evaluateOutput := ⟨rfl, fun _ => rfl, fun _ => rfl, ⟨[], rfl⟩, id⟩

theorem notice_follows (l : Latch) (named : ZoneId → Bool) (i : SocketId) : (s.socket i).Follows ((s.notice l named).socket i) := by
  rw [notice_socket]
  split
  · exact fun h => nomatch h
  · exact .refl _

/-- A socket still qualified after a notice is in a zone that it does not name (R23). -/
theorem notice_spares {l : Latch} {named : ZoneId → Bool} {i : SocketId} (h : ((s.notice l named).socket i).qualified = true) :
    named (s.socket i).zone = false := by
  rw [notice_socket] at h
  split at h <;> simp_all

/-- A notice clears the flag of every socket whose zone it latches, whatever became of that zone before it. -/
theorem notice_earned {s t : State} {x y : ZoneId → Prop} (hs : s.EarnedBut x) (l : Latch) (named : ZoneId → Bool)
    (hk : ∀ i, (s.socket i).Follows (t.socket i))
    (hz : ∀ z, named z = false → (s.zone z).Earns (s.step.cur.tempTarget.get z = none ∨ x z) →
      (t.zone z).Earns (t.step.cur.tempTarget.get z = none ∨ y z))
    (he : ∀ z, named z = false → s.exercised z = true → t.exercised z = true) : (t.notice l named).EarnedBut y := by
  have hnamed : ∀ i, ((t.notice l named).socket i).qualified = true → named (s.socket i).zone = false := fun i hq => by
    rw [← (hk i (notice_follows t l named i hq).1).2.1]
    exact notice_spares t hq
  refine hs.move (fun i => (hk i).trans (notice_follows t l named i)) (fun i hq h => ?_) (fun i hq h => he _ (hnamed i hq) h)
  rw [notice_zone, hnamed i hq]
  exact hz _ (hnamed i hq) h

theorem notice_zonal (l : Latch) (named : ZoneId → Bool) : s.Zonal (s.notice l named) where
  frame := rfl
  socket := fun i => by rw [notice_socket]; split <;> rfl
  step := fun _ => rfl
  reports := ⟨[], rfl⟩
  earned := fun hs => notice_earned hs l named (fun _ => .refl _) (fun _ _ => id) fun _ _ => id

theorem noticeZone_zonal (l : Latch) (z : ZoneId) : s.Zonal (s.noticeZone l z) := notice_zonal ..

theorem noticeAll_zonal (l : Latch) : s.Zonal (s.noticeAll l) := notice_zonal ..

theorem noticeZone_barren (l : Latch) (z : ZoneId) : ((s.noticeZone l z).zone z).Barren := by
  rw [State.noticeZone, notice_zone, if_pos (by simp)]
  exact barren_setLatch _ _

theorem evaluateSwitches_zonal (named : SocketId → Bool) : s.Zonal (s.evaluateSwitches named) where
  frame := rfl
  socket := fun i => by
    rw [evaluateSwitches_socket]
    split
    · exact (switched_cases ..).trans (by rw [switched_switch])
    · rfl
  step := fun _ => rfl
  reports := ⟨[], rfl⟩
  earned := fun hs => hs.move (fun i => by
    rw [evaluateSwitches_socket]
    split
    · exact switched_follows _ _
    · exact .refl _) (fun _ _ => id) fun _ _ => id

theorem evaluateZoneSwitches_zonal (z : ZoneId) : s.Zonal (s.evaluateZoneSwitches z) := evaluateSwitches_zonal ..

end Sys2Proof.Machine
end

section
namespace Sys2Proof.Machine

variable (s : State)

/-! ### The rails (05_zone_rails.md) -/

/-- Whatever becomes of a zone's record, a notice that names the zone answers for it (R23). -/
theorem updZone_notice_zonal (z : ZoneId) (f : Zone → Zone) (l : Latch) : s.Zonal ((s.updZone z f).noticeZone l z) where
  frame := rfl
  socket := (notice_zonal (s.updZone z f) l (· == z)).socket
  step := fun _ => rfl
  reports := ⟨[], rfl⟩
  earned := fun hs => notice_earned (t := s.updZone z f) hs l (· == z) (fun _ => .refl _)
    (fun w hw h => by rwa [State.updZone_zone, if_neg fun e => by simp [e] at hw]) fun _ _ => id

/-- A rail enters a state: leaving HOLD disturbs its zone (R23). -/
theorem enterRail_zonal (z : ZoneId) (new : RailState) : s.Zonal (s.enterRail z new) := by
  have henter : ∀ f : Zone → Zone, (∀ v, (f v).rail.state = new ∧ (f v).heat = v.heat ∧ (f v).values = v.values ∧
      (f v).latches = v.latches) →
      s.Zonal (if (s.zone z).rail.state = .hold ∧ new ≠ .hold then (s.updZone z f).noticeZone .rail z else s.updZone z f) := by
    intro f hf
    split
    · exact updZone_notice_zonal s z f .rail
    · rename_i hstay
      obtain ⟨hr, hh, hv, hl⟩ := hf (s.zone z)
      refine updZone_zonal s z f fun x ⟨hhold, hvolt, hlat, hheat⟩ => ⟨?_, hv ▸ hvolt, hl ▸ hlat, hh ▸ hheat⟩
      exact hr.trans (not_not.mp fun h => hstay ⟨hhold, h⟩)
  have h := henter (fun v =>
    { v with
      rail := { v.rail with state := new }
      driving := new.ungated && (v.driving || (!(s.zone z).rail.state.ungated && decide (s.engine.state = .stopped))) })
    fun _ => ⟨rfl, rfl, rfl, rfl⟩
  unfold State.enterRail
  dsimp only
  split
  · exact h.trans (evaluateZoneSwitches_zonal ..)
  · exact h

theorem testStopping_zonal : s.Zonal s.testStopping := by
  unfold State.testStopping
  split
  · rename_i h
    refine State.Zonal.trans (t := s.updStep StepCtl.toIdle)
      ⟨rfl, fun _ => rfl, fun hs => absurd h.1 hs, ⟨[], rfl⟩, fun hs => ?_⟩ (reportStep_zonal _ .stopped)
    exact hs.move (fun _ => .refl _) (fun i _ ⟨hr, hv, hl, ht⟩ =>
      ⟨hr, hv, hl, ht.imp_right fun ⟨h, hn, _⟩ => ⟨h, hn, .inl (Table.get_fill ..)⟩⟩) fun _ _ => id
  · exact .refl s

theorem startPowerUp_zonal (z : ZoneId) : s.Zonal (s.startPowerUp z) :=
  ((updRail_zonal s z _ rfl).trans (updValues_zonal _ z _ id)).trans (enterRail_zonal ..)

theorem tryPowerUp_zonal (z : ZoneId) : s.Zonal (s.tryPowerUp z) := by
  unfold State.tryPowerUp
  split
  · exact startPowerUp_zonal s z
  · exact updRail_zonal s z _ rfl

theorem retestUp_zonal (z : ZoneId) : s.Zonal (s.retestUp z) := by
  unfold State.retestUp
  split
  · exact startPowerUp_zonal s z
  · exact .refl s

theorem retestAllUp_zonal : s.Zonal s.retestAllUp := forEach_zonal _ (fun z t => retestUp_zonal t z) s

theorem endSearchAbandoned_zonal (z : ZoneId) : s.Zonal (s.endSearchAbandoned z) :=
  (reportZone_zonal ..).trans (updSearch_zonal ..)

theorem abandonSearch_zonal (z : ZoneId) : s.Zonal (s.abandonSearch z) :=
  (endSearchAbandoned_zonal ..).trans (evaluateSwitches_zonal ..)

theorem enterOff_zonal (z : ZoneId) : s.Zonal (s.enterOff z) :=
  ((updRail_zonal s z _ rfl).trans (enterRail_zonal ..)).trans (testStopping_zonal _)

/-- A choice between a move of the zones' blocks and none. -/
theorem ite_zonal {c : Prop} [Decidable c] {s t : State} (h : s.Zonal t) : s.Zonal (if c then t else s) := by
  split
  · exact h
  · exact .refl s

theorem beginPowerDown_zonal (z : ZoneId) : s.Zonal (s.beginPowerDown z) :=
  (((ite_zonal (abandonSearch_zonal s z)).trans (updRail_zonal _ z _ rfl)).trans (enterRail_zonal ..)).trans
    (ite_zonal (enterOff_zonal ..))

theorem freely_zonal {α : Type} (xs : List α) : s.Zonal (freely xs s).2 := by
  rw [freely_state]; exact freeIndex_zonal s _

theorem retestDown_zonal (fuel : Nat) : s.Zonal (State.retestDown fuel s) := by
  induction fuel generalizing s with
  | zero => exact .refl s
  | succ fuel ih =>
    have h := freely_zonal s (allZones.filter fun z => s.readyDown z)
    unfold State.retestDown
    split <;> rename_i e <;> rw [e] at h
    · exact h
    · exact (h.trans (beginPowerDown_zonal ..)).trans (ih _)

theorem retestAllDown_zonal : s.Zonal s.retestAllDown := retestDown_zonal ..

theorem rampedOff_zonal (z : ZoneId) : s.Zonal (s.rampedOff z) := (enterOff_zonal ..).trans (retestAllDown_zonal _)

theorem trip_zonal (z : ZoneId) (c : TripCause) : s.Zonal (s.trip z c) := by
  unfold State.trip
  dsimp only
  split
  · exact .refl s
  · have hsearch : s.Zonal (if (s.zone z).search.phase = .idle then s else s.endSearchAbandoned z) := by
      split
      · exact .refl s
      · exact endSearchAbandoned_zonal s z
    have hentry := ((hsearch.trans (updRail_zonal _ z (fun r => { r with
      setpoint := 0, rampTimer := false, confirmTimer := false, tripCause := some c, oowCount := 0, waiting := .none })
      rfl)).trans (enterRail_zonal _ z .tripped)).trans (reportZone_zonal _ z (.railTripped c))
    exact ((hentry.trans (ite_zonal ((updRail_zonal _ z _ rfl).trans (evaluateOutput_zonal _)))).trans
      (testStopping_zonal _)).trans (retestAllDown_zonal _)

theorem clearTrip_zonal (z : ZoneId) : s.Zonal (s.clearTrip z) := by
  unfold State.clearTrip
  exact ite_zonal (((((updRail_zonal s z _ rfl).trans (enterRail_zonal _ z .off)).trans (evaluateOutput_zonal _)).trans
    (ite_zonal (tryPowerUp_zonal _ z))).trans ((testStopping_zonal _).trans (retestAllDown_zonal _)))

theorem enterConfirming_zonal (z : ZoneId) : s.Zonal (s.enterConfirming z) :=
  (updRail_zonal s z _ rfl).trans (enterRail_zonal ..)

theorem enterHold_zonal (z : ZoneId) (e : ZoneEvent) : s.Zonal (s.enterHold z e) :=
  (((updRail_zonal s z _ rfl).trans (enterRail_zonal ..)).trans (reportZone_zonal ..)).trans (retestAllUp_zonal _)

theorem voltageSample_zonal (z : ZoneId) (mv : Nat) : s.Zonal (s.voltageSample z mv) := by
  unfold State.voltageSample
  dsimp only
  (repeat' split)
  · exact enterHold_zonal ..
  · exact updRail_zonal s z _ rfl
  · exact updRail_zonal s z _ rfl
  · exact ((updRail_zonal s z _ rfl).trans (noticeZone_zonal ..)).trans (trip_zonal ..)
  · exact (updRail_zonal s z _ rfl).trans (noticeZone_zonal ..)
  all_goals exact .refl s

theorem railStale_zonal (z : ZoneId) : s.Zonal (s.railStale z) := ite_zonal (trip_zonal ..)

theorem rampStep_zonal (z : ZoneId) : s.Zonal (s.rampStep z) := by
  unfold State.rampStep
  dsimp only
  (repeat' split)
  · exact (updRail_zonal s z _ rfl).trans (enterConfirming_zonal ..)
  · exact (updRail_zonal s z _ rfl).trans (rampedOff_zonal ..)
  · exact updRail_zonal s z _ rfl
  · exact .refl s

theorem confirmExpired_zonal (z : ZoneId) : s.Zonal (s.confirmExpired z) := ite_zonal (trip_zonal ..)

theorem redirect_zonal (z : ZoneId) : s.Zonal (s.redirect z) :=
  ((((ite_zonal (abandonSearch_zonal s z)).trans (ite_zonal (updRail_zonal _ z _ rfl))).trans (updRail_zonal _ z _ rfl)).trans
    (enterRail_zonal ..)).trans (ite_zonal (enterConfirming_zonal ..))

theorem goalChange_zonal (z : ZoneId) : s.Zonal (s.goalChange z) := by
  unfold State.goalChange
  refine State.Zonal.trans (?_ : s.Zonal _) ((retestAllUp_zonal _).trans (retestAllDown_zonal _))
  split
  · exact .refl s
  · exact tryPowerUp_zonal ..
  · exact updRail_zonal s z _ rfl
  · exact redirect_zonal ..
  · split
    · exact beginPowerDown_zonal ..
    · exact updRail_zonal s z _ rfl

/-- The zones' records move, and where they earned they still do. -/
theorem setZones_zonal (f : ZoneId → Zone) (h : ∀ z x, (s.zone z).Earns x → (f z).Earns x) : s.Zonal (s.setZones f) :=
  ⟨rfl, fun _ => rfl, fun _ => rfl, ⟨[], rfl⟩, fun hs => hs.move (fun _ => .refl _)
    (fun i _ => by dsimp only; rw [State.setZones_zone]; exact h _ _) fun _ _ => id⟩

theorem setGoals_zonal (goals : ZoneId → Option Nat) : s.Zonal (s.setGoals goals) := setZones_zonal _ _ fun _ _ h => h

theorem formGoals_zonal (goals : ZoneId → Option Nat) : s.Zonal (s.formGoals goals) :=
  (setGoals_zonal ..).trans (forEachFreely_zonal _ (fun z t => goalChange_zonal t z) _)

/-! ### The search, but for a measurement that finds a culprit (06_isolation_search.md) -/

theorem shedNext_zonal (z : ZoneId) : s.Zonal (s.shedNext z) := by
  unfold State.shedNext
  dsimp only
  split
  · exact .refl s
  · exact (updSearch_zonal ..).trans (evaluateSwitches_zonal ..)

theorem exhaust_zonal (z : ZoneId) : s.Zonal (s.exhaust z) :=
  ((reportZone_zonal ..).trans (updSearch_zonal ..)).trans (trip_zonal ..)

theorem searchOn_zonal (z : ZoneId) : s.Zonal (s.searchOn z) := by
  unfold State.searchOn
  split
  · exact exhaust_zonal ..
  · exact shedNext_zonal ..

theorem clearSearch_zonal (z : ZoneId) : s.Zonal (s.clearSearch z) :=
  ((updSearch_zonal ..).trans (evaluateSwitches_zonal ..)).trans (enterHold_zonal ..)

theorem startSearch_zonal (z : ZoneId) (ma : Nat) : s.Zonal (s.startSearch z ma) :=
  ((((updRail_zonal s z _ rfl).trans (enterRail_zonal ..)).trans (updSearch_zonal ..)).trans (reportZone_zonal ..)).trans
    (searchOn_zonal ..)

theorem settleExpired_zonal (z : ZoneId) : s.Zonal (s.settleExpired z) := ite_zonal (updSearch_zonal ..)

/-! ### The heat controller (07_zone_heat.md) -/

theorem leaveStable_zonal (z : ZoneId) : s.Zonal (s.leaveStable z) := ite_zonal (noticeZone_zonal ..)

/-- A zone with a heater at work that is taken out of STABLE earns no more. -/
theorem leaveStable_barren {s : State} {z : ZoneId} (h : (s.zone z).heat.state = .off → (s.zone z).Barren) :
    ((s.leaveStable z).zone z).Barren := by
  unfold State.leaveStable
  split
  · exact noticeZone_barren s .thermal z
  · rename_i hstable
    by_cases hoff : (s.zone z).heat.state = .off
    · exact h hoff
    · exact barren_of_heat hstable hoff

theorem enterBlind_zonal (z : ZoneId) (h : (s.zone z).heat.state = .off → (s.zone z).Barren) : s.Zonal (s.enterBlind z) :=
  ((leaveStable_zonal s z).trans (updHeat_zonal_of_barren _ z _ (leaveStable_barren h))).trans (reportZone_zonal ..)

theorem enterOvertemp_zonal (z : ZoneId) (h : (s.zone z).heat.state = .off → (s.zone z).Barren) :
    s.Zonal (s.enterOvertemp z) :=
  ((((leaveStable_zonal s z).trans (updHeat_zonal_of_barren _ z _ (leaveStable_barren h))).trans (reportZone_zonal ..)).trans
    (trip_zonal ..)).trans (evaluateOutput_zonal _)

theorem enterStable_zonal (z : ZoneId) (h : (s.zone z).Barren) : s.Zonal (s.enterStable z) :=
  (updHeat_zonal_of_barren s z _ h).trans (reportZone_zonal ..)

theorem enterSide_zonal (z : ZoneId) (side : Side) (h : (s.zone z).Barren) : s.Zonal (s.enterSide z side) :=
  updHeat_zonal_of_barren s z _ h

theorem enterSoaking_zonal (z : ZoneId) (h : (s.zone z).Barren) : s.Zonal (s.enterSoaking z) := by
  unfold State.enterSoaking
  dsimp only
  split
  · exact enterStable_zonal s z h
  · exact updHeat_zonal_of_barren s z _ h

/-- A zone is placed after a notice, or from a state in which it earns nothing (R107). -/
theorem place_zonal (z : ZoneId) (target : Int) (t : Option Int) (h : (s.zone z).Barren) : s.Zonal (s.place z target t) := by
  unfold State.place
  dsimp only
  (repeat' split)
  · exact enterBlind_zonal s z fun _ => h
  · exact enterOvertemp_zonal s z fun _ => h
  · exact enterSide_zonal s z _ h
  · exact enterSoaking_zonal s z h

/-- Barrenness looks at neither the heat target nor the timers. -/
theorem updHeat_barren {s : State} {z : ZoneId} {f : Heat → Heat} (hb : (s.zone z).Barren)
    (h : (f (s.zone z).heat).state = (s.zone z).heat.state) (ht : (s.zone z).heat.state ≠ .off) :
    ((s.updHeat z f).zone z).Barren := by
  rw [State.updHeat, State.updZone_zone_same]
  rintro x ⟨hr, hv, hl, hheat⟩
  dsimp only at hheat
  rw [h] at hheat
  exact hb x ⟨hr, hv, hl, .inl (hheat.resolve_right fun he => ht he.1)⟩

end Sys2Proof.Machine
end

section
namespace Sys2Proof.Machine

variable (s : State)

/-! ### Targets and temperatures (R106 to R115) -/

theorem leaveStable_heat (z w : ZoneId) : ((s.leaveStable z).zone w).heat = (s.zone w).heat := by
  unfold State.leaveStable
  split
  · rw [State.noticeZone, notice_zone]; split <;> rfl
  · rfl

theorem heatOff_zonal (z : ZoneId) (h : (s.zone z).Barren) : s.Zonal (s.heatOff z) := updHeat_zonal_of_barren s z _ h

/-- A zone that has been heated takes a new target, or none (R107, R108). -/
theorem retarget_zonal (z : ZoneId) (g : Int) (t : Option Int) (h : (s.zone z).heat.state ≠ .off) :
    s.Zonal (((s.leaveStable z).updHeat z fun h => { h with target := some g, soak := none, grace := none }).place z g t) := by
  have hb := leaveStable_barren (s := s) (z := z) fun e => absurd e h
  exact ((leaveStable_zonal s z).trans (updHeat_zonal_of_barren _ z _ hb)).trans
    (place_zonal _ z g t (updHeat_barren hb rfl (by rwa [leaveStable_heat])))

theorem leaveHeat_zonal (z : ZoneId) (h : (s.zone z).heat.state ≠ .off) : s.Zonal ((s.leaveStable z).heatOff z) :=
  (leaveStable_zonal s z).trans (heatOff_zonal _ z (leaveStable_barren fun e => absurd e h))

/-- Placement out of OFF disturbs the zone (R107). -/
theorem placeOff_zonal (z : ZoneId) (g : Int) (f : Heat → Heat) (t : Option Int) :
    s.Zonal (((((s.updHeat z f).noticeZone .thermal z).place z g t)).updValues z Values.watchHeat) :=
  ((updZone_notice_zonal s z _ .thermal).trans (place_zonal _ z g t (noticeZone_barren _ .thermal z))).trans
    (updValues_zonal _ z _ id)

theorem targetChange_zonal (z : ZoneId) (target : Option Int) : s.Zonal (s.targetChange z target) := by
  unfold State.targetChange
  dsimp only
  split <;> rename_i hstate
  · exact .refl s
  · exact placeOff_zonal s z _ _ _
  · exact updHeat_zonal_of_barren s z _ (barren_of_heat (by simp [hstate]) (by simp [hstate]))
  · exact updHeat_zonal_of_barren s z _ (barren_of_heat (by simp [hstate]) (by simp [hstate]))
  · exact heatOff_zonal s z (barren_of_heat (by simp [hstate]) (by simp [hstate]))
  · rename_i g hoff _
    exact retarget_zonal s z g _ hoff
  · rename_i hoff _
    exact leaveHeat_zonal s z hoff

theorem formTargets_zonal (targets : ZoneId → Option Int) : s.Zonal (s.formTargets targets) :=
  forEachFreely_zonal _ (fun z t => targetChange_zonal t z (targets z)) s

theorem applyLaw_zonal (z : ZoneId) (t : Int) : s.Zonal (s.applyLaw z t) := by
  unfold State.applyLaw
  dsimp only
  split
  · exact ite_zonal (updHeat_zonal s z _ ⟨rfl, rfl⟩)
  · exact .refl s

theorem excursion_zonal (z : ZoneId) (side : Side) : s.Zonal (s.excursion z side) := by
  have hb : (((s.noticeZone .thermal z).reportZone z .thermalExcursion).zone z).Barren := by
    rw [State.reportZone, report_zone]; exact noticeZone_barren s .thermal z
  have h := (noticeZone_zonal s .thermal z).trans (reportZone_zonal _ z .thermalExcursion)
  unfold State.excursion
  dsimp only
  split
  · exact h.trans (enterSide_zonal _ z side hb)
  · exact h.trans (updHeat_zonal_of_barren _ z _ hb)

theorem bandSample_zonal (z : ZoneId) (target t : Int) : s.Zonal (s.bandSample z target t) := by
  have hb : (s.zone z).heat.state ≠ .stable → (s.zone z).heat.state ≠ .off → (s.zone z).Barren := barren_of_heat
  unfold State.bandSample
  dsimp only
  split
  · exact enterSoaking_zonal s z (hb (by simp [*]) (by simp [*]))
  · exact enterSoaking_zonal s z (hb (by simp [*]) (by simp [*]))
  · exact enterSide_zonal s z _ (hb (by simp [*]) (by simp [*]))
  · exact enterSide_zonal s z _ (hb (by simp [*]) (by simp [*]))
  · exact enterSide_zonal s z _ (hb (by simp [*]) (by simp [*]))
  · exact excursion_zonal ..
  · exact enterStable_zonal s z (hb (by simp [*]) (by simp [*]))
  · exact updHeat_zonal s z _ ⟨rfl, rfl⟩
  · exact place_zonal s z _ _ (hb (by simp [*]) (by simp [*]))
  all_goals exact .refl s

theorem leaveOvertemp_zonal (z : ZoneId) (t : Int) (h : (s.zone z).heat.state = .overtemp) : s.Zonal (s.leaveOvertemp z t) := by
  have hb : ((s.reportZone z .overtempClear).zone z).Barren := by
    rw [State.reportZone, report_zone]; exact barren_of_heat (by simp [h]) (by simp [h])
  unfold State.leaveOvertemp
  refine ((reportZone_zonal s z .overtempClear).trans ?_).trans (evaluateOutput_zonal _)
  split
  · exact place_zonal _ z _ _ hb
  · exact heatOff_zonal _ z hb

/-- What a sample does to a zone whose heater is at work, by the hard limit and then the band. -/
def State.sampleHeated (s : State) (z : ZoneId) (hardLimit : Int) (target : Option Int) (t : Int) : State :=
  if hardLimit ≤ t then s.enterOvertemp z
  else
    match target with
    | some target => s.bandSample z target t
    | none => s

theorem sampleHeated_zonal (z : ZoneId) (hardLimit : Int) (target : Option Int) (t : Int) (h : (s.zone z).heat.state ≠ .off) :
    s.Zonal (s.sampleHeated z hardLimit target t) := by
  unfold State.sampleHeated
  (repeat' split)
  · exact enterOvertemp_zonal s z fun e => absurd e h
  · exact bandSample_zonal ..
  · exact .refl s

/-- A sample decides the state of a heated zone, after the notice of an excursion (R109 to R114). -/
theorem heatState_eq (z : ZoneId) (t : Int) :
    s.heatState z t =
      if (s.zone z).heat.state = .off then s
      else if (s.zone z).heat.state = .overtemp then
        if t ≤ (s.zone z).cfg.hardLimit - 20 then s.leaveOvertemp z t else s
      else
        (if (s.zone z).heat.state = .excursion then s.noticeZone .thermal z else s).sampleHeated z
          (s.zone z).cfg.hardLimit (s.zone z).heat.target t := by
  unfold State.heatState State.sampleHeated
  dsimp only
  cases hstate : (s.zone z).heat.state <;> rfl

theorem heatState_zonal (z : ZoneId) (t : Int) : s.Zonal (s.heatState z t) := by
  rw [heatState_eq]
  split
  · exact .refl s
  · rename_i hoff
    split
    · exact ite_zonal (leaveOvertemp_zonal s z t ‹_›)
    · split
      · refine (noticeZone_zonal s .thermal z).trans (sampleHeated_zonal _ z _ _ t ?_)
        rw [State.noticeZone, notice_zone]
        split <;> exact hoff
      · exact sampleHeated_zonal s z _ _ t hoff

theorem temperatureSample_zonal (z : ZoneId) (t : Int) : s.Zonal (s.temperatureSample z t) :=
  (heatState_zonal ..).trans (applyLaw_zonal ..)

theorem heatStale_zonal (z : ZoneId) : s.Zonal (s.heatStale z) := by
  unfold State.heatStale
  dsimp only
  split
  · exact .refl s
  · exact (ite_zonal (enterBlind_zonal s z fun e => absurd e ‹_›)).trans (updValues_zonal _ z _ id)

theorem soakExpired_zonal (z : ZoneId) : s.Zonal (s.soakExpired z) := by
  unfold State.soakExpired
  dsimp only
  split
  · rename_i h
    exact enterStable_zonal s z (barren_of_heat (by simp [h.1]) (by simp [h.1]))
  · exact .refl s

theorem graceExpired_zonal (z : ZoneId) : s.Zonal (s.graceExpired z) := by
  unfold State.graceExpired
  dsimp only
  split
  · rename_i h
    exact enterSide_zonal s z _ (barren_of_heat (by simp [h.1]) (by simp [h.1]))
  · exact .refl s

theorem forceDuties_zonal : s.Zonal s.forceDuties := setZones_zonal s _ fun _ _ h => h

/-! ### The targets of a promoted step (R106, R160) -/

/-- Another set of zones excuses an OFF zone that needs it. -/
theorem State.EarnedBut.excuse {s : State} {x y : ZoneId → Prop} (hs : s.EarnedBut x)
    (h : ∀ z, (s.zone z).heat.state = .off → (s.zone z).heat.target = none → s.step.cur.tempTarget.get z ≠ none → x z → y z) :
    s.EarnedBut y :=
  hs.move (fun _ => .refl _) (fun _ _ ⟨hr, hv, hl, ht⟩ => ⟨hr, hv, hl, ht.imp_right fun ⟨ho, hn, hw⟩ =>
    ⟨ho, hn, or_iff_not_imp_left.mpr fun hne => h _ ho hn hne (hw.resolve_left hne)⟩⟩) fun _ _ => id

/-- Each zone that takes a present target is excused no more: an OFF one is disturbed, and another one has its target. -/
theorem targetChange_excused {s : State} {x : ZoneId → Prop} (hs : s.EarnedBut x) {z : ZoneId} {target : Option Int}
    (hx : x z → target ≠ none) : (s.targetChange z target).EarnedBut fun w => x w ∧ w ≠ z := by
  by_cases hoff : (s.zone z).heat.state = .off
  · cases target with
    | none => exact (targetChange_zonal ..).earned (hs.excuse fun w _ _ _ hw => ⟨hw, fun e => hx (e ▸ hw) rfl⟩)
    | some g =>
      have hplaced : s.targetChange z (some g) =
          ((((s.updHeat z fun h => { h with target := some g }).noticeZone .thermal z).place z g
            (s.zone z).values.temperature)).updValues z Values.watchHeat := by
        simp [State.targetChange, hoff]
      have hnotice : ((s.updHeat z fun h => { h with target := some g }).noticeZone .thermal z).EarnedBut
          fun w => x w ∧ w ≠ z :=
        notice_earned hs .thermal (· == z) (fun _ => .refl _) (fun w hw h => by
          have hne : w ≠ z := by simpa using hw
          rw [State.updHeat, State.updZone_zone, if_neg hne.symm]
          obtain ⟨hr, hv, hl, ht⟩ := h
          exact ⟨hr, hv, hl, ht.imp_right fun ⟨h, hn, ht⟩ => ⟨h, hn, ht.imp_right fun hw => ⟨hw, hne⟩⟩⟩) fun _ _ => id
      rw [hplaced]
      exact ((place_zonal _ z g _ (noticeZone_barren _ .thermal z)).trans (updValues_zonal _ z _ id)).earned hnotice
  · exact (targetChange_zonal ..).earned (hs.excuse fun w ho _ _ hw => ⟨hw, fun e => hoff (e ▸ ho)⟩)

theorem targetChanges_earned (targets : ZoneId → Option Int) (zs : List ZoneId) {t : State}
    (ht : t.EarnedBut fun z => z ∈ zs ∧ targets z ≠ none) : (forEach zs (fun z t => t.targetChange z (targets z)) t).Earned := by
  induction zs generalizing t with
  | nil => exact ht.excuse fun _ _ _ _ h => nomatch h.1
  | cons z zs ih =>
    exact ih ((targetChange_excused ht And.right).excuse fun w _ _ _ ⟨⟨hw, hg⟩, hne⟩ =>
      ⟨(List.mem_cons.mp hw).resolve_left hne, hg⟩)

/-- Once every zone with a new target has taken it, no zone is excused. -/
theorem formTargets_earned {s : State} (hs : s.EarnedBut fun _ => True) : (s.formTargets s.stepTargets).Earned := by
  refine targetChanges_earned s.stepTargets _ ((freely_zonal s _).earned (hs.excuse fun z _ hn ht _ => ?_))
  have hsome : s.stepTargets z ≠ none := by simpa [State.stepTargets] using ht
  exact ⟨(freely_perm _ s).mem_iff.mpr (by simp [State.changedTargets, allZones, hn, hsome]), hsome⟩

end Sys2Proof.Machine
end

/-! ## What a command keeps of credit, qualification and the engine -/

section
namespace Sys2Proof.Machine

/-- A socket's credit and its fraction (R33, R34). -/
def Socket.worth (k : Socket) : Nat × Nat := (k.credit, k.fraction)

theorem worth_of_marks {k k' : Socket} (h : k'.marks = k.marks) : k'.worth = k.worth :=
  congrArg (fun m => m.2.2.2.1) h

/-- From `k` to `k'` a socket is not newly qualified, and its credit stands. -/
def Socket.Stands (k k' : Socket) : Prop := k.Follows k' ∧ k'.worth = k.worth

theorem Socket.Stands.refl (k : Socket) : k.Stands k := ⟨.refl k, rfl⟩

theorem Socket.Stands.trans {k k' k'' : Socket} (h : k.Stands k') (h' : k'.Stands k'') : k.Stands k'' :=
  ⟨h.1.trans h'.1, h'.2.trans h.2⟩

theorem Socket.Stands.of_eq {k k' : Socket} (hq : k'.qualified = k.qualified) (hz : k'.zone = k.zone) (ha : k'.state = k.state)
    (hs : k'.switch = k.switch) (hw : k'.worth = k.worth) : k.Stands k' := ⟨.of_eq hq hz ha hs, hw⟩

theorem switched_stands (k : Socket) (on : Bool) : k.Stands (k.switched on) :=
  ⟨switched_follows k on, worth_of_marks (switched_marks k on)⟩

theorem toState_stands (k : Socket) (new : SocketState) : k.Stands (k.toState new) := ⟨toState_follows k new, rfl⟩

theorem reasoned_stands (k : Socket) (r : Reasons) : k.Stands (k.reasoned r) :=
  Socket.Stands.trans (.of_eq rfl rfl rfl rfl rfl) (toState_stands { k with reasons := r } _)

/-! ### Checks, window ends, verdicts and holds -/

/-- A move of sockets, lanes and records that qualifies no socket and moves no credit. -/
structure State.Sparing (s t : State) : Prop where
  checked : s.CheckedTo t
  stands : ∀ i, (s.socket i).Stands (t.socket i)

theorem State.Sparing.refl (s : State) : s.Sparing s := ⟨.refl s, fun _ => .refl _⟩

theorem State.Sparing.trans {s t u : State} (h : s.Sparing t) (h' : t.Sparing u) : s.Sparing u :=
  ⟨h.checked.trans h'.checked, fun i => (h.stands i).trans (h'.stands i)⟩

/-- A move of one socket that stands. -/
theorem State.Local.sparing {s t : State} {i : SocketId} (h : s.Local i t) (hi : (s.socket i).Stands (t.socket i)) :
    s.Sparing t :=
  ⟨h.checked, fun j => by
    by_cases hj : j = i
    · exact hj ▸ hi
    · rw [h.sockets j hj]; exact .refl _⟩

theorem forEach_sparing {α : Type} (xs : List α) {f : α → State → State} (h : ∀ (x : α) (s : State), s.Sparing (f x s))
    (s : State) : s.Sparing (forEach xs f s) :=
  forEach_keeps (P := s.Sparing) (fun x _ _ hs => hs.trans (h x _)) (.refl s)

theorem forEachFreely_sparing {α : Type} (xs : List α) {f : α → State → State} (h : ∀ (x : α) (s : State), s.Sparing (f x s))
    (s : State) : s.Sparing (forEachFreely xs f s) :=
  forEachFreely_keeps (P := s.Sparing) (fun _ _ hs => hs.trans ⟨rfl, fun _ => .refl _⟩) (fun x _ _ hs => hs.trans (h x _)) (.refl s)

variable (s : State)

theorem report_sparing (r : Record) : s.Sparing (s.report r) :=
  ⟨report_checked s r, fun i => by rw [report_socket]; exact .refl _⟩

theorem updLane_sparing (n : LaneId) (f : Lane → Lane) : s.Sparing (s.updLane n f) := ⟨rfl, fun _ => .refl _⟩

theorem updSocket_sparing (i : SocketId) (f : Socket → Socket) (h : (s.socket i).Stands (f (s.socket i))) :
    s.Sparing (s.updSocket i f) :=
  (updSocket_local s i f).sparing (by rwa [State.updSocket_socket_same])

theorem evaluateSwitch_sparing (i : SocketId) : s.Sparing (s.evaluateSwitch i) :=
  (evaluateSwitch_quiet s i).toLocal.sparing (by rw [evaluateSwitch_socket, if_pos rfl]; exact switched_stands _ _)

theorem changeState_sparing (i : SocketId) (new : SocketState) (c : Option FailCause) : s.Sparing (s.changeState i new c) :=
  (changeState_local s i new c).sparing (by rw [changeState_socket_eq, if_pos rfl]; exact toState_stands _ _)

theorem placeHold_sparing (i : SocketId) (h : Hold) : s.Sparing (s.placeHold i h) :=
  (updSocket_sparing s i _ (.of_eq rfl rfl rfl rfl rfl)).trans (evaluateSwitch_sparing ..)

theorem placeHold?_sparing (i : SocketId) (h : Option Hold) : s.Sparing (s.placeHold? i h) := by
  cases h with
  | none => exact .refl s
  | some h => exact placeHold_sparing s i h

theorem finding_sparing (i : SocketId) (c : FailCause) : s.Sparing (s.finding i c) := by
  have h := placeHold?_sparing s i (c.hold (s.policyOf i).isolateOnFail)
  unfold State.finding
  dsimp only
  split
  · exact (h.trans (updSocket_sparing _ i _ (.of_eq rfl rfl rfl rfl rfl))).trans (changeState_sparing ..)
  · exact h

theorem complete_sparing (i : SocketId) : s.Sparing (s.complete i) := (placeHold?_sparing ..).trans (changeState_sparing ..)

theorem testCompletion_sparing (i : SocketId) : s.Sparing (s.testCompletion i) := by
  unfold State.testCompletion
  split
  · exact complete_sparing s i
  · exact .refl s

theorem setReasons_sparing (i : SocketId) (f : Reasons → Reasons) : s.Sparing (s.setReasons i f) :=
  (setReasons_turns s i f).toLocal.sparing (by
    rw [setReasons_socket]
    split
    · exact reasoned_stands _ _
    · exact .refl _)

theorem reviewReasons_sparing (i : SocketId) : s.Sparing (s.reviewReasons i) := by
  unfold State.reviewReasons; exact setReasons_sparing ..

theorem failingCheck_sparing (f : Failing) : s.Sparing (s.failingCheck f) := by
  unfold State.failingCheck
  dsimp only
  split
  · split
    · exact (updSocket_sparing s _ _ (.of_eq rfl rfl rfl rfl rfl)).trans (report_sparing ..)
    · exact updSocket_sparing s _ _ (.of_eq rfl rfl rfl rfl rfl)
  · exact .refl s

theorem lockChanged_sparing (n : LaneId) (e : Option LaneEvent) : s.Sparing (s.lockChanged n e) := by
  unfold State.lockChanged
  split
  · exact (report_sparing ..).trans (setReasons_sparing ..)
  · exact (report_sparing ..).trans (reviewReasons_sparing ..)
  · exact .refl s

theorem stuckChanged_sparing (n : LaneId) (e : Option LaneEvent) : s.Sparing (s.stuckChanged n e) := by
  unfold State.stuckChanged
  split
  · exact (report_sparing ..).trans (setReasons_sparing ..)
  · exact (report_sparing ..).trans (reviewReasons_sparing ..)
  · exact .refl s

theorem endPrbsWindow_sparing (n : LaneId) : s.Sparing (s.endPrbsWindow n) := by
  rw [endPrbsWindow_eq]
  split
  · exact (updLane_sparing ..).trans (lockChanged_sparing ..)
  · exact .refl s

theorem endToggleWindow_sparing (n : LaneId) : s.Sparing (s.endToggleWindow n) := by
  rw [endToggleWindow_eq]
  split
  · exact (updLane_sparing ..).trans (stuckChanged_sparing ..)
  · exact .refl s

theorem endDueWindows_sparing : s.Sparing s.endDueWindows :=
  (forEachFreely_sparing _ (fun n t => endPrbsWindow_sparing t n) s).trans
    (forEachFreely_sparing _ (fun n t => endToggleWindow_sparing t n) _)

theorem checkLanes_sparing (c : CycleWords) (sense : BitVec 64) : s.Sparing (s.checkLanes c sense) :=
  State.Sparing.trans (t := s.setLanes _) ⟨rfl, fun _ => .refl _⟩ (forEachFreely_sparing _ (fun f t => failingCheck_sparing t f) _)

theorem judgeScore_sparing (i : SocketId) : s.Sparing (s.judgeScore i) := by
  have hc : ∀ f : Socket → Nat, s.Sparing (s.updSocket i fun k => { k with clean := f k }) := fun f =>
    updSocket_sparing s i _ (.of_eq rfl rfl rfl rfl rfl)
  unfold State.judgeScore
  dsimp only
  (repeat' split)
  · exact hc fun _ => 0
  · exact setReasons_sparing ..
  · exact (hc fun _ => 0).trans (setReasons_sparing ..)
  · exact hc fun k => k.clean + 1
  · exact .refl s

theorem transferSocket_sparing (i : SocketId) : s.Sparing (s.transferSocket i) := by
  have ht : s.Sparing (s.updSocket i Socket.transferred) := updSocket_sparing s i _ (.of_eq rfl rfl rfl rfl rfl)
  unfold State.transferSocket State.judge
  (repeat' split)
  · exact ht.trans (finding_sparing ..)
  · exact ht.trans (judgeScore_sparing ..)
  · exact updSocket_sparing s i _ (.of_eq rfl rfl rfl rfl rfl)

theorem releaseSocket_sparing (i : SocketId) : s.Sparing (s.releaseSocket i) :=
  ((updSocket_sparing s i Socket.released (.of_eq rfl rfl rfl rfl rfl)).trans (evaluateSwitch_sparing ..)).trans
    (changeState_sparing ..)

theorem restoreSocket_sparing (i : SocketId) : s.Sparing (s.restoreSocket i) := by
  unfold State.restoreSocket
  split
  · exact .refl s
  · exact (updSocket_sparing s i _ (.of_eq rfl rfl rfl rfl rfl)).trans (evaluateSwitch_sparing ..)

/-- The lanes of sockets are reset: their estimates may go (R142). -/
theorem resetLanes_sparing (named : LaneId → Bool) : s.Sparing (s.resetLanes named) :=
  ⟨rfl, fun i => by
    rw [resetLanes_socket]
    split
    · exact .of_eq rfl rfl rfl rfl rfl
    · exact .refl _⟩

theorem invalidGate_sparing (i : SocketId) : s.Sparing (s.invalidGate i) := by
  have h : s.Sparing ((s.updSocket i fun k => { k with estimate := none }).updLane (secondaryLane i) fun l =>
      { l with gate := { l.gate with monitor := .lost } }) :=
    (updSocket_sparing s i _ (.of_eq rfl rfl rfl rfl rfl)).trans (updLane_sparing ..)
  unfold State.invalidGate
  dsimp only
  split
  · exact h
  · exact h.trans (report_sparing ..)

theorem validGate_sparing (i : SocketId) (count : Nat) : s.Sparing (s.validGate i count) := by
  have h : s.Sparing ((s.updSocket i fun k => { k with estimate := some ((s.socket i).estimateOf count) }).updLane
      (secondaryLane i) fun l => { l with gate := { l.gate with monitor := .valid } }) :=
    (updSocket_sparing s i _ (.of_eq rfl rfl rfl rfl rfl)).trans (updLane_sparing ..)
  have hr := h.trans (report_sparing _ (.lane (laneSocket (secondaryLane i)) (secondaryLane i) .monitorBack))
  unfold State.validGate
  dsimp only
  (repeat' split)
  · exact hr.trans (finding_sparing ..)
  · exact hr
  · exact h.trans (finding_sparing ..)
  · exact h

theorem gateExpired_sparing (i : SocketId) : s.Sparing (s.gateExpired i) := by
  unfold State.gateExpired
  dsimp only
  (repeat' split)
  · exact .refl s
  · exact (updLane_sparing ..).trans (invalidGate_sparing ..)
  · exact (updLane_sparing ..).trans (validGate_sparing ..)

theorem risingEdge_sparing (i : SocketId) : s.Sparing (s.risingEdge i) := updLane_sparing ..

end Sys2Proof.Machine
end

section
namespace Sys2Proof.Machine

/-- From `s` to `t` the engine stays consistent and qualification earned, and each credit stands, or falls to 0 where the move may
clear it. -/
structure State.Keeps (clears : Bool) (s t : State) : Prop where
  engine : s.EngineConsistent → t.EngineConsistent
  earned : s.Earned → t.Earned
  worth : ∀ i, (t.socket i).worth = (s.socket i).worth ∨ (clears = true ∧ (t.socket i).worth = (0, 0))

variable {c : Bool}

theorem State.Keeps.refl (s : State) : s.Keeps c s := ⟨id, id, fun _ => .inl rfl⟩

theorem State.Keeps.trans {s t u : State} (h : s.Keeps c t) (h' : t.Keeps c u) : s.Keeps c u :=
  ⟨h'.engine ∘ h.engine, h'.earned ∘ h.earned, fun i => by
    rcases h'.worth i with e | e
    · rw [e]; exact h.worth i
    · exact .inr e⟩

/-- What looks at neither the engine nor the conditions of accrual, nor at credit. -/
theorem keeps_of_eq {s t : State} (hk : t.sockets = s.sockets) (hz : t.zones = s.zones) (he : t.engine = s.engine)
    (hd : t.driveInEffect = s.driveInEffect) (ht : ∀ z, s.step.cur.tempTarget.get z = none → t.step.cur.tempTarget.get z = none) :
    s.Keeps c t := by
  have hsocket : ∀ i, t.socket i = s.socket i := fun i => congrArg (fun k => k.get i) hk
  have hzone : ∀ z, t.zone z = s.zone z := fun z => congrArg (fun v => v.get z) hz
  refine ⟨fun h => ?_, fun hs => hs.move (fun i => ?_) (fun i _ => ?_) (fun i _ h => ?_), fun i => .inl ?_⟩
  · rwa [State.EngineConsistent, he]
  · rw [hsocket]; exact .refl _
  · dsimp only
    rw [hzone]
    exact fun ⟨hr, hv, hl, h⟩ => ⟨hr, hv, hl, h.imp_right fun ⟨ho, hn, h⟩ => ⟨ho, hn, h.imp_left (ht _)⟩⟩
  · simpa [State.exercised, State.hasActiveLane, he, hd] using h
  · rw [hsocket]

theorem State.Zonal.keeps {s t : State} (h : s.Zonal t) : s.Keeps c t :=
  ⟨fun hs => by rwa [State.EngineConsistent, h.engine], h.earned, fun i => .inl (by rw [h.socket i]; rfl)⟩

/-- A move of sockets and lanes that qualifies none keeps qualification earned. -/
theorem State.CheckedTo.earned {s t : State} (h : s.CheckedTo t) (hk : ∀ i, (s.socket i).Follows (t.socket i)) {x : ZoneId → Prop}
    (hs : s.EarnedBut x) : t.EarnedBut x := by
  refine hs.move hk (fun i _ => ?_) (fun i _ he => ?_)
  · dsimp only
    rw [h.zone, h.step]; exact id
  · rw [h]; exact he

theorem State.CheckedTo.keeps {s t : State} (h : s.CheckedTo t) (hk : ∀ i, (s.socket i).Follows (t.socket i))
    (hw : ∀ i, (t.socket i).worth = (s.socket i).worth ∨ (c = true ∧ (t.socket i).worth = (0, 0))) : s.Keeps c t :=
  ⟨fun hs => by rwa [State.EngineConsistent, h.engine], h.earned hk, hw⟩

theorem State.Sparing.keeps {s t : State} (h : s.Sparing t) : s.Keeps c t :=
  h.checked.keeps (fun i => (h.stands i).1) fun i => .inl (h.stands i).2

theorem forEach_keepsAll {α : Type} {xs : List α} {f : α → State → State} (h : ∀ (x : α) (s : State), s.Keeps c (f x s))
    (s : State) : s.Keeps c (forEach xs f s) :=
  forEach_keeps (P := State.Keeps c s) (fun x _ _ hs => hs.trans (h x _)) (.refl s)

theorem forEachFreely_keepsAll {α : Type} {xs : List α} {f : α → State → State} (h : ∀ (x : α) (s : State), s.Keeps c (f x s))
    (s : State) : s.Keeps c (forEachFreely xs f s) :=
  forEachFreely_keeps (P := State.Keeps c s) (fun _ n hs => hs.trans (freeIndex_zonal _ n).keeps) (fun x _ _ hs => hs.trans (h x _))
    (.refl s)

/-- A choice between a move and none. -/
theorem ite_keeps {p : Prop} [Decidable p] {s t : State} (h : s.Keeps c t) : s.Keeps c (if p then t else s) := by
  split
  · exact h
  · exact .refl s

/-! ### The engine (08_pattern_drive.md) -/

/-- A consistent engine (`EngineConsistent` looks at nothing else). -/
def Engine.Consistent (e : Engine) : Prop :=
  (e.state = .streaming → e.queue ≠ []) ∧ (e.state = .looping → e.loopValid = true ∧ e.loopIndex < e.loopLength) ∧
    (1 ≤ e.loopLength ∧ e.loopLength ≤ 256)

theorem engineConsistent_iff (s : State) : s.EngineConsistent ↔ s.engine.Consistent := Iff.rfl

/-- An engine that plays no vector. -/
theorem consistent_of_idle {e : Engine} (h : e.state = .stopped ∨ e.state = .starved)
    (hl : 1 ≤ e.loopLength ∧ e.loopLength ≤ 256) : e.Consistent := by
  refine ⟨fun h' => ?_, fun h' => ?_, hl⟩ <;> rcases h with h | h <;> exact absurd (h.symm.trans h') (by decide)

/-- A vector that a source finds is there to play (R128). -/
theorem choose_consistent {e f : Engine} {source : PatternSource} (h : e.choose source = some f)
    (hl : 1 ≤ e.loopLength ∧ e.loopLength ≤ 256) : f.Consistent := by
  have hqueue : e.queue.isEmpty = false → e.playQueue.Consistent := fun h =>
    ⟨fun _ hq => by simp [show e.queue = [] from hq] at h, nofun, hl⟩
  have hloop : e.loopValid = true → (e.playLoop 0).Consistent := fun h => ⟨nofun, fun _ => ⟨h, hl.1⟩, hl⟩
  unfold Engine.choose at h
  (repeat' split at h) <;> simp only [Option.some.injEq, reduceCtorEq] at h <;> subst h
  · exact hqueue (by simp_all)
  · exact hqueue (by simp_all)
  · exact hloop ‹_›
  · exact hloop ‹_›

theorem choose_playing {e f : Engine} {source : PatternSource} (h : e.choose source = some f) : f.state.playing = true := by
  unfold Engine.choose at h
  (repeat' split at h) <;> simp only [Option.some.injEq, reduceCtorEq] at h <;> subst h <;> rfl

theorem exercised_of_playing {s t : State} (hd : t.driveInEffect = s.driveInEffect)
    (h : s.engine.state.playing = true → t.engine.state.playing = true) (z : ZoneId) (hs : s.exercised z = true) :
    t.exercised z = true := by
  simp only [State.exercised, State.hasActiveLane, Bool.and_eq_true, hd] at hs ⊢
  exact ⟨h hs.1, hs.2⟩

/-- The engine moves, and plays if it played. -/
theorem updEngine_earned {s : State} (hs : s.Earned) {f : Engine → Engine}
    (hp : s.engine.state.playing = true → (f s.engine).state.playing = true) : (s.updEngine f).Earned :=
  State.EarnedBut.move (t := s.updEngine f) hs (fun _ => .refl _) (fun _ _ => id) fun _ _ =>
    exercised_of_playing (s := s) (t := s.updEngine f) rfl hp _

theorem updEngine_keeps (s : State) (f : Engine → Engine) (hc : s.engine.Consistent → (f s.engine).Consistent)
    (hp : s.engine.state.playing = true → (f s.engine).state.playing = true) : s.Keeps c (s.updEngine f) :=
  ⟨hc, fun hs => updEngine_earned hs hp, fun _ => .inl rfl⟩

/-- A change of the engine or of the rows in effect, watched for the zones whose exercise it ends (R137). -/
theorem watchExercise_earned {s : State} {f : State → State} (hk : (f s).sockets = s.sockets) (hz : (f s).zones = s.zones)
    (ht : (f s).step = s.step) (hs : s.Earned) : (s.watchExercise f).Earned := by
  have hsocket : ∀ i, (f s).socket i = s.socket i := fun i => congrArg (fun k => k.get i) hk
  have hzone : ∀ z, (f s).zone z = s.zone z := fun z => congrArg (fun v => v.get z) hz
  exact notice_earned hs .exercise _ (fun i => by rw [hsocket]; exact .refl _) (fun z _ => by rw [hzone, ht]; exact id)
    fun z hn he => by simpa [he] using hn

theorem watchExercise_worth {s : State} {f : State → State} (hk : (f s).sockets = s.sockets) (i : SocketId) :
    ((s.watchExercise f).socket i).worth = (s.socket i).worth := by
  unfold State.watchExercise
  rw [notice_socket, State.socket, hk]
  split <;> rfl

theorem stopEngine_keeps (s : State) : s.Keeps c s.stopEngine :=
  ⟨fun h => consistent_of_idle (.inl rfl) h.2.2, watchExercise_earned rfl rfl rfl, fun i => .inl (watchExercise_worth rfl i)⟩

theorem stopEngineAtOnce_keeps (s : State) : s.Keeps c s.stopEngineAtOnce :=
  (stopEngine_keeps s).trans (updEngine_keeps _ _ (fun h => consistent_of_idle (.inl rfl) h.2.2) id)

theorem enterStarved_engine_consistent {s : State} (h : 1 ≤ s.engine.loopLength ∧ s.engine.loopLength ≤ 256) :
    s.enterStarved.engine.Consistent := by
  rw [enterStarved_engine]; exact consistent_of_idle (.inr rfl) h

theorem enterStarved_keeps (s : State) : s.Keeps c s.enterStarved := by
  have hw : s.Keeps c (s.watchExercise fun s => s.updEngine fun e => { e with state := .starved, loopIndex := 0, cycle := 0 }) :=
    ⟨fun h => consistent_of_idle (.inr rfl) h.2.2, watchExercise_earned rfl rfl rfl, fun i => .inl (watchExercise_worth rfl i)⟩
  exact (hw.trans (reportPattern_zonal ..).keeps).trans (noticeAll_zonal ..).keeps

theorem resume_keeps (s : State) : s.Keeps c s.resume := by
  unfold State.resume
  split
  · rename_i h
    exact (updEngine_keeps s _ (fun hs => choose_consistent h hs.2.2) fun _ => choose_playing h).trans (reportPattern_zonal ..).keeps
  · exact .refl s

/-! ### Boundaries (R130) -/

theorem nextLoopIndex_lt {e : Engine} (h : 1 ≤ e.loopLength) : e.nextLoopIndex < e.loopLength := by
  unfold Engine.nextLoopIndex; split <;> omega

/-- The choice at a boundary finds a vector to play, or the engine starves or stops. -/
theorem chooseNext_consistent {s : State} {was : EngineState} (hl : 1 ≤ s.engine.loopLength ∧ s.engine.loopLength ≤ 256)
    (hv : was = .looping → s.engine.loopValid = true) : (s.chooseNext was).engine.Consistent := by
  have hqueue : s.engine.queue.isEmpty = false → s.engine.playQueue.Consistent := fun h =>
    ⟨fun _ hq => by simp [show s.engine.queue = [] from hq] at h, nofun, hl⟩
  have hloop : ∀ n, n < s.engine.loopLength → s.engine.loopValid = true → (s.engine.playLoop n).Consistent := fun n hn h =>
    ⟨nofun, fun _ => ⟨h, hn⟩, hl⟩
  have hnext := nextLoopIndex_lt hl.1
  unfold State.chooseNext
  dsimp only
  (repeat' split)
  · exact consistent_of_idle (.inl rfl) hl
  · exact enterStarved_engine_consistent hl
  · exact hqueue (by simp_all)
  · exact hqueue (by simp_all)
  · exact hloop _ hnext (hv rfl)
  · exact hqueue (by simp_all)
  · rw [reportPattern_engine]; exact hloop 0 hl.1 ‹_›
  · exact enterStarved_engine_consistent hl
  · exact hloop _ hnext (hv rfl)
  · exact hloop 0 hl.1 ‹_›
  · exact enterStarved_engine_consistent hl

/-- At a boundary the engine goes on playing, or the zones whose exercise ends are disturbed. -/
theorem chooseNext_keeps_earned {s : State} (hs : s.Earned) (was : EngineState) : (s.chooseNext was).Earned := by
  have hplay : ∀ f : Engine → Engine, (f s.engine).state.playing = true → (s.updEngine f).Earned := fun f h =>
    updEngine_earned hs fun _ => h
  have hstarve : s.enterStarved.Earned := (enterStarved_keeps (c := false) s).earned hs
  unfold State.chooseNext
  dsimp only
  (repeat' split)
  · exact (stopEngine_keeps (c := false) s).earned hs
  all_goals first
    | exact hstarve
    | exact hplay _ rfl
    | exact (reportPattern_zonal ..).earned (hplay _ rfl)

theorem chooseNext_worth (s : State) (was : EngineState) (i : SocketId) :
    ((s.chooseNext was).socket i).worth = (s.socket i).worth :=
  worth_of_marks (State.marks_socket (chooseNext_marks s was) i)

theorem boundary_keeps (s : State) : s.Keeps c s.boundary := by
  unfold State.boundary
  split
  · rename_i hdue
    exact ⟨fun h => chooseNext_consistent h.2.2 fun hl => (h.2.1 hl).1,
      fun hs => chooseNext_keeps_earned (updEngine_earned hs id) _, fun i => .inl (chooseNext_worth ..)⟩
  · exact .refl s

/-! ### Vector blocks, the Loop Store and DRIVE rows -/

theorem trackBlock_keeps (s : State) (b : Block) : s.Keeps c (s.trackBlock b) := by
  have htrack : ∀ t : State, t.Keeps c (t.updEngine fun e => { e with expected := some ((b.number + 1) % 65536) }) := fun t =>
    updEngine_keeps t _ id id
  unfold State.trackBlock
  dsimp only
  split
  · exact ((reportPattern_zonal ..).trans (noticeAll_zonal ..)).keeps.trans (htrack _)
  · exact htrack s

theorem refuseBlock_zonal (s : State) (b : Block) (e : PatternEvent) : s.Zonal (s.refuseBlock b e) :=
  (reportPattern_zonal ..).trans (noticeAll_zonal ..)

theorem takeBlock_keeps (s : State) (b : Block) : s.Keeps c (s.takeBlock b) := by
  have hjoin : ∀ t : State, t.Keeps c (t.updEngine fun e => { e with queue := e.queue ++ b.entries }) := fun t =>
    updEngine_keeps t _ (fun h => ⟨fun hs hq => h.1 hs (List.append_eq_nil_iff.mp hq).1, h.2⟩) id
  unfold State.takeBlock
  refine (trackBlock_keeps s b).trans ?_
  dsimp only
  (repeat' split)
  · exact (refuseBlock_zonal ..).keeps
  · exact (refuseBlock_zonal ..).keeps
  · exact (hjoin _).trans (resume_keeps _)
  · exact hjoin _

/-- LOOP_LOAD is taken only while no loop plays (R127). -/
theorem loadLoop_keeps (s : State) (first : Nat) (vs : List Vec) (isLast : Bool) (h : s.engine.state ≠ .looping)
    (hn : 1 ≤ vs.length) (hl : first + vs.length ≤ 256) : s.Keeps c (s.loadLoop first vs isLast) := by
  have hload : s.Keeps c (s.updEngine fun e =>
      let e := { e with loopValid := e.loopValid && decide (first ≠ 0) }.writeLoop first vs
      if isLast then { e with loopLength := first + vs.length, loopValid := true } else e) := by
    refine updEngine_keeps s _ (fun hs => ?_) fun hs => ?_
    · dsimp only
      split
      · exact ⟨hs.1, fun h' => absurd h' h, Nat.le_trans hn (Nat.le_add_left ..), hl⟩
      · exact ⟨hs.1, fun h' => absurd h' h, hs.2.2⟩
    · dsimp only
      split <;> exact hs
  exact hload.trans (ite_keeps (resume_keeps _))

/-- In an engine that plays nothing no zone is exercised, and so no socket is qualified. -/
theorem unqualified_of_idle {s : State} (hs : s.Earned) (h : s.engine.state.playing = false) (i : SocketId) :
    (s.socket i).qualified = false := by
  by_contra hq
  obtain ⟨-, -, -, he⟩ := hs i (Bool.not_eq_false _ ▸ hq)
  simp [State.exercised, h] at he

/-- DRIVE rows come into effect at once while the engine is STOPPED (R133). -/
theorem driveInEffect_keeps (s : State) (d : Table 64 DriveRow) (h : s.engine.state = .stopped) :
    s.Keeps c { s with driveInEffect := d } :=
  ⟨id, fun hs => earnedBut_of_none (s := { s with driveInEffect := d }) (unqualified_of_idle (s := s) hs (by rw [h]; rfl)) _,
    fun _ => .inl rfl⟩

theorem writeDrive_keeps (s : State) (rows : List (Fin 64 × DriveRow)) : s.Keeps c (s.writeDrive rows) := by
  have hd : ∀ d : Table 64 DriveRow, s.Keeps c { s with drive := d } := fun _ => keeps_of_eq rfl rfl rfl rfl fun _ => id
  refine (hd (rows.foldl (fun t r => t.set r.1 r.2) s.drive)).trans ?_
  unfold State.writeDrive
  dsimp only
  split
  · exact driveInEffect_keeps _ _ ‹_›
  · exact .refl _

theorem resetEngine_keeps (s : State) : s.Keeps c s.resetEngine :=
  (stopEngineAtOnce_keeps s).trans (updEngine_keeps _ _ id id)

/-! ### Vector cycles (R129) and the start of the engine (R128) -/

theorem setDriving_zonal (s : State) (f : ZoneId → Bool) : s.Zonal (s.setZones fun z => { s.zone z with driving := f z }) :=
  setZones_zonal s _ fun _ _ h => h

theorem driveCycle_keeps (s : State) : s.Keeps c s.driveCycle := by
  have hw : s.Keeps c (s.watchExercise fun s => { s with driveInEffect := s.drive }) :=
    ⟨id, watchExercise_earned rfl rfl rfl, fun i => .inl (watchExercise_worth rfl i)⟩
  exact hw.trans (setDriving_zonal _ _).keeps

theorem startCycle_keeps (s : State) (sense : BitVec 64) : s.Keeps c (s.startCycle sense) := by
  unfold State.startCycle
  refine (driveCycle_keeps s).trans ?_
  dsimp only
  split
  · exact (updEngine_keeps _ _ id id).trans (checkLanes_sparing ..).keeps
  · exact updEngine_keeps _ _ id id

theorem vectorCycle_keeps (s : State) (sense : BitVec 64) : s.Keeps c (s.vectorCycle sense) := by
  have h := (endDueWindows_sparing s).keeps.trans (boundary_keeps (c := c) s.endDueWindows)
  unfold State.vectorCycle
  dsimp only
  (repeat' split)
  · exact .refl s
  · exact h
  · exact h.trans (startCycle_keeps ..)

theorem chooseFirst_keeps (s : State) : s.Keeps c s.chooseFirst := by
  unfold State.chooseFirst
  refine (updEngine_keeps s (fun e =>
    { e with prbsA := BitVec.allOnes 9, prbsB := BitVec.allOnes 15, clockPhase := false, period := s.step.cur.period })
    id id).trans ?_
  dsimp only
  split
  · rename_i h
    exact updEngine_keeps _ _ (fun hs => choose_consistent h hs.2.2) fun _ => choose_playing h
  · exact enterStarved_keeps _

theorem firstCycle_keeps (s : State) : s.Keeps c s.firstCycle := (freeIndex_zonal s _).keeps.trans (startCycle_keeps ..)

theorem startEngine_keeps (s : State) (h : s.engine.state = .stopped) : s.Keeps c s.startEngine := by
  have hd := endDueWindows_sparing s
  exact ((hd.keeps.trans (driveInEffect_keeps _ _ (by rw [hd.checked.engine, h]))).trans (chooseFirst_keeps _)).trans
    (firstCycle_keeps _)

theorem enginePromoted_keeps (s : State) (old : PatternSource) : s.Keeps c (s.enginePromoted old) := by
  have hp : s.Keeps c (s.updEngine fun e => { e with period := s.step.cur.period }) := updEngine_keeps s _ id id
  unfold State.enginePromoted
  dsimp only
  (repeat' split)
  · exact .refl s
  · exact startEngine_keeps s ‹_›
  · exact .refl s
  · exact .refl s
  · exact hp.trans (stopEngine_keeps _)
  · exact hp
  · exact hp.trans (resume_keeps _)

end Sys2Proof.Machine
end

section
namespace Sys2Proof.Machine

variable {c : Bool}

/-! ### Step control (10_step_control.md) -/

theorem updStep_keeps (s : State) (f : StepCtl → StepCtl)
    (h : ∀ z, s.step.cur.tempTarget.get z = none → (f s.step).cur.tempTarget.get z = none) : s.Keeps c (s.updStep f) :=
  keeps_of_eq rfl rfl rfl rfl h

/-- A promotion's new targets are taken before the engine is handed it (R160). -/
theorem promote_keeps (s : State) (event : StepEvent) : s.Keeps c (s.promote event) := by
  have hstart : s.Earned → (s.updStep StepCtl.promoted).EarnedBut fun _ => True := fun hs =>
    State.EarnedBut.move (t := s.updStep StepCtl.promoted) hs (fun _ => .refl _) (fun _ _ ⟨hr, hv, hl, ht⟩ =>
      ⟨hr, hv, hl, ht.imp_right fun ⟨h, hn, _⟩ => ⟨h, hn, .inr trivial⟩⟩) fun _ _ => id
  have hgoals := (reportStep_zonal (s.updStep StepCtl.promoted) event).trans (formGoals_zonal _
    ((s.updStep StepCtl.promoted).reportStep event).stepGoals)
  generalize ht : ((s.updStep StepCtl.promoted).reportStep event).formGoals
    ((s.updStep StepCtl.promoted).reportStep event).stepGoals = t at hgoals
  have htargets := formTargets_zonal t t.stepTargets
  have hzonal := hgoals.trans htargets
  have hp : s.promote event = (t.formTargets t.stepTargets).enginePromoted s.step.cur.source := by rw [← ht]; rfl
  rw [hp]
  exact (State.Keeps.trans (t := t.formTargets t.stepTargets)
    ⟨hzonal.keeps (c := c) |>.engine, fun hs => formTargets_earned (hgoals.earned (hstart hs)), hzonal.keeps.worth⟩
    (enginePromoted_keeps ..))

/-- What follows the trips at the entry to HALTED (R167). -/
theorem haltedEnd_keeps (s : State) : s.Keeps c ((s.forceDuties.stopEngineAtOnce).updStep StepCtl.unsettle) :=
  ((forceDuties_zonal s).keeps.trans (stopEngineAtOnce_keeps _)).trans (updStep_keeps _ StepCtl.unsettle fun _ => id)

theorem enterHalted_keeps (s : State) : s.Keeps c s.enterHalted := by
  have hstep : s.Keeps c ((s.updStep fun c => { c with state := .halted }).reportStep .halted) :=
    (updStep_keeps s _ fun _ => id).trans (reportStep_zonal ..).keeps
  have htrips := forEach_zonal allZones (fun z t => trip_zonal t z .halt)
    ((s.updStep fun c => { c with state := .halted }).reportStep .halted)
  unfold State.enterHalted
  dsimp only
  split
  · exact .refl s
  · generalize (s.updStep fun c => { c with state := .halted }).reportStep .halted = t at hstep htrips ⊢
    generalize forEach allZones (fun z t => t.trip z .halt) t = u at htrips ⊢
    exact (hstep.trans htrips.keeps).trans (haltedEnd_keeps u)

theorem readLine_keeps (s : State) : s.Keeps c s.readLine := ite_keeps (enterHalted_keeps s)

theorem updHalt_keeps (s : State) (f : Halt → Halt) : s.Keeps c (s.updHalt f) := keeps_of_eq rfl rfl rfl rfl fun _ => id

theorem lineAsserted_keeps (s : State) (b : Bool) : s.Keeps c (s.lineAsserted b) :=
  (updHalt_keeps s _).trans (ite_keeps (enterHalted_keeps _))

theorem normalEnd_keeps (s : State) : s.Keeps c s.normalEnd := by
  unfold State.normalEnd
  split
  · exact promote_keeps ..
  · exact (updStep_keeps s _ fun _ => id).trans (reportStep_zonal ..).keeps

theorem stepTick_keeps (s : State) : s.Keeps c s.stepTick := by
  unfold State.stepTick
  exact ite_keeps ((updStep_keeps s _ fun _ => id).trans (ite_keeps (normalEnd_keeps _)))

theorem settleStage_keeps (s : State) : s.Keeps c s.settleStage.state := by
  unfold State.settleStage
  dsimp only
  have h : s.Keeps c (s.updStep fun c => { c with stagedState := .settled }) := updStep_keeps s _ fun _ => id
  (repeat' split)
  · exact .refl s
  · exact h.trans (promote_keeps ..)
  · exact h

theorem unsettleStage_keeps (s : State) : s.Keeps c s.unsettleStage.state := by
  unfold State.unsettleStage
  split
  · exact updStep_keeps s _ fun _ => id
  · exact .refl s

theorem startStep_keeps (s : State) : s.Keeps c s.startStep.state := by
  unfold State.startStep
  (repeat' split)
  all_goals first | exact .refl s | exact promote_keeps ..

theorem enterStopping_keeps (s : State) : s.Keeps c s.enterStopping :=
  (((((updStep_keeps s _ fun _ _ => Table.get_fill ..).trans (reportStep_zonal ..).keeps).trans (formGoals_zonal ..).keeps).trans
    (formTargets_zonal ..).keeps).trans ((stopEngineAtOnce_keeps _).trans (updStep_keeps _ _ fun _ => id))).trans
      (testStopping_zonal _).keeps

theorem stopStep_keeps (s : State) : s.Keeps c s.stopStep.state := by
  unfold State.stopStep
  split
  · exact .refl s
  · exact .refl s
  · exact .refl s
  all_goals exact enterStopping_keeps s

theorem dropSources_zonal (s : State) : s.Zonal s.dropSources :=
  (setZones_zonal s _ fun z _ h => by split <;> exact h).trans (evaluateOutput_zonal _)

theorem recauseHalt_zonal (s : State) (z : ZoneId) : s.Zonal (s.recauseHalt z) :=
  (updRail_zonal s z _ rfl).trans (reportZone_zonal ..)

theorem leaveHalted_keeps (s : State) : s.Keeps c s.leaveHalted :=
  (updStep_keeps s _ fun _ _ => Table.get_fill ..).trans
    ((((formGoals_zonal ..).trans (formTargets_zonal ..)).trans
      (forEach_zonal _ (fun z t => clearTrip_zonal t z) _)).trans (reportStep_zonal ..)).keeps

theorem clearStep_keeps (s : State) : s.Keeps c s.clearStep.state := by
  have hdrop := dropSources_zonal s
  have hrecause : ∀ (zs : List ZoneId) (t : State), t.Zonal (forEach zs (fun z t => t.recauseHalt z) t) := fun zs =>
    forEach_zonal zs fun z t => recauseHalt_zonal t z
  unfold State.clearStep
  dsimp only
  generalize s.dropSources = t at hdrop ⊢
  (repeat' split)
  · exact .refl s
  · exact (hdrop.trans (hrecause ..)).keeps
  · rw [accept_state]
    exact hdrop.keeps.trans (leaveHalted_keeps t)

/-! ### Samples (04_monitor_samples.md) -/

theorem measure_keeps (s : State) (z : ZoneId) (ma : Nat) : s.Keeps c (s.measure z ma) := by
  unfold State.measure
  dsimp only
  split
  · rename_i i _ _ _
    have h : s.Keeps c ((s.finding i .short).reportZone z (.searchCulprit i)) :=
      (finding_sparing ..).keeps.trans (reportZone_zonal ..).keeps
    (repeat' split)
    · exact h.trans (clearSearch_zonal ..).keeps
    · exact h.trans ((updSearch_zonal ..).trans (searchOn_zonal ..)).keeps
    · exact (searchOn_zonal ..).keeps
  · exact .refl s

theorem currentSample_keeps (s : State) (z : ZoneId) (ma : Nat) : s.Keeps c (s.currentSample z ma) := by
  unfold State.currentSample
  dsimp only
  (repeat' split)
  · exact (trip_zonal ..).keeps
  · exact (startSearch_zonal ..).keeps
  · exact measure_keeps ..
  all_goals exact .refl s

theorem handOver_keeps (s : State) (z : ZoneId) (q : Quantity) (x : Int) : s.Keeps c (s.handOver z q x) := by
  cases q with
  | voltage => exact (voltageSample_zonal ..).keeps
  | current => exact currentSample_keeps ..
  | temperature => exact (temperatureSample_zonal ..).keeps

theorem store_voltage (v : Values) (q : Quantity) (x : Int) (h : v.voltage.isSome = true) :
    (v.store q x).voltage.isSome = true := by
  cases q <;> simp [Values.store, h]

theorem sampleTaken_keeps (s : State) (word : BitVec 17) : s.Keeps c (s.sampleTaken word) := by
  have hraw : ∀ t : Table 16 Channel, s.Keeps c { s with channels := t } := fun _ => keeps_of_eq rfl rfl rfl rfl fun _ => id
  unfold State.sampleTaken State.acceptSample
  dsimp only
  (repeat' split)
  · exact hraw _
  · exact ((hraw _).trans (updValues_zonal _ _ _ (store_voltage _ _ _)).keeps).trans (handOver_keeps ..)
  · exact keeps_of_eq rfl rfl rfl rfl fun _ => id

/-! ### Stale timers (R66) -/

/-- `w` differs from `s` in what zone `z` holds, and in records: leaving HOLD answers for it, whatever it is. -/
theorem enterRail_earned {s w : State} {z : ZoneId} {x : ZoneId → Prop} {new : RailState} (hs : s.EarnedBut x)
    (hk : w.sockets = s.sockets) (hz : ∀ v, v ≠ z → w.zone v = s.zone v)
    (hrest : w.step = s.step ∧ w.engine = s.engine ∧ w.driveInEffect = s.driveInEffect)
    (hold : (w.zone z).rail.state = .hold) (hnew : new ≠ .hold) : (w.enterRail z new).EarnedBut x := by
  obtain ⟨hstep, hengine, hdrive⟩ := hrest
  have hsocket : ∀ i, w.socket i = s.socket i := fun i => congrArg (fun k => k.get i) hk
  have hnotice : ∀ f : Zone → Zone, ((w.updZone z f).noticeZone .rail z).EarnedBut x := fun f =>
    notice_earned hs .rail (· == z) (fun i => by rw [State.updZone_socket, hsocket]; exact .refl _)
      (fun v hv h => by
        have hne : v ≠ z := by simpa using hv
        rwa [State.updZone_zone, if_neg hne.symm, hz v hne, State.updZone_step, hstep])
      (fun v _ he => by
        simpa [State.exercised, State.hasActiveLane, hengine, hdrive] using he)
  unfold State.enterRail
  dsimp only
  split
  · split
    · exact (evaluateZoneSwitches_zonal ..).earned (hnotice _)
    · exact absurd (And.intro hold hnew) ‹_›
  · split
    · exact hnotice _
    · exact absurd (And.intro hold hnew) ‹_›

/-- A trip takes a rail out of HOLD, whatever has become of its zone's values. -/
theorem trip_earned {s w : State} {z : ZoneId} {x : ZoneId → Prop} (hs : s.EarnedBut x) (hk : w.sockets = s.sockets)
    (hz : ∀ v, v ≠ z → w.zone v = s.zone v)
    (hrest : w.step = s.step ∧ w.engine = s.engine ∧ w.driveInEffect = s.driveInEffect)
    (hold : (w.zone z).rail.state = .hold) (cause : TripCause) : (w.trip z cause).EarnedBut x := by
  have hentry : ∀ u : State, u = w ∨ u = w.endSearchAbandoned z → ∀ f : Rail → Rail, (∀ r, (f r).state = r.state) →
      ((u.updRail z f).enterRail z .tripped).EarnedBut x := by
    rintro u (rfl | rfl) f hf
    · refine enterRail_earned hs hk (fun v hv => ?_) hrest ?_ nofun
      · rw [State.updRail, State.updZone_zone, if_neg hv.symm, hz v hv]
      · rw [State.updRail, State.updZone_zone_same]; exact (hf _).trans hold
    · have hr := report_state w (.zone z .searchAbandoned w.runSeconds (w.zone z).values.voltage (w.zone z).values.current
        (w.zone z).values.temperature)
      refine enterRail_earned hs ?_ (fun v hv => ?_) ?_ ?_ nofun
      · simp only [State.endSearchAbandoned, State.reportZone]; rw [hr]; exact hk
      · simp [State.endSearchAbandoned, State.reportZone, State.updRail, State.updSearch, State.updZone_zone, hv.symm, hz v hv]
      · simp only [State.endSearchAbandoned, State.reportZone]; rw [hr]; exact hrest
      · simp [State.endSearchAbandoned, State.reportZone, State.updRail, State.updSearch, hf, hold]
  unfold State.trip
  dsimp only
  rw [if_neg (by simp [hold])]
  refine ((testStopping_zonal _).trans (retestAllDown_zonal _)).earned ((ite_zonal ((updRail_zonal _ z _ rfl).trans
    (evaluateOutput_zonal _))).earned ((reportZone_zonal ..).earned (hentry _ ?_ _ fun _ => rfl)))
  split
  · exact .inl rfl
  · exact .inr rfl

/-- A voltage that goes stale trips the rail, and so disturbs a zone in HOLD (R66, R82). -/
theorem staleVoltage_keeps (s : State) (z : ZoneId) (f : Values → Values) :
    s.Keeps c ((s.updValues z f).railStale z) := by
  have hstale := railStale_zonal (s.updValues z f) z
  refine ⟨fun h => ?_, fun hs => ?_, fun i => .inl ?_⟩
  · rwa [State.EngineConsistent, hstale.engine]
  · by_cases hold : (s.zone z).rail.state = .hold
    · have htrip : (s.updValues z f).railStale z = (s.updValues z f).trip z .sampleLoss := by
        simp [State.railStale, State.updValues, hold, RailState.powered]
      rw [htrip]
      refine trip_earned (w := s.updValues z f) hs rfl (fun v hv => ?_) ⟨rfl, rfl, rfl⟩ ?_ _
      · rw [State.updValues, State.updZone_zone, if_neg hv.symm]
      · rwa [State.updValues, State.updZone_zone_same]
    · exact ((updZone_zonal_of_barren s z _ (barren_of_rail hold)).trans hstale).earned hs
  · rw [hstale.socket i]; rfl

theorem staleExpired_keeps (s : State) (z : ZoneId) (q : Quantity) : s.Keeps c (s.staleExpired z q) := by
  unfold State.staleExpired
  dsimp only
  split
  · cases q with
    | voltage => exact staleVoltage_keeps ..
    | current => exact staleVoltage_keeps ..
    | temperature => exact ((updValues_zonal s z _ id).trans (heatStale_zonal ..)).keeps
  · exact .refl s

end Sys2Proof.Machine
end

section
namespace Sys2Proof.Machine

variable {c : Bool}

/-! ### Accounting: transfers, socket commands, RUN_RESET and power-on -/

theorem transfer_keeps (s : State) : s.Keeps c s.transfer := by
  have hn : s.Keeps c { s with transferNumber := satSucc Config.longTop s.transferNumber } :=
    keeps_of_eq rfl rfl rfl rfl fun _ => id
  have hloop := forEach_sparing allSockets (fun i t => transferSocket_sparing t i)
    { s with transferNumber := satSucc Config.longTop s.transferNumber }
  unfold State.transfer
  dsimp only
  generalize forEach allSockets (fun i t => t.transferSocket i)
    { s with transferNumber := satSucc Config.longTop s.transferNumber } = t at hloop ⊢
  split
  · exact hn.trans hloop.keeps
  · exact hn.trans (hloop.trans (report_sparing ..)).keeps

theorem takeSnapshot_keeps (s : State) : s.Keeps c s.takeSnapshot.state := by
  unfold State.takeSnapshot
  split
  · exact .refl s
  · exact transfer_keeps s

/-- A move of one socket that may clear its credit. -/
theorem State.Local.keeps {s t : State} {i : SocketId} (h : s.Local i t) (hf : (s.socket i).Follows (t.socket i))
    (hw : (t.socket i).worth = (s.socket i).worth ∨ (c = true ∧ (t.socket i).worth = (0, 0))) : s.Keeps c t := by
  have hcases : ∀ j, j = i ∨ t.socket j = s.socket j := fun j => or_iff_not_imp_left.mpr (h.sockets j)
  refine h.checked.keeps (fun j => ?_) fun j => ?_
  · rcases hcases j with rfl | e
    · exact hf
    · rw [e]; exact .refl _
  · rcases hcases j with rfl | e
    · exact hw
    · exact .inl (congrArg Socket.worth e)

/-- SOCKET_ARM clears credit with CLEAR alone (R7, R34). -/
theorem armSocket_keeps (clear : Bool) (i : SocketId) (s : State) : s.Keeps clear (s.armSocket clear i) := by
  have hreset : s.Keeps clear (s.armReset clear i) := by
    refine (armReset_quiet s clear i).toLocal.keeps ?_ ?_ <;> rw [armReset_socket]
    · exact fun h => nomatch h
    · cases clear
      · exact .inl rfl
      · exact .inr ⟨rfl, rfl⟩
  rw [armSocket_eq]
  (repeat' split)
  · exact .refl s
  · exact hreset.trans (complete_sparing ..).keeps
  · exact hreset.trans (changeState_sparing ..).keeps

theorem socketCommand_keeps (set : BitVec 32) (refuses : SocketState → Bool) {act : SocketId → State → State}
    (h : ∀ i (s : State), s.Keeps c (act i s)) (s : State) : s.Keeps c (State.socketCommand set refuses act s).state := by
  have hall := forEach_keepsAll (xs := namedSockets set) h s
  unfold State.socketCommand
  split
  · exact .refl s
  · rw [accept_state]; exact hall

theorem armSockets_keeps (set : BitVec 32) (options : Byte) (s : State) :
    s.Keeps (options.getLsbD 0) (State.armSockets set options s).state :=
  socketCommand_keeps set _ (armSocket_keeps _) s

theorem releaseSockets_keeps (set : BitVec 32) (s : State) : s.Keeps c (State.releaseSockets set s).state :=
  socketCommand_keeps set _ (fun i s => (releaseSocket_sparing s i).keeps) s

theorem holdSockets_keeps (set : BitVec 32) (s : State) : s.Keeps c (State.holdSockets set s).state :=
  socketCommand_keeps set _ (fun i s => (placeHold_sparing s i .forced).keeps) s

theorem restoreSockets_keeps (set : BitVec 32) (s : State) : s.Keeps c (State.restoreSockets set s).state :=
  socketCommand_keeps set _ (fun i s => (restoreSocket_sparing s i).keeps) s

theorem failSockets_keeps (set : BitVec 32) (s : State) : s.Keeps c (State.failSockets set s).state :=
  socketCommand_keeps set _ (fun i s => (finding_sparing s i .forced).keeps) s

/-- RUN_RESET clears every flag and keeps credit (R19, R36). -/
theorem resetRun_keeps (s : State) : s.Keeps c s.resetRun.state := by
  have hreset : s.Keeps c (((s.resetRails.resetHeat.resetEngine).resetLanes fun _ => true).resetAccounting) := by
    refine ⟨fun h => ?_, fun _ => earnedBut_of_none (fun i => ?_) _, fun i => .inl ?_⟩
    · have he : ((s.resetRails.resetHeat.resetEngine.resetLanes fun _ => true).resetAccounting).engine =
          s.resetRails.resetHeat.resetEngine.engine := by
        refine (forEachFreely_keeps (P := fun t => t.engine = s.resetRails.resetHeat.resetEngine.engine)
          (fun _ _ h => h) (fun part _ t ht => ?_) rfl)
        cases part with
        | clear => exact ht
        | verdicts => exact ((verdictsRun_loops t).checked.engine).trans ht
      rw [engineConsistent_iff, he]
      exact (resetEngine_keeps (c := c) s.resetRails.resetHeat).engine h
    · rw [resetAccounting_socket]; rfl
    · rw [resetAccounting_socket, resetLanes_socket]
      have hm := (resetEngine_marks s.resetRails.resetHeat).trans ((setZones_marks s.resetRails _).trans (resetRails_marks s))
      exact worth_of_marks (k' := s.resetRails.resetHeat.resetEngine.socket i) (State.marks_socket hm i)
  exact (hreset.trans (((updStep_keeps _ (fun _ => {}) fun _ _ => Table.get_fill ..).trans (evaluateOutput_zonal _).keeps).trans
    (reportStep_zonal _ .runReset).keeps)).trans (readLine_keeps _)

/-- Power-on reset: no socket qualified, no credit, and the engine STOPPED (R18, R36, R138). -/
theorem powerOn_keeps (s : State) (addr : BitVec 6) (o d u : Bool) : s.Keeps true (s.powerOn addr o d u) := by
  have hk : ∀ i, (s.powerOn addr o d u).socket i = {} := fun i => Table.get_fill ..
  exact ⟨fun _ => consistent_of_idle (.inl rfl) ⟨Nat.le_refl 1, by change (1 : Nat) ≤ 256; omega⟩, fun _ => earnedBut_of_none (fun i => by rw [hk]) _,
    fun i => .inr ⟨rfl, by rw [hk]; rfl⟩⟩

/-! ### Tables (R182, R183) -/

/-- What no write to a row moves, a write of rows does not move. -/
theorem writeRows_stands {n : Nat} {α β : Type} {f : RowWrite → α → α} (g : α → β) (h : ∀ w a, g (f w a) = g a)
    (rows : List (Fin n × RowWrite)) (t : Table n α) (i : Fin n) : g ((writeRows rows f t).get i) = g (t.get i) := by
  induction rows generalizing t with
  | nil => rfl
  | cons x xs ih =>
    refine (ih _).trans ?_
    rw [Table.get_upd]
    split
    · subst_vars; exact h ..
    · rfl

theorem writeSettings_keeps (s : State) (w : RowWrite) : s.Keeps c (s.writeSettings w).state := by
  have hw : ∀ t, s.Keeps c { s with settings := t } := fun _ => keeps_of_eq rfl rfl rfl rfl fun _ => id
  refine (hw (w.apply Settings.put s.settings)).trans (forEachFreely_keepsAll (fun task t => ?_) _)
  cases task with
  | output => exact (evaluateOutput_zonal t).keeps
  | input => exact readLine_keeps t

theorem writeZones_keeps (s : State) (rows : List (ZoneId × RowWrite)) : s.Keeps c (s.writeZones rows).state := by
  have hw : s.Zonal { s with zones := writeRows rows (fun w v => { v with cfg := w.apply ZoneCfg.put v.cfg }) s.zones } := by
    refine ⟨rfl, fun _ => rfl, fun _ => rfl, ⟨[], rfl⟩, fun hs =>
      State.EarnedBut.move (t := { s with zones := _ }) hs (fun _ => .refl _) (fun i _ h => ?_) fun _ _ => id⟩
    have hz := writeRows_stands (f := fun w v => { v with cfg := w.apply ZoneCfg.put v.cfg })
      (fun v : Zone => (v.rail, v.heat, v.values, v.latches)) (fun _ _ => rfl) rows s.zones (s.socket i).zone
    simp only [Prod.mk.injEq] at hz
    obtain ⟨hr, hh, hv, hl⟩ := hz
    simp only [Zone.Earns, State.zone, hr, hh, hv, hl] at h ⊢
    exact h
  unfold State.writeZones
  dsimp only
  generalize ({ s with zones := writeRows rows (fun w v => { v with cfg := w.apply ZoneCfg.put v.cfg }) s.zones } : State) = t
    at hw ⊢
  (repeat' split)
  · exact .refl s
  · exact .refl s
  · rw [accept_state]
    refine ((hw.trans (setGoals_zonal ..)).trans (forEachFreely_zonal _ (fun task u => ?_) _)).keeps
    cases task with
    | goal z => exact goalChange_zonal u z
    | target z new => exact targetChange_zonal u z new

theorem writePolicies_keeps (s : State) (rows : List (Fin 4 × RowWrite)) : s.Keeps c (s.writePolicies rows).state := by
  unfold State.writePolicies
  split
  · exact .refl s
  · exact keeps_of_eq rfl rfl rfl rfl fun _ => id

theorem writeSense_keeps (s : State) (rows : List (LaneId × RowWrite)) : s.Keeps c (s.writeSense rows).state := by
  have hrows : ∀ t, s.Sparing { s with lanes := t } := fun _ => ⟨rfl, fun _ => .refl _⟩
  have hw : s.Sparing (s.senseWritten rows) := (hrows _).trans (resetLanes_sparing _ (senseReset rows))
  rw [writeSense_eq]
  split
  · exact .refl s
  · rw [accept_state]
    exact (hw.trans (forEachFreely_sparing _ (fun i t => reviewReasons_sparing t i) _)).keeps

theorem writeOrder_keeps (s : State) (zs : List ZoneId) : s.Keeps c (s.writeOrder zs) := by
  have hw : s.Keeps c { s with order := zs } := keeps_of_eq rfl rfl rfl rfl fun _ => id
  unfold State.writeOrder
  refine hw.trans ((forEachFreely_zonal _ (fun z t => ?_) _).trans (retestAllDown_zonal _)).keeps
  split
  · exact beginPowerDown_zonal ..
  · exact retestUp_zonal ..

theorem applyPopulated_sparing (s : State) (i : SocketId) : s.Sparing (s.applyPopulated i) := by
  unfold State.applyPopulated
  dsimp only
  (repeat' split)
  · exact changeState_sparing ..
  · exact .refl s
  · exact .refl s
  · exact changeState_sparing ..

theorem ite_sparing {p : Prop} [Decidable p] {s t : State} (h : s.Sparing t) : s.Sparing (if p then t else s) := by
  split
  · exact h
  · exact .refl s

theorem socketWritten_sparing (row : SocketId × RowWrite) (s : State) : s.Sparing (State.socketWritten row s) :=
  ((ite_sparing (applyPopulated_sparing ..)).trans (ite_sparing (evaluateSwitch_sparing ..))).trans
    (ite_sparing (testCompletion_sparing ..))

theorem socketPut_zone {w : RowWrite} (h : w.selects 1 = false) (k : Socket) : (w.apply Socket.put k).zone = k.zone :=
  apply_keeps (P := fun r : Socket => r.zone = k.zone)
    (fun nv hnv r hr => by have := not_selects h nv hnv; unfold Socket.put; split <;> simp_all) rfl

/-- A qualified socket is switched on, and so its zone is not written (R3). -/
theorem rowsWritten_keeps {rows : List (SocketId × RowWrite)} (hd : (rows.map Prod.fst).Nodup) {s : State}
    (hb : (rows.any fun row => s.socketBusy row.1 row.2) = false) : s.Keeps c (s.rowsWritten rows) := by
  have hrow : ∀ i, (s.rowsWritten rows).socket i = s.socket i ∨
      ∃ w, (i, w) ∈ rows ∧ (s.rowsWritten rows).socket i = w.apply Socket.put (s.socket i) := fun i => by
    obtain ⟨hout, hin⟩ := rowsWritten_socket hd s
    by_cases hi : i ∈ rows.map Prod.fst
    · obtain ⟨row, hrow, rfl⟩ := List.mem_map.mp hi
      exact .inr ⟨row.2, hrow, hin row hrow⟩
    · exact .inl (hout i hi)
  refine ⟨id, fun hs => hs.move (fun i => ?_) (fun _ _ => id) fun _ _ => id, fun i => .inl ?_⟩
  · rcases hrow i with e | ⟨w, hw, e⟩ <;> rw [e]
    · exact .refl _
    · intro hq
      have hput := socketPut_cases w (s.socket i)
      have hq' : (s.socket i).qualified = true := by rw [hput] at hq; exact hq
      obtain ⟨-, hswitch, -, -⟩ := hs i hq'
      have hidle : w.selects 1 = false := by
        have hbusy := (List.any_eq_false.mp hb) (i, w) hw
        by_contra h
        simp [State.socketBusy, hswitch, Bool.not_eq_false _ ▸ h] at hbusy
      refine ⟨hq', socketPut_zone hidle _, fun ha => ?_, fun h => ?_⟩ <;> rw [hput] <;> assumption
  · rcases hrow i with e | ⟨w, -, e⟩ <;> rw [e]
    rw [socketPut_cases]; rfl

theorem writeSockets_keeps {rows : List (SocketId × RowWrite)} (hd : (rows.map Prod.fst).Nodup) (s : State) :
    s.Keeps c (s.writeSockets rows).state := by
  rw [writeSockets_eq]
  split
  · exact .refl s
  · rename_i hb
    rw [accept_state]
    exact (rowsWritten_keeps hd (Bool.not_eq_true _ ▸ hb)).trans
      (forEachFreely_sparing _ socketWritten_sparing _).keeps

theorem writeStaged_keeps (s : State) (w : RowWrite) : s.Keeps c (s.writeStaged w).state :=
  updStep_keeps s (fun c => { c with staged := w.apply s.putStaged c.staged, stagedState := .opened }) fun _ => id

theorem tableWrite_keeps (table first count : Byte) (mask : BitVec 64) (values : List Byte) (s : State) :
    s.Keeps c (State.tableWrite table first count mask values s).state := by
  unfold State.tableWrite
  split
  · exact .refl s
  · rename_i rows hc
    obtain ⟨hd, hlt⟩ := checkWrite_rows hc
    unfold State.writeTable
    split
    · exact writeSettings_keeps ..
    · rename_i ht
      exact writeSockets_keeps (rowsOf_nodup hd (by rw [ht] at hlt; exact hlt)) s
    · exact writeZones_keeps ..
    · exact writePolicies_keeps ..
    · exact keeps_of_eq rfl rfl rfl rfl fun _ => id
    · exact keeps_of_eq rfl rfl rfl rfl fun _ => id
    · exact writeDrive_keeps ..
    · exact writeSense_keeps ..
    · exact keeps_of_eq rfl rfl rfl rfl fun _ => id
    · exact writeOrder_keeps ..
    · exact writeStaged_keeps ..

theorem tableRead_state (table first count : Byte) (mask : BitVec 64) (s : State) :
    (State.tableRead table first count mask s).state = s := by
  simp only [State.tableRead]
  (repeat' split) <;> rfl

theorem loopLoad_keeps (first count flags : Byte) (vectors : List Byte) (s : State) :
    s.Keeps c (State.loopLoad first count flags vectors s).state := by
  unfold State.loopLoad
  dsimp only
  split
  · exact .refl s
  · rename_i vs _
    (repeat' split)
    · exact .refl s
    · exact .refl s
    · exact .refl s
    · exact .refl s
    · rename_i hcount hidle hfit _
      rw [accept_state]
      have hlen : (vs.map (·.vec)).length = vs.length := List.length_map ..
      exact loadLoop_keeps s _ _ _ hidle (by omega) (by omega)

theorem clearZones_keeps (set : Byte) (s : State) : s.Keeps c (State.clearZones set s).state := by
  have hclear := forEach_zonal (namedZones set) (fun z t => clearTrip_zonal t z) s
  unfold State.clearZones
  (repeat' split)
  · exact .refl s
  · exact .refl s
  · exact .refl s
  · rw [accept_state]; exact hclear.keeps

end Sys2Proof.Machine
end

section
namespace Sys2Proof.Machine

variable {c : Bool}

/-! ### Delivery (R174, R179, R180) -/

theorem State.Keeps.clearing {s t : State} (h : s.Keeps c t) : s.Keeps true t :=
  ⟨h.engine, h.earned, fun i => (h.worth i).imp_right fun h => ⟨rfl, h.2⟩⟩

theorem bare_keeps {cmd : State → CmdOut} (h : ∀ s : State, s.Keeps c (cmd s).state) (args : List Byte) (s : State) :
    s.Keeps c (bare args cmd s).state := by
  unfold bare
  split
  · exact h s
  · exact .refl s

theorem withSockets_keeps {cmd : BitVec 32 → State → CmdOut} (h : ∀ set (s : State), s.Keeps c (cmd set s).state)
    (args : List Byte) (s : State) : s.Keeps c (withSockets args cmd s).state := by
  unfold withSockets
  split
  · exact h _ s
  · exact .refl s

/-- Every command by its code (R180): SOCKET_ARM may clear credit. -/
theorem command_keeps (code : Byte) (args : List Byte) (s : State) : s.Keeps true (State.command code args s).state := by
  unfold State.command
  split
  · unfold tableWriteArgs
    (repeat' split)
    · exact .refl s
    · exact tableWrite_keeps ..
    · exact .refl s
  · unfold tableReadArgs
    (repeat' split)
    · exact .refl s
    · rw [tableRead_state]; exact .refl s
    · exact .refl s
  · unfold loopLoadArgs
    split
    · exact loopLoad_keeps ..
    · exact .refl s
  · exact bare_keeps settleStage_keeps args s
  · exact bare_keeps unsettleStage_keeps args s
  · exact bare_keeps startStep_keeps args s
  · exact bare_keeps stopStep_keeps args s
  · exact bare_keeps enterHalted_keeps args s
  · exact bare_keeps clearStep_keeps args s
  · unfold clearZonesArgs
    split
    · exact clearZones_keeps ..
    · exact .refl s
  · unfold armSocketsArgs
    split
    · exact (armSockets_keeps ..).clearing
    · exact .refl s
  · exact withSockets_keeps releaseSockets_keeps args s
  · exact withSockets_keeps holdSockets_keeps args s
  · exact withSockets_keeps restoreSockets_keeps args s
  · exact withSockets_keeps failSockets_keeps args s
  · exact bare_keeps takeSnapshot_keeps args s
  · exact bare_keeps (fun s => .refl s) args s
  · exact bare_keeps resetRun_keeps args s
  · exact .refl s

theorem updLink_keeps (s : State) (f : Link → Link) : s.Keeps c (s.updLink f) := keeps_of_eq rfl rfl rfl rfl fun _ => id

theorem arbitrate_keeps (s : State) : s.Keeps c s.arbitrate := by
  rw [arbitrate_state]; exact keeps_of_eq rfl rfl rfl rfl fun _ => id

theorem answer_keeps {cmd : State → CmdOut} (h : ∀ s : State, s.Keeps c (cmd s).state) (src tag code : Byte) (s : State) :
    s.Keeps c (s.answer src tag code cmd) := by
  unfold State.answer
  dsimp only
  split
  · exact updLink_keeps ..
  · exact (h s).trans (updLink_keeps ..)

theorem deliver_keeps {cmd : State → CmdOut} (h : ∀ s : State, s.Keeps c (cmd s).state) (src tag code : Byte) (s : State) :
    s.Keeps c (s.deliver src tag code cmd) := ite_keeps ((answer_keeps h ..).trans (arbitrate_keeps _))

theorem deliverFrame_keeps (f : Frame) (s : State) : s.Keeps true (s.deliverFrame f) := by
  unfold State.deliverFrame State.deliverVector State.deliverMgmt
  (repeat' split)
  · exact takeBlock_keeps ..
  · exact updLink_keeps ..
  · exact .refl s
  · exact (freeIndex_zonal ..).keeps.trans (answer_keeps (fun s => .refl s) ..)
  · exact answer_keeps (command_keeps _ _) ..
  · exact .refl s
  · exact updLink_keeps ..

theorem forwardDown_keeps (s : State) (bytes : List Byte) : s.Keeps c (s.forwardDown bytes) := by
  unfold State.forwardDown
  (repeat' split)
  · exact .refl s
  · exact updLink_keeps ..
  · exact updLink_keeps ..

theorem upFrame_keeps (bytes : List Byte) (s : State) : s.Keeps true (s.upFrame bytes) := by
  unfold State.upFrame State.route
  (repeat' split)
  · exact (forwardDown_keeps ..).trans (deliverFrame_keeps ..)
  · exact deliverFrame_keeps ..
  · exact forwardDown_keeps ..
  · exact updLink_keeps ..

theorem downFrame_keeps (bytes : List Byte) (s : State) : s.Keeps c (s.downFrame bytes) := by
  unfold State.downFrame
  (repeat' split) <;> exact updLink_keeps ..

theorem downPartner_keeps (s : State) (present : Bool) : s.Keeps c (s.downPartner present) := by
  unfold State.downPartner
  split <;> exact updLink_keeps ..

theorem upReceiver_keeps (s : State) (present : Bool) : s.Keeps c (s.upReceiver present) := by
  unfold State.upReceiver
  split <;> exact updLink_keeps ..

/-! ### Every command but INTERVAL_EXPIRY, which alone qualifies sockets and accrues credit -/

theorem exec_keeps {i : Instr} {s t : State} (hi : i ≠ .intervalExpiry) (h : exec i s = .next t) :
    s.Keeps (mayClearCredit i) t := by
  have hn : ∀ {b : Bool} {u : State}, s.Keeps b u → Host.Outcome.next (ρ := Refusal) (φ := Fault) u = .next t → s.Keeps b t :=
    fun hu h => Host.Outcome.next.inj h ▸ hu
  have ha : ∀ {b : Bool} {u : State}, s.Keeps b u → Host.Outcome.next (ρ := Refusal) (φ := Fault) u.arbitrate = .next t →
      s.Keeps b t := fun hu h => hn (hu.trans (arbitrate_keeps _)) h
  have hd : ∀ {b : Bool} {src tag code : Byte} {cmd : State → CmdOut}, (∀ s : State, s.Keeps b (cmd s).state) →
      Host.Outcome.next (ρ := Refusal) (φ := Fault) (s.deliver src tag code cmd) = .next t → s.Keeps b t :=
    fun hc h => hn (deliver_keeps hc ..) h
  cases i with
  | powerOnReset addr othersPull downPartner upReceiver =>
    exact ha ((powerOn_keeps s addr othersPull downPartner upReceiver).trans (readLine_keeps _)) h
  | upFrameTaken bytes => exact ha (upFrame_keeps bytes s) h
  | downFrameTaken bytes => exact ha (downFrame_keeps bytes s) h
  | downTransmitEnd => exact hn (updLink_keeps s _) h
  | upTransmitEnd => exact ha (updLink_keeps s _) h
  | downPartnerChange present => exact hn (downPartner_keeps s present) h
  | upReceiverChange present => exact ha (upReceiver_keeps s present) h
  | tblWrite src tag table first count mask values => exact hd (tableWrite_keeps _ _ _ _ _) h
  | socketTableWrite src tag first count mask values => exact hd (tableWrite_keeps _ _ _ _ _) h
  | zoneTableWrite src tag first count mask values => exact hd (tableWrite_keeps _ _ _ _ _) h
  | orderWrite src tag first count mask values => exact hd (tableWrite_keeps _ _ _ _ _) h
  | stepStageWrite src tag first count mask values => exact hd (tableWrite_keeps _ _ _ _ _) h
  | senseModeWrite src tag first count mask values => exact hd (tableWrite_keeps _ _ _ _ _) h
  | settingsWrite src tag first count mask values => exact hd (tableWrite_keeps _ _ _ _ _) h
  | tblRead src tag table first count mask => exact hd (fun s => by rw [tableRead_state]; exact .refl s) h
  | loopLoad src tag first count flags vectors => exact hd (loopLoad_keeps _ _ _ _) h
  | stageSettle src tag => exact hd settleStage_keeps h
  | stageUnsettle src tag => exact hd unsettleStage_keeps h
  | stepStart src tag => exact hd startStep_keeps h
  | stepStop src tag => exact hd stopStep_keeps h
  | stepAbort src tag => exact hd enterHalted_keeps h
  | stepClear src tag => exact hd clearStep_keeps h
  | zoneClear src tag zones => exact hd (clearZones_keeps zones) h
  | socketArm src tag sockets options => exact hd (armSockets_keeps sockets options) h
  | socketRelease src tag sockets => exact hd (releaseSockets_keeps sockets) h
  | socketHold src tag sockets => exact hd (holdSockets_keeps sockets) h
  | socketRestore src tag sockets => exact hd (restoreSockets_keeps sockets) h
  | socketFail src tag sockets => exact hd (failSockets_keeps sockets) h
  | snapshot src tag => exact hd takeSnapshot_keeps h
  | statusRead src tag => exact hd (fun s => .refl s) h
  | runReset src tag => exact hd resetRun_keeps h
  | sampleWord word => exact ha (sampleTaken_keeps s word) h
  | staleTimerExpiry zone quantity => exact ha (staleExpired_keeps s zone quantity) h
  | intervalExpiry => exact absurd rfl hi
  | rampStepExpiry zone => exact ha (rampStep_zonal s zone).keeps h
  | confirmTimerExpiry zone => exact ha (confirmExpired_zonal s zone).keeps h
  | settleTimerExpiry zone => exact hn (settleExpired_zonal s zone).keeps h
  | soakTimerExpiry zone => exact ha (soakExpired_zonal s zone).keeps h
  | graceTimerExpiry zone => exact hn (graceExpired_zonal s zone).keeps h
  | vectorCycle sense => exact ha (vectorCycle_keeps s sense) h
  | vectorBoundary => exact ha (boundary_keeps s) h
  | prbsWindowEnd lane => exact ha (endPrbsWindow_sparing s lane).keeps h
  | toggleWindowEnd lane => exact ha (endToggleWindow_sparing s lane).keeps h
  | gateExpiry socket => exact ha (gateExpired_sparing s socket).keeps h
  | haltLineAsserted othersPull => exact ha (lineAsserted_keeps s othersPull) h
  | haltLineReleased => exact hn (updHalt_keeps s _) h
  | freqLaneRisingEdge socket => exact hn (risingEdge_sparing s socket).keeps h

end Sys2Proof.Machine
end

/-! ## The interval expiry (R20 to R26), and what every step keeps -/

section
namespace Sys2Proof.Machine

/-! ### The accrual pass -/

theorem accrue_sparing (s : State) : s.accrued.Sparing s.accrue :=
  forEachFreely_sparing _ (fun i t => testCompletion_sparing t i) _

theorem accrue_checked (s : State) : s.CheckedTo s.accrue := State.CheckedTo.trans (t := s.accrued) rfl (accrue_sparing s).checked

/-- Credit moves by the accrual pass alone (R25). -/
theorem accrue_worth (s : State) (i : SocketId) :
    (s.accrue.socket i).worth = if s.accrues i then ((s.socket i).accrue (s.stressProduct i)).worth else (s.socket i).worth := by
  rw [((accrue_sparing s).stands i).2, accrued_socket]
  split <;> rfl

/-! ### The close of the interval -/

theorem closeInterval_socket (s : State) (i : SocketId) :
    s.closeInterval.socket i = { s.socket i with qualified := s.meetsConditions i } := by
  simp [State.closeInterval]

theorem closeInterval_zone (s : State) (z : ZoneId) : s.closeInterval.zone z = { s.zone z with latches := {} } := by
  simp [State.closeInterval]

theorem closeInterval_meets (s : State) (i : SocketId) : s.closeInterval.meetsConditions i = s.meetsConditions i := by
  simp only [State.meetsConditions, closeInterval_socket, closeInterval_zone]
  rfl

/-- The close of the interval qualifies the sockets that meet the conditions, and no other (R26). -/
theorem closeInterval_earned {s : State} (hh : s.HeatConsistent) : s.closeInterval.Earned := by
  refine earned_of_hold (fun z => ?_) fun i hq => ?_
  · rw [closeInterval_zone]; exact hh z
  · rw [closeInterval_meets, closeInterval_zone]
    exact ⟨by rwa [closeInterval_socket] at hq, rfl⟩

/-! ### Accounting's work at an expiry -/

theorem transfer_zone (s : State) (z : ZoneId) : s.transfer.zone z = s.zone z := by
  obtain ⟨_, h⟩ := transfer_cases s
  rw [h]; exact (transferDone_loops s).checked.zone z

theorem transfer_engine (s : State) : s.transfer.engine = s.engine := by
  obtain ⟨_, h⟩ := transfer_cases s
  rw [h]; exact (transferDone_loops s).checked.engine

theorem heatConsistent_congr {s t : State} (h : ∀ z, t.zone z = s.zone z) (hs : s.HeatConsistent) : t.HeatConsistent :=
  fun z => by rw [h]; exact hs z

/-- The AUTO transfer takes its place before the accrual pass, between it and the close, or after the close (log 5). -/
theorem intervalWork_cases (s : State) :
    (s.settings.reportMode = .manual ∧ s.intervalWork = s.accrue.closeInterval) ∨
    (s.settings.reportMode = .auto ∧ ∃ t : State, t = { s with freeIndex := s.freeIndex + 1 } ∧
      (s.intervalWork = t.transfer.accrue.closeInterval ∨ s.intervalWork = t.accrue.transfer.closeInterval ∨
        s.intervalWork = t.accrue.closeInterval.transfer)) := by
  unfold State.intervalWork
  cases s.settings.reportMode
  · refine .inr ⟨rfl, _, rfl, ?_⟩
    dsimp only
    (repeat' split)
    · exact .inl rfl
    · exact .inr (.inl rfl)
    · exact .inr (.inr rfl)
  · exact .inl ⟨rfl, rfl⟩

theorem intervalWork_engine (s : State) : s.intervalWork.engine = s.engine := by
  have ha : ∀ t : State, t.accrue.engine = t.engine := fun t => (accrue_checked t).engine
  have hc : ∀ t : State, t.closeInterval.engine = t.engine := fun _ => rfl
  rcases intervalWork_cases s with ⟨-, h⟩ | ⟨-, t, rfl, h | h | h⟩ <;> rw [h] <;> simp only [ha, hc, transfer_engine]

theorem intervalWork_earned {s : State} (hh : s.HeatConsistent) : s.intervalWork.Earned := by
  have ha : ∀ {t : State}, t.HeatConsistent → t.accrue.HeatConsistent := fun h =>
    heatConsistent_congr (accrue_checked _).zone h
  have ht : ∀ {t : State}, t.HeatConsistent → t.transfer.HeatConsistent := fun h => heatConsistent_congr (transfer_zone _) h
  have hn : ({ s with freeIndex := s.freeIndex + 1 } : State).HeatConsistent := hh
  rcases intervalWork_cases s with ⟨-, h⟩ | ⟨-, t, rfl, h | h | h⟩ <;> rw [h]
  · exact closeInterval_earned (ha hh)
  · exact closeInterval_earned (ha (ht hn))
  · exact closeInterval_earned (ht (ha hn))
  · exact (transfer_keeps (c := false) _).earned (closeInterval_earned (ha hn))

/-- Settles O13: every command keeps the engine consistent and qualification earned, and INTERVAL_EXPIRY qualifies only the sockets that
meet the conditions. -/
theorem stepKeepsQualificationEarned : Obligations.StepKeepsQualificationEarned := by
  have hexec : ∀ (i : Instr) (s t : State), exec i s = .next t →
      (s.EngineConsistent → t.EngineConsistent) ∧ (s.HeatConsistent → s.Earned → t.Earned) := fun i s t h => by
    by_cases hi : i = .intervalExpiry
    · subst hi
      obtain rfl := Host.Outcome.next.inj h
      have htick := (stepTick_keeps (c := false) ({ s with
        runSeconds := satSucc Config.longTop s.runSeconds } : State).intervalWork).trans (arbitrate_keeps _)
      refine ⟨fun hs => htick.engine ?_, fun hh _ => htick.earned (intervalWork_earned hh)⟩
      rw [engineConsistent_iff, intervalWork_engine]
      exact hs
    · have hk := exec_keeps hi h
      exact ⟨hk.engine, fun _ => hk.earned⟩
  intro s t hs h
  unfold step at h
  split at h
  · obtain rfl := Host.Outcome.next.inj h
    exact ⟨hs, fun _ _ hq => hq⟩
  · rename_i i rest _
    obtain ⟨he, hq⟩ := hexec i { s with pending := rest } t h
    exact ⟨he hs, fun _ hh hold => hold_of_earned (hq hh (earned_of_hold hh hold))⟩

end Sys2Proof.Machine
end

/-! ## Credit at the interval expiry (R25, R33 to R35, R40 to R44) -/

section
namespace Sys2Proof.Machine

/-! ### What the accrual pass and a transfer make of a socket -/

/-- Does the M-of-N test fail the socket's history with the score of a transfer taken now (R43)? -/
def State.failsNow (s : State) (i : SocketId) : Bool := (s.policyOf i).failsHistory (s.socket i).transferred.history

/-- What a transfer under policy `p` makes of socket `k` (R40 to R44). -/
structure Socket.TransferredTo (k : Socket) (p : Policy) (v : Socket) : Prop where
  unarmed : k.state.armed = false → v = { k with running := 0 }
  failed : k.state.armed = true → p.failsHistory k.transferred.history = true →
    v = { k.transferred with
      state := .failed, cause := some .score, qualified := false
      hold := v.hold, switch := v.switch, estimate := v.estimate }
  passed : k.state.armed = true → p.failsHistory k.transferred.history = false →
    v = { k.transferred with state := v.state, reasons := v.reasons, clean := v.clean } ∧ v.state.armed = true

/-- What an accrual pass makes of socket `k`: one that `earns` gains a product, and completes when its target is met (R33, R35). -/
structure Socket.AccruedTo (k : Socket) (earns : Bool) (product : Nat) (v : Socket) : Prop where
  idle : earns = false → v = k
  gains : earns = true → (k.accrue product).targetMet = false → v = k.accrue product
  completes : earns = true → (k.accrue product).targetMet = true →
    v = { k.accrue product with
      state := .complete, hold := v.hold, switch := v.switch, qualified := v.qualified, estimate := v.estimate }

theorem transfer_socket (s : State) (i : SocketId) : (s.socket i).TransferredTo (s.policyOf i) (s.transfer.socket i) := by
  obtain ⟨_, h⟩ := transfer_cases s
  have e : s.transfer.socket i = s.transferDone.socket i := by rw [h]; rfl
  refine ⟨fun ha => ?_, fun ha hf => ?_, fun ha hf => ?_⟩ <;> rw [e]
  · exact transferDone_unarmed ha
  · have hd := transferDone_failed ha hf
    generalize s.transferDone.socket i = v at hd ⊢
    rw [hd]
  · obtain ⟨state, hstate, hd⟩ := scored_cases (k := (s.socket i).transferred) ha (s.policyOf i)
    rw [transferDone_scored ha hf, hd]
    exact ⟨rfl, hstate⟩

theorem accrue_socket (s : State) (i : SocketId) :
    (s.socket i).AccruedTo (s.accrues i) (s.stressProduct i) (s.accrue.socket i) := by
  refine ⟨fun ha => ?_, fun ha hm => ?_, fun ha hm => ?_⟩
  · have hi : i ∉ s.completing := fun h => Bool.false_ne_true (ha.symm.trans (mem_completing.mp h).1)
    rw [((accrue_loops s).other hi).socket, accrued_socket, ha, if_neg Bool.false_ne_true]
  · have hi : i ∉ s.completing := fun h => by
      have := (mem_completing.mp h).2
      rw [accrued_socket, if_pos ha, hm] at this
      exact Bool.false_ne_true this
    rw [((accrue_loops s).other hi).socket, accrued_socket, if_pos ha]
  · obtain ⟨t, ht, hu⟩ := (accrue_loops s).socket (mem_completing.mpr ⟨ha, by rwa [accrued_socket, if_pos ha]⟩)
    have hk : t.socket i = (s.socket i).accrue (s.stressProduct i) := ht.socket.trans (by rw [accrued_socket, if_pos ha])
    have harmed : ((s.socket i).accrue (s.stressProduct i)).state.armed = true := by rw [accrue_state]; exact accrues_armed ha
    have hv : s.accrue.socket i = (t.complete i).socket i := by
      rw [hu.socket, testCompletion_socket, hk, harmed, hm]; rfl
    have hc := placeHold?_cases t i (if (t.policyOf i).stopOnComplete then some .done else none)
    rw [hv, complete_socket]
    generalize (t.placeHold? i (if (t.policyOf i).stopOnComplete then some .done else none)).socket i = v at hc ⊢
    rw [hk] at hc
    rw [hc]; rfl

/-! ### The conditions of accrual over a transfer -/

/-- The conditions look at three fields of the socket, and at zones, step and engine (R25). -/
theorem meetsConditions_congr {s t : State} {i : SocketId} (hg : ∀ z, t.zone z = s.zone z) (hs : t.step = s.step)
    (he : t.engine = s.engine) (hd : t.driveInEffect = s.driveInEffect)
    (ha : (t.socket i).state.armed = (s.socket i).state.armed) (hw : (t.socket i).switch = (s.socket i).switch)
    (hz : (t.socket i).zone = (s.socket i).zone) : t.meetsConditions i = s.meetsConditions i := by
  simp only [State.meetsConditions, State.exercised, State.hasActiveLane, hg, hs, he, hd, ha, hw, hz]

theorem meetsConditions_unarmed {s : State} {i : SocketId} (h : (s.socket i).state.armed = false) : s.meetsConditions i = false := by
  simp [State.meetsConditions, h]

theorem transfer_step (s : State) : s.transfer.step = s.step := by
  obtain ⟨_, h⟩ := transfer_cases s
  rw [h]; exact (transferDone_loops s).checked.step

theorem transfer_drive (s : State) : s.transfer.driveInEffect = s.driveInEffect := by
  obtain ⟨_, h⟩ := transfer_cases s
  have hf : s.transferDone.driveInEffect = s.driveInEffect := by rw [(transferDone_loops s).checked]; rfl
  rw [h]; exact hf

theorem transfer_meets {s : State} {i : SocketId} (h : (s.transfer.socket i).state.armed = true) :
    s.transfer.meetsConditions i = s.meetsConditions i ∧ (s.transfer.socket i).qualified = (s.socket i).qualified ∧
      s.transfer.socketTemperature i = s.socketTemperature i ∧ s.failsNow i = false := by
  have ht := transfer_socket s i
  cases ha : (s.socket i).state.armed with
  | false => rw [ht.unarmed ha] at h; exact absurd (ha.symm.trans h) Bool.false_ne_true
  | true =>
    cases hf : s.failsNow i with
    | true => rw [ht.failed ha hf] at h; exact nomatch h
    | false =>
      obtain ⟨e, -⟩ := ht.passed ha hf
      have harmed : (s.transfer.socket i).state.armed = (s.socket i).state.armed := h.trans ha.symm
      refine ⟨meetsConditions_congr (transfer_zone s) (transfer_step s) (transfer_engine s) (transfer_drive s) harmed ?_ ?_,
        ?_, ?_, rfl⟩
      · rw [e]; rfl
      · rw [e]; rfl
      · rw [e]; rfl
      · have hestimate : (s.transfer.socket i).estimate = (s.socket i).estimate := by rw [e]; rfl
        have hzone : (s.transfer.socket i).zone = (s.socket i).zone := by rw [e]; rfl
        simp only [State.socketTemperature, hestimate, hzone, transfer_zone]

/-- A transfer takes accrual from the sockets it fails, and from no other. -/
theorem transfer_accrues (s : State) (i : SocketId) : s.transfer.accrues i = (s.accrues i && !s.failsNow i) := by
  cases h : (s.transfer.socket i).state.armed with
  | true =>
    obtain ⟨hm, hq, ht, hf⟩ := transfer_meets h
    simp [State.accrues, hm, hq, ht, hf]
  | false =>
    have hback : s.accrues i = true → s.failsNow i = true := fun hs => by
      by_contra hf
      have := ((transfer_socket s i).passed (accrues_armed hs) (Bool.not_eq_true _ ▸ hf)).2
      exact Bool.false_ne_true (h.symm.trans this)
    have hfalse : s.transfer.accrues i = false := by simp [State.accrues, meetsConditions_unarmed h]
    rw [hfalse]
    cases hs : s.accrues i
    · rfl
    · rw [hback hs]; rfl

theorem transfer_worth (s : State) (i : SocketId) : (s.transfer.socket i).worth = (s.socket i).worth :=
  ((transfer_keeps (c := false) s).worth i).resolve_right fun h => nomatch h.1

theorem closeInterval_worth (s : State) (i : SocketId) : (s.closeInterval.socket i).worth = (s.socket i).worth := by
  rw [closeInterval_socket]; rfl

/-- Credit never falls at an accrual, below its top (R34). -/
theorem accrue_credit_le {k : Socket} (h : k.credit ≤ Config.longTop) (product : Nat) : k.credit ≤ (k.accrue product).credit := by
  unfold Socket.accrue
  dsimp only
  split
  · exact h
  · exact Nat.le_add_right ..

/-- At an expiry credit stands, or a socket that meets all seven conditions accrues. -/
theorem intervalWork_worth (s : State) (i : SocketId) (hr : (s.socket i).InRange) :
    (s.intervalWork.socket i).worth = (s.socket i).worth ∨
      (s.accrues i = true ∧ (s.socket i).credit ≤ (s.intervalWork.socket i).credit) := by
  have haccrue : ∀ t : State, (t.socket i).worth = (s.socket i).worth → (t.accrues i = true → s.accrues i = true) →
      (t.accrue.socket i).worth = (s.socket i).worth ∨
        (s.accrues i = true ∧ (s.socket i).credit ≤ (t.accrue.socket i).worth.1) := fun t hw ha => by
    rw [accrue_worth]
    split <;> rename_i he
    · have hcredit : (t.socket i).credit = (s.socket i).credit := congrArg Prod.fst hw
      refine .inr ⟨ha he, ?_⟩
      rw [← hcredit]
      exact accrue_credit_le (hcredit ▸ hr.1) _
    · exact .inl hw
  have hworth : ∀ u : State, (u.socket i).credit = (u.socket i).worth.1 := fun _ => rfl
  rw [hworth s.intervalWork]
  rcases intervalWork_cases s with ⟨-, h⟩ | ⟨-, t, rfl, h | h | h⟩ <;>
    rw [h] <;> simp only [closeInterval_worth, transfer_worth]
  · exact haccrue s rfl id
  · refine haccrue _ (transfer_worth ..) fun ha => ?_
    rw [transfer_accrues] at ha
    exact (Bool.and_eq_true_iff.mp ha).1
  · exact haccrue { s with freeIndex := s.freeIndex + 1 } rfl id
  · exact haccrue { s with freeIndex := s.freeIndex + 1 } rfl id

theorem worth_iff {k k' : Socket} : k'.worth = k.worth ↔ k'.credit = k.credit ∧ k'.fraction = k.fraction := Prod.ext_iff

/-- Settles O15: credit moves at an interval expiry alone, but for what a command may clear. -/
theorem creditMovesAsEarned : Obligations.CreditMovesAsEarned := by
  intro i s t n hr h
  dsimp only
  by_cases hi : i = .intervalExpiry
  · subst hi
    obtain rfl := Host.Outcome.next.inj h
    have htick := ((stepTick_keeps (c := false) ({ s with
      runSeconds := satSucc Config.longTop s.runSeconds } : State).intervalWork).trans (arbitrate_keeps _)).worth n
    have hw := htick.resolve_right fun h => nomatch h.1
    rcases intervalWork_worth { s with runSeconds := satSucc Config.longTop s.runSeconds } n (hr n) with he | ⟨ha, hc⟩
    · exact .inl (worth_iff.mp (hw.trans he))
    · have hearn : s.accrues n = true := ha
      simp only [State.accrues, Bool.and_eq_true] at hearn
      exact .inr (.inl ⟨rfl, hearn.1.1, hearn.1.2, hc.trans (worth_iff.mp hw).1.ge⟩)
  · rcases (exec_keeps hi h).worth n with hw | ⟨hc, hw⟩
    · exact .inl (worth_iff.mp hw)
    · have hzero := Prod.ext_iff.mp hw
      exact .inr (.inr ⟨hzero.1, hzero.2, hc⟩)

end Sys2Proof.Machine
end

/-! ## TBL_WRITE to POLICY, ACCEL, VOLT, DRIVE and CHANNEL (R29, R31, R42, R60, R133)

A written bank as a table of its rows. -/

section

namespace Sys2Proof.Machine

/-- A written bank, row by row: each row holds what the write of its number makes of it. -/
theorem writeRows_rowsOf {n : Nat} [NeZero n] {α : Type} (put : Nat → Written → α → α) {rows : List (Nat × RowWrite)}
    (hd : (rows.map Prod.fst).Nodup) (hn : ∀ row ∈ rows, row.1 < n) (t : Table n α) :
    writeRows (rowsOf n rows) (fun w => w.apply put) t =
      Table.ofFn fun i => (rowWriteAt rows i.val).apply put (t.get i) := by
  obtain ⟨hout, hin⟩ := writeRows_get (f := fun w => w.apply put) (rowsOf_nodup hd hn) t
  refine Table.ext_get fun i => ?_
  rw [Table.get_ofFn]
  cases hl : rows.lookup i.val with
  | some w => rw [rowWriteAt_some hl]; exact hin (i, w) ((mem_rowsOf hd hn).mpr hl)
  | none =>
    rw [rowWriteAt_none hl]
    refine hout i fun hm => ?_
    obtain ⟨⟨j, w⟩, hrow, rfl⟩ := List.mem_map.mp hm
    simp [(mem_rowsOf hd hn).mp hrow] at hl

/-- Rows with different numbers set one after another: each is as set, and the others are untouched. -/
theorem setRows_get {n : Nat} {α : Type} {rows : List (Fin n × α)} (hd : (rows.map Prod.fst).Nodup) (t : Table n α) :
    (∀ i, i ∉ rows.map Prod.fst → (rows.foldl (fun t r => t.set r.1 r.2) t).get i = t.get i) ∧
      ∀ row ∈ rows, (rows.foldl (fun t r => t.set r.1 r.2) t).get row.1 = row.2 := by
  induction rows generalizing t with
  | nil => exact ⟨fun _ _ => rfl, fun _ h => nomatch h⟩
  | cons x xs ih =>
    obtain ⟨hx, hd⟩ := List.nodup_cons.mp hd
    obtain ⟨hout, hin⟩ := ih hd (t.set x.1 x.2)
    refine ⟨fun i hi => ?_, fun row hrow => ?_⟩
    · obtain ⟨hne, hi⟩ : i ≠ x.1 ∧ i ∉ xs.map Prod.fst := by simpa using hi
      exact (hout i hi).trans (by rw [Table.get_set, if_neg (Ne.symm hne)])
    · rcases List.mem_cons.mp hrow with rfl | hrow
      · exact (hout _ hx).trans (Table.get_set_same ..)
      · exact hin row hrow

/-- DRIVE rows set in a bank: a named row is the written row of the bank `d` that was read, any other is the bank's own (R133). -/
theorem setRows_rowsOf {rows : List (Nat × RowWrite)} (hd : (rows.map Prod.fst).Nodup) (hn : ∀ row ∈ rows, row.1 < 64)
    (d t : Table 64 DriveRow) :
    ((rowsOf 64 rows).map fun row => (row.1, row.2.apply DriveRow.put (d.get row.1))).foldl (fun t r => t.set r.1 r.2) t =
      Table.ofFn fun i =>
        if (rows.lookup i.val).isSome then (rowWriteAt rows i.val).apply DriveRow.put (d.get i) else t.get i := by
  have hkeys : ((rowsOf 64 rows).map fun row => (row.1, row.2.apply DriveRow.put (d.get row.1))).map Prod.fst =
      (rowsOf 64 rows).map Prod.fst := by simp
  obtain ⟨hout, hin⟩ := setRows_get (hkeys ▸ rowsOf_nodup hd hn) t
  refine Table.ext_get fun i => ?_
  rw [Table.get_ofFn]
  cases hl : rows.lookup i.val with
  | some w =>
    rw [rowWriteAt_some hl]
    exact hin (i, w.apply DriveRow.put (d.get i)) (List.mem_map.mpr ⟨(i, w), (mem_rowsOf hd hn).mpr hl, rfl⟩)
  | none =>
    refine hout i fun hm => ?_
    rw [hkeys] at hm
    obtain ⟨⟨j, w⟩, hrow, rfl⟩ := List.mem_map.mp hm
    simp [(mem_rowsOf hd hn).mp hrow] at hl

/-- The rows of a table of one row name row 0, once or not at all. -/
theorem theRow_eq {rows : List (Nat × RowWrite)} (hd : (rows.map Prod.fst).Nodup) (hn : ∀ row ∈ rows, row.1 < 1) :
    theRow rows = rowWriteAt rows 0 := by
  match rows, hd, hn with
  | [], _, _ => rfl
  | [(k, w)], _, hn =>
    obtain rfl : k = 0 := by simpa using hn
    simp [theRow, rowWriteAt]
  | (k, w) :: (k', w') :: rest, hd, hn =>
    have h : k < 1 ∧ k' < 1 := ⟨hn (k, w) (by simp), hn (k', w') (by simp)⟩
    have : k ≠ k' := fun e => by simp [e] at hd
    omega

/-- A write to POLICY is refused exactly when a row it names would ask for more failed checks than it counts (R42). -/
theorem policies_refused_iff {rows : List (Nat × RowWrite)} (hd : (rows.map Prod.fst).Nodup) (hn : ∀ row ∈ rows, row.1 < 4)
    (s : State) :
    ((rowsOf 4 rows).any fun row =>
        let p := row.2.apply Policy.put (s.policies.get row.1)
        decide (p.failN < p.failM)) = true ↔
      ∃ p : Fin 4, (rows.lookup p.val).isSome = true ∧
        ((rowWriteAt rows p.val).apply Policy.put (s.policies.get p)).failN <
          ((rowWriteAt rows p.val).apply Policy.put (s.policies.get p)).failM := by
  simp only [List.any_eq_true, decide_eq_true_eq]
  constructor
  · rintro ⟨⟨p, w⟩, hrow, hlt⟩
    have hl := (mem_rowsOf hd hn).mp hrow
    exact ⟨p, by simp [hl], by rw [rowWriteAt_some hl]; exact hlt⟩
  · rintro ⟨p, hsome, hlt⟩
    obtain ⟨w, hl⟩ := Option.isSome_iff_exists.mp hsome
    rw [rowWriteAt_some hl] at hlt
    exact ⟨(p, w), (mem_rowsOf hd hn).mpr hl, hlt⟩

/-- POLICY rows written: the bank, where no written row asks for more failed checks than it counts (R42). -/
theorem writePolicies_eq {rows : List (Nat × RowWrite)} (hd : (rows.map Prod.fst).Nodup) (hn : ∀ row ∈ rows, row.1 < 4)
    {s : State}
    (hle : ∀ p : Fin 4, let r := (rowWriteAt rows p.val).apply Policy.put (s.policies.get p)
      r.failM ≤ r.failN ∨ rows.lookup p.val = none) :
    s.writePolicies (rowsOf 4 rows) =
      ({ s with policies := Table.ofFn fun p => (rowWriteAt rows p.val).apply Policy.put (s.policies.get p) } : State).accept := by
  have hok := mt (policies_refused_iff hd hn s).mp fun ⟨p, hsome, hlt⟩ =>
    (hle p).elim (fun h => absurd hlt (Nat.not_lt.mpr h)) fun h => by simp [h] at hsome
  rw [← writeRows_rowsOf Policy.put hd hn]
  exact if_neg hok

/-- CHANNEL rows written: the bank (R60). -/
theorem writeChannels_eq {rows : List (Nat × RowWrite)} (hd : (rows.map Prod.fst).Nodup) (hn : ∀ row ∈ rows, row.1 < 16)
    (s : State) :
    s.writeChannels (rowsOf 16 rows) =
      ({ s with channels := Table.ofFn fun m => (rowWriteAt rows m.val).apply Channel.put (s.channels.get m) } : State).accept := by
  rw [← writeRows_rowsOf Channel.put hd hn]; rfl

/-- DRIVE rows written: the bank, and while the engine is STOPPED the bank in effect (R133). -/
theorem writeDriveRows_eq {rows : List (Nat × RowWrite)} (hd : (rows.map Prod.fst).Nodup) (hn : ∀ row ∈ rows, row.1 < 64)
    (s : State) :
    s.writeDriveRows (rowsOf 64 rows) =
      let drive : Table 64 DriveRow := Table.ofFn fun n => (rowWriteAt rows n.val).apply DriveRow.put (s.drive.get n)
      ({ s with
        drive
        driveInEffect :=
          if s.engine.state = .stopped then
            Table.ofFn fun n => if (rows.lookup n.val).isSome then drive.get n else s.driveInEffect.get n
          else s.driveInEffect } : State).accept := by
  have hdrive : (Table.ofFn fun i : Fin 64 =>
      if (rows.lookup i.val).isSome then (rowWriteAt rows i.val).apply DriveRow.put (s.drive.get i) else s.drive.get i) =
      Table.ofFn fun n : Fin 64 => (rowWriteAt rows n.val).apply DriveRow.put (s.drive.get n) := by
    refine Table.ext_get fun i => ?_
    rw [Table.get_ofFn, Table.get_ofFn]
    cases hl : rows.lookup i.val with
    | some w => rfl
    | none => rw [rowWriteAt_none hl]; rfl
  simp only [State.writeDriveRows, State.writeDrive, setRows_rowsOf hd hn, hdrive, Table.get_ofFn]
  split <;> rfl

/-- A TBL_WRITE that passes its stages, on a slot that is ready: the write runs and its reply joins the queue. -/
theorem tblWrite_eq {src tag table first count : Byte} {mask : BitVec 64} {values : List Byte} {rows : List (Nat × RowWrite)}
    {s : State} (hr : s.Ready) (hc : checkWrite table first count mask values = .ok rows) :
    exec (.tblWrite src tag table first count mask values) s =
      let out := s.writeTable table.toNat rows
      .next (out.state.replied src tag 1 out.status out.result) := by
  change Host.Outcome.next (s.deliver src tag 1 (State.tableWrite table first count mask values)) = _
  rw [deliver_ready hr, State.tableWrite, hc]

/-- A TBL_WRITE that is accepted answers OK. -/
theorem tblWrite_accept {src tag table first count : Byte} {mask : BitVec 64} {values : List Byte} {rows : List (Nat × RowWrite)}
    {s u : State} (hr : s.Ready) (hc : checkWrite table first count mask values = .ok rows)
    (hw : s.writeTable table.toNat rows = u.accept) :
    exec (.tblWrite src tag table first count mask values) s = .next (u.replied src tag 1 .ok []) := by
  rw [tblWrite_eq hr hc, hw]; rfl

/-- Settles O25: each table's write is one assignment of its bank. -/
theorem plainTableWriteTakes : Obligations.PlainTableWriteTakes := by
  intro src tag table first count mask values rows s hr hc
  obtain ⟨hd, hn⟩ := checkWrite_rows hc
  refine ⟨?policy, ?accel, ?volt, ?drive, ?channel⟩ <;> rintro rfl
  case policy =>
    refine ⟨fun hle => tblWrite_accept hr hc (writePolicies_eq hd hn hle), fun hlt => ?_⟩
    have hrun : s.writeTable 4 rows = s.refuse .range := if_pos ((policies_refused_iff hd hn s).mpr hlt)
    exact (tblWrite_eq hr hc).trans (by rw [show (4 : Byte).toNat = 4 from rfl, hrun]; rfl)
  case accel => exact tblWrite_accept hr hc (by rw [← theRow_eq hd hn]; rfl)
  case volt => exact tblWrite_accept hr hc (by rw [← theRow_eq hd hn]; rfl)
  case drive => exact tblWrite_accept hr hc (writeDriveRows_eq hd hn s)
  case channel => exact tblWrite_accept hr hc (writeChannels_eq hd hn s)

end Sys2Proof.Machine
end

/-! ## A vector block for this slot (R122 to R124, R131, R174)

The frame is read back, routed and delivered; then the block is tracked, checked and accepted or refused, each a change of the
engine, of the reports and of the exercise latches alone. -/

section

namespace Sys2Proof.Machine

/-! ### The frame at the UP port (R172, R174) -/

theorem natOfBytes_be_two {n : Nat} (h : n < 65536) : natOfBytes (be 2 n) = n := by
  simp [be, natOfBytes]
  omega

/-- A frame whose payload fits passes the check of R172 and is read back. -/
theorem parseFrame_bytes {f : Frame} (h : f.payload.length ≤ 1024) : parseFrame f.bytes = some f := by
  have hlen : natOfBytes (be 2 f.payload.length) = f.payload.length := natOfBytes_be_two (by omega)
  have hcrc : natOfBytes (be 2 (crc f.body).toNat) = (crc f.body).toNat := natOfBytes_be_two (crc f.body).isLt
  have hbytes : f.bytes = f.dest :: f.src :: f.kind :: f.tag :: BitVec.ofNat 8 (f.payload.length / 256 ^ 1) ::
      BitVec.ofNat 8 (f.payload.length / 256 ^ 0) :: (f.payload ++ be 2 (crc f.body).toNat) := by
    simp [Frame.bytes, Frame.body, be]
  have hbody : f.body = [f.dest, f.src, f.kind, f.tag, BitVec.ofNat 8 (f.payload.length / 256 ^ 1),
      BitVec.ofNat 8 (f.payload.length / 256 ^ 0)] ++ f.payload := rfl
  rw [be, be, be] at hlen
  rw [hbytes, parseFrame]
  rw [hlen, List.take_left, List.drop_left, ← hbody, hcrc, if_pos ⟨h, by simp [be], rfl⟩]

/-- The address of an addressed slot is not the broadcast address (R173). -/
theorem srcByte_ne_broadcast {l : Link} (h : l.addressed = true) : l.srcByte ≠ 63 := by
  have hne : l.address ≠ 63 := by simp [Link.addressed] at h; exact h.2
  intro e
  rw [Link.srcByte] at e
  exact hne (by bv_omega)

/-- A VECTOR frame for this slot whose block is well formed is taken by the engine. -/
theorem upFrame_takes {f : Frame} {b : Block} {s : State} (hlen : f.payload.length ≤ 1024) (ha : s.link.addressed = true)
    (hd : f.dest = s.link.srcByte) (hk : f.kind = 1) (hb : parseBlock f.payload = some b) :
    s.upFrame f.bytes = s.takeBlock b := by
  have hbroad : f.dest ≠ 63 := hd ▸ srcByte_ne_broadcast ha
  have hkind : f.kind = kindVector := hk
  rw [State.upFrame, parseFrame_bytes hlen]
  dsimp only
  rw [State.route, if_neg hbroad, ha, hd]
  simp [State.deliverFrame, hkind, ha, State.deliverVector, hb]

/-- A well-formed block holds a vector (R121). -/
theorem parseBlock_nonempty {payload : List Byte} {b : Block} (h : parseBlock payload = some b) : b.vectors ≠ [] := by
  unfold parseBlock at h
  split at h
  · split at h
    · split at h
      · rename_i hcount
        obtain rfl := Option.some.inj h
        rintro rfl
        obtain ⟨hone, -, hzero⟩ := hcount
        exact absurd hone (by simp [← hzero])
      · simp at h
    · simp at h
  · simp at h

/-! ### What the engine may do with a block -/

/-- From `s` to `t` the engine became `e`, the records `rs` were asked for, every zone's exercise was disturbed if `disturbs` says
so, and nothing else changed. -/
structure State.Engaged (s : State) (disturbs : Bool) (e : Engine) (rs : List Record) (t : State) : Prop where
  frame : t = { s with sockets := t.sockets, zones := t.zones, engine := t.engine, reports := t.reports }
  engine : t.engine = e
  reports : t.reports = s.created rs
  zone (z : ZoneId) :
    t.zone z = if disturbs then { s.zone z with latches := (s.zone z).latches.setLatch .exercise } else s.zone z
  socket (i : SocketId) : t.socket i = if disturbs then { s.socket i with qualified := false } else s.socket i

namespace State.Engaged

variable {s t u : State} {d d' : Bool} {e e' : Engine} {rs rs' : List Record}

theorem trans (h : s.Engaged d e rs t) (h' : t.Engaged d' e' rs' u) : s.Engaged (d || d') e' (rs ++ rs') u where
  frame := by rw [h'.frame, h.frame]
  engine := h'.engine
  reports := h'.reports.trans (created_append h.reports (by rw [h.frame]) rs')
  zone z := by rw [h'.zone, h.zone]; cases d <;> cases d' <;> rfl
  socket i := by rw [h'.socket, h.socket]; cases d <;> cases d' <;> rfl

theorem zones_eq (h : s.Engaged false e rs t) : t.zones = s.zones := Table.ext_get fun z => h.zone z

theorem sockets_eq (h : s.Engaged false e rs t) : t.sockets = s.sockets := Table.ext_get fun i => h.socket i

/-- Either every zone's exercise is disturbed and every qualification flag clear, or nothing of the kind changed. -/
theorem places (h : s.Engaged d e rs t) :
    if d then (∀ z : ZoneId, t.zone z = { s.zone z with latches := { (s.zone z).latches with exercise := true } }) ∧
      ∀ i : SocketId, t.socket i = { s.socket i with qualified := false }
    else t.zones = s.zones ∧ t.sockets = s.sockets := by
  cases d
  · exact ⟨h.zones_eq, h.sockets_eq⟩
  · exact ⟨h.zone, h.socket⟩

end State.Engaged

theorem updEngine_engaged (s : State) (f : Engine → Engine) : s.Engaged false (f s.engine) [] (s.updEngine f) :=
  ⟨rfl, rfl, rfl, fun _ => rfl, fun _ => rfl⟩

theorem reportPattern_engaged (s : State) (event : PatternEvent) (b x : Option Nat) :
    s.Engaged false s.engine [.pattern event b x] (s.reportPattern event b x) where
  frame := by rw [State.reportPattern, report_state]
  engine := reportPattern_engine ..
  reports := created_one s _
  zone := report_zone s _
  socket := report_socket s _

theorem noticeAll_engaged (s : State) : s.Engaged true s.engine [] (s.noticeAll .exercise) where
  frame := rfl
  engine := rfl
  reports := rfl
  zone := notice_zone s _ _
  socket := notice_socket s _ _

/-- A block refused: its record, and every zone's exercise disturbed (R123, R124). -/
theorem refuseBlock_engaged (s : State) (b : Block) (event : PatternEvent) :
    s.Engaged true s.engine [.pattern event (some b.number) none] (s.refuseBlock b event) := by
  have h := (reportPattern_engaged s event (some b.number) none).trans (noticeAll_engaged _)
  rwa [reportPattern_engine] at h

/-- Is a block's number other than the one expected, without RESTART (R122)? -/
def State.gapsAt (s : State) (b : Block) : Bool :=
  !b.restart && decide (s.engine.expected ≠ none ∧ s.engine.expected ≠ some b.number)

/-- Tracking advances the number expected, whatever becomes of the block; a gap has its record and disturbs (R122). -/
theorem trackBlock_engaged (s : State) (b : Block) :
    s.Engaged (s.gapsAt b) { s.engine with expected := some ((b.number + 1) % 65536) }
      (if s.gapsAt b then [.pattern .gap (some b.number) s.engine.expected] else []) (s.trackBlock b) := by
  have hgap : (!b.restart && s.engine.expected.any (· != b.number)) = s.gapsAt b := by
    cases he : s.engine.expected with
    | none => simp [State.gapsAt, he]
    | some n => by_cases hn : n = b.number <;> simp [State.gapsAt, he, hn]
  unfold State.trackBlock
  dsimp only
  rw [hgap]
  cases s.gapsAt b
  · exact updEngine_engaged s fun e => { e with expected := some ((b.number + 1) % 65536) }
  · have h := ((reportPattern_engaged s .gap (some b.number) s.engine.expected).trans (noticeAll_engaged _)).trans
      (updEngine_engaged _ fun e => { e with expected := some ((b.number + 1) % 65536) })
    have he : ((s.reportPattern .gap (some b.number) s.engine.expected).noticeAll .exercise).engine = s.engine :=
      reportPattern_engine ..
    rw [he] at h
    exact h

/-- Under a source that plays the queue, a queue that holds a vector ends STARVED with its record (R131). -/
theorem resume_engaged {s : State} (hq : s.engine.queue ≠ []) (hs : s.step.cur.source = .stream ∨ s.step.cur.source = .streamLoop) :
    s.Engaged false s.engine.playQueue [.pattern .resumed none none] s.resume := by
  have hc : s.engine.choose s.step.cur.source = some s.engine.playQueue := by
    rcases hs with h | h <;> rw [h] <;> simp [Engine.choose, hq]
  rw [State.resume, hc]
  exact (updEngine_engaged s fun _ => s.engine.playQueue).trans (reportPattern_engaged ..)

/-- Do the vectors of a block pass the vector check (R123)? -/
def State.checks (s : State) (b : Block) : Bool := b.vectors.all (·.passes s.settings.vectorCheck)

/-- Does a block fit in the queue (R124)? -/
def Engine.admits (e : Engine) (b : Block) : Bool := decide (e.queue.length + b.vectors.length ≤ 512)

/-- Is the engine STARVED under a source that plays the queue (R131)? -/
def State.awaits (s : State) : Bool :=
  decide (s.engine.state = .starved ∧ (s.step.cur.source = .stream ∨ s.step.cur.source = .streamLoop))

/-- The engine with the vectors of a block at the end of its queue (R124). -/
def Engine.join (e : Engine) (b : Block) : Engine := { e with queue := e.queue ++ b.entries }

/-- The block is tracked first, and what becomes of it is decided by the check, the room and the source as they stood. -/
theorem takeBlock_cases (s : State) (b : Block) :
    (s.checks b = false ∧ s.takeBlock b = (s.trackBlock b).refuseBlock b .checkError) ∨
    (s.checks b = true ∧ s.engine.admits b = false ∧ s.takeBlock b = (s.trackBlock b).refuseBlock b .overrun) ∨
    (s.checks b = true ∧ s.engine.admits b = true ∧
      ((s.awaits = false ∧ s.takeBlock b = (s.trackBlock b).updEngine (·.join b)) ∨
        (s.awaits = true ∧ s.takeBlock b = ((s.trackBlock b).updEngine (·.join b)).resume))) := by
  have ht := trackBlock_engaged s b
  have hchecks : b.vectors.all (·.passes (s.trackBlock b).settings.vectorCheck) = s.checks b := by rw [ht.frame]; rfl
  have hadmits : (s.trackBlock b).engine.admits b = s.engine.admits b := by rw [ht.engine]; rfl
  have hawaits : (s.trackBlock b).awaits = s.awaits := by rw [State.awaits, ht.engine, ht.frame]; rfl
  rw [← hchecks, ← hadmits, ← hawaits, State.takeBlock]
  generalize s.trackBlock b = t
  dsimp only
  cases b.vectors.all (·.passes t.settings.vectorCheck) with
  | false => exact .inl ⟨rfl, rfl⟩
  | true =>
    refine .inr ?_
    cases hfit : t.engine.admits b with
    | false => exact .inl ⟨rfl, rfl, if_pos (Nat.not_le.mp (of_decide_eq_false hfit))⟩
    | true =>
      refine .inr ⟨rfl, rfl, ?_⟩
      have hroom : ¬ Config.vectorCapacity < t.engine.queue.length + b.vectors.length :=
        Nat.not_lt.mpr (of_decide_eq_true hfit)
      rw [if_neg (by decide), if_neg hroom]
      cases hawait : t.awaits with
      | false => exact .inl ⟨rfl, if_neg (of_decide_eq_false hawait)⟩
      | true => exact .inr ⟨rfl, if_pos (of_decide_eq_true hawait)⟩

/-- What the engine, the reports and the exercise latches make of a block, by the check, the room and the source. -/
theorem takeBlock_engaged (s : State) {b : Block} (hb : b.vectors ≠ []) :
    let passes := s.checks b
    let fits := s.engine.admits b
    let resumes := passes && fits && s.awaits
    s.Engaged (s.gapsAt b || !passes || !fits)
      { s.engine with
        expected := some ((b.number + 1) % 65536)
        queue := if passes && fits then s.engine.queue ++ b.entries else s.engine.queue
        state := if resumes then .streaming else s.engine.state
        loopIndex := if resumes then 0 else s.engine.loopIndex
        cycle := if resumes then 0 else s.engine.cycle }
      ((if s.gapsAt b then [.pattern .gap (some b.number) s.engine.expected] else []) ++
        (if !passes then [.pattern .checkError (some b.number) none]
          else if !fits then [.pattern .overrun (some b.number) none]
          else if resumes then [.pattern .resumed none none]
          else []))
      (s.takeBlock b) := by
  have ht := trackBlock_engaged s b
  have hjoin := ht.trans (updEngine_engaged (s.trackBlock b) (·.join b))
  rw [ht.engine, Bool.or_false, List.append_nil] at hjoin
  have hrefuse := fun event => ht.trans (refuseBlock_engaged (s.trackBlock b) b event)
  rw [ht.engine] at hrefuse
  dsimp only
  rcases takeBlock_cases s b with ⟨hc, e⟩ | ⟨hc, hf, e⟩ | ⟨hc, hf, ⟨hw, e⟩ | ⟨hw, e⟩⟩
  · rw [e, hc]
    simpa using hrefuse .checkError
  · rw [e, hc, hf]
    simpa using hrefuse .overrun
  · rw [e, hc, hf, hw]
    simpa [Engine.join] using hjoin
  · have hsource : s.step.cur.source = .stream ∨ s.step.cur.source = .streamLoop := (of_decide_eq_true hw).2
    have hqueue : s.engine.queue ++ b.entries ≠ [] := by simp [Block.entries, hb]
    have hresume := hjoin.trans (resume_engaged (by rw [hjoin.engine]; exact hqueue) (by rw [hjoin.frame]; exact hsource))
    rw [hjoin.engine] at hresume
    rw [e, hc, hf, hw]
    simpa [Engine.join, Engine.playQueue] using hresume

/-- Settles O21: the frame is read back and routed to the engine, and the block meets one of its four fates. -/
theorem vectorBlockJoinsQueue : Obligations.VectorBlockJoinsQueue := by
  intro f b s hlen ha hd hk hb
  have hrun : exec (.upFrameTaken f.bytes) s = .next (s.takeBlock b).arbitrate := by
    rw [← upFrame_takes hlen ha hd hk hb]; rfl
  have h := takeBlock_engaged s (parseBlock_nonempty hb)
  refine ⟨s.takeBlock b, hrun, h.engine, h.reports, h.places, ?_, ?_, ?_⟩ <;> rw [h.frame]

end Sys2Proof.Machine
end

/-! ## What an interval expiry makes of a socket (R20, R25, R33 to R44) -/

section
namespace Sys2Proof.Machine

/-- What accounting's work at an expiry makes of socket `k` under policy `p`: `auto` says whether a transfer is made, `earns` whether
the seven conditions are met, and `product` is the product of its factors. -/
structure Socket.ExpiredTo (k : Socket) (auto : Bool) (p : Policy) (earns : Bool) (product : Nat) (v : Socket) : Prop where
  running : v.running = if auto then 0 else k.running
  recorded : auto = true → k.state.armed = true → earns = false ∨ v.state ≠ .complete →
    v.last = k.running ∧ v.history = k.transferred.history
  kept : auto = false → v.last = k.last ∧ v.history = k.history ∧ v.clean = k.clean ∧ v.reasons = k.reasons
  gains : earns = true → (auto && p.failsHistory k.transferred.history) = false → v.worth = (k.accrue product).worth ∧
    if (k.accrue product).targetMet then v.state = .complete
    else v.state.armed = true ∧ (auto = false → v.state = k.state)
  idle : earns = false → v.worth = k.worth ∧
    ((auto && k.state.armed && p.failsHistory k.transferred.history) = true → v.state = .failed ∧ v.cause = some .score) ∧
    ((auto && k.state.armed && p.failsHistory k.transferred.history) = false → v.state.armed = k.state.armed ∧
      (auto = false ∨ k.state.armed = false → v.state = k.state))

namespace Socket.AccruedTo

variable {k v : Socket} {earns : Bool} {product : Nat}

/-- An accrual pass touches nothing that a transfer reads or writes but the state. -/
theorem still (h : k.AccruedTo earns product v) :
    v.running = k.running ∧ v.last = k.last ∧ v.history = k.history ∧ v.clean = k.clean ∧ v.reasons = k.reasons := by
  cases earns with
  | false => rw [h.idle rfl]; exact ⟨rfl, rfl, rfl, rfl, rfl⟩
  | true =>
    cases hm : (k.accrue product).targetMet with
    | false => rw [h.gains rfl hm, accrue_cases]; exact ⟨rfl, rfl, rfl, rfl, rfl⟩
    | true => rw [h.completes rfl hm, accrue_cases]; exact ⟨rfl, rfl, rfl, rfl, rfl⟩

theorem policy (h : k.AccruedTo earns product v) : v.policy = k.policy := by
  cases earns with
  | false => rw [h.idle rfl]
  | true =>
    cases hm : (k.accrue product).targetMet with
    | false => rw [h.gains rfl hm, accrue_cases]
    | true => rw [h.completes rfl hm, accrue_cases]

theorem worth (h : k.AccruedTo earns product v) : v.worth = if earns then (k.accrue product).worth else k.worth := by
  cases earns with
  | false => rw [h.idle rfl]; rfl
  | true =>
    cases hm : (k.accrue product).targetMet with
    | false => rw [h.gains rfl hm]; rfl
    | true => rw [h.completes rfl hm]; rfl

theorem state (h : k.AccruedTo earns product v) :
    v.state = if earns && (k.accrue product).targetMet then .complete else k.state := by
  cases earns with
  | false => rw [h.idle rfl]; rfl
  | true =>
    cases hm : (k.accrue product).targetMet with
    | false => rw [h.gains rfl hm, accrue_state]; rfl
    | true => rw [h.completes rfl hm]; rfl

end Socket.AccruedTo

namespace Socket.TransferredTo

variable {k v : Socket} {p : Policy}

theorem running (h : k.TransferredTo p v) : v.running = 0 := by
  cases ha : k.state.armed with
  | false => rw [h.unarmed ha]
  | true =>
    cases hf : p.failsHistory k.transferred.history with
    | false => rw [(h.passed ha hf).1]; rfl
    | true => rw [h.failed ha hf]; rfl

theorem worth (h : k.TransferredTo p v) : v.worth = k.worth := by
  cases ha : k.state.armed with
  | false => rw [h.unarmed ha]; rfl
  | true =>
    cases hf : p.failsHistory k.transferred.history with
    | false => rw [(h.passed ha hf).1]; rfl
    | true => rw [h.failed ha hf]; rfl

theorem target (h : k.TransferredTo p v) : v.target = k.target := by
  cases ha : k.state.armed with
  | false => rw [h.unarmed ha]
  | true =>
    cases hf : p.failsHistory k.transferred.history with
    | false => rw [(h.passed ha hf).1]; rfl
    | true => rw [h.failed ha hf]; rfl

theorem recorded (h : k.TransferredTo p v) (ha : k.state.armed = true) :
    v.last = k.running ∧ v.history = k.transferred.history := by
  cases hf : p.failsHistory k.transferred.history with
  | false => rw [(h.passed ha hf).1]; exact ⟨rfl, rfl⟩
  | true => rw [h.failed ha hf]; exact ⟨rfl, rfl⟩

/-- The M-of-N test fails an armed socket; any other stays armed or unarmed as it was. -/
theorem outcome (h : k.TransferredTo p v) :
    ((k.state.armed && p.failsHistory k.transferred.history) = true → v.state = .failed ∧ v.cause = some .score) ∧
    ((k.state.armed && p.failsHistory k.transferred.history) = false → v.state.armed = k.state.armed) ∧
    (k.state.armed = false → v.state = k.state) := by
  cases ha : k.state.armed with
  | false =>
    rw [h.unarmed ha]
    exact ⟨nofun, fun _ => ha, fun _ => rfl⟩
  | true =>
    cases hf : p.failsHistory k.transferred.history with
    | false => exact ⟨nofun, fun _ => (h.passed ha hf).2, nofun⟩
    | true => rw [h.failed ha hf]; exact ⟨fun _ => ⟨rfl, rfl⟩, nofun, nofun⟩

end Socket.TransferredTo

/-- What an accrual makes of the credit is decided by the credit and the fraction (R33), -/
theorem accrue_worth_congr {k k' : Socket} (h : k'.worth = k.worth) (product : Nat) :
    (k'.accrue product).worth = (k.accrue product).worth := by
  obtain ⟨hcredit, hfraction⟩ := worth_iff.mp h
  simp only [Socket.accrue, hcredit, hfraction]
  split <;> rfl

/-- and whether it meets the target, by the target too (R35). -/
theorem accrue_targetMet_congr {k k' : Socket} (h : k'.worth = k.worth) (ht : k'.target = k.target) (product : Nat) :
    (k'.accrue product).targetMet = (k.accrue product).targetMet := by
  have htarget : ∀ x : Socket, (x.accrue product).target = x.target := fun x => by rw [accrue_cases]
  have hcredit := (worth_iff.mp (accrue_worth_congr h product)).1
  simp only [Socket.targetMet, htarget, ht, hcredit]

/-- Without a transfer an accrual pass alone works on the socket. -/
theorem Socket.AccruedTo.expired {k v : Socket} {earns : Bool} {product : Nat} (h : k.AccruedTo earns product v) (p : Policy)
    (q : Bool) (ha : earns = true → k.state.armed = true) : k.ExpiredTo false p earns product { v with qualified := q } := by
  obtain ⟨hrunning, hkept⟩ := h.still
  refine ⟨hrunning, nofun, fun _ => hkept, fun he _ => ?_, fun he => ?_⟩
  · subst he
    refine ⟨h.worth, ?_⟩
    have hstate := h.state
    cases hm : (k.accrue product).targetMet with
    | true => rw [hm] at hstate; exact hstate
    | false =>
      rw [hm] at hstate
      exact ⟨(congrArg SocketState.armed hstate).trans (ha rfl), fun _ => hstate⟩
  · subst he
    obtain rfl := h.idle rfl
    exact ⟨rfl, nofun, fun _ => ⟨rfl, fun _ => rfl⟩⟩

/-- A transfer before the accrual pass: the pass is for what the transfer leaves armed (log 5). -/
theorem Socket.TransferredTo.expired {k t v : Socket} {p : Policy} {earns : Bool} {product product' : Nat}
    (ht : k.TransferredTo p t) (h : t.AccruedTo (earns && !p.failsHistory k.transferred.history) product' v)
    (hp : earns = true → p.failsHistory k.transferred.history = false → product' = product) (q : Bool)
    (ha : earns = true → k.state.armed = true) : k.ExpiredTo true p earns product { v with qualified := q } := by
  obtain ⟨hrunning, hlast, hhistory, -, -⟩ := h.still
  obtain ⟨hfails, hpasses, hidle⟩ := ht.outcome
  refine ⟨hrunning.trans ht.running, fun _ harmed _ => ?_, nofun, fun he hf => ?_, fun he => ?_⟩
  · exact (ht.recorded harmed).imp hlast.trans hhistory.trans
  · rw [Bool.true_and] at hf
    obtain rfl := hp he hf
    subst he
    rw [hf] at h hpasses
    have hworth : (t.accrue product').worth = (k.accrue product').worth := accrue_worth_congr ht.worth product'
    have hmet : (t.accrue product').targetMet = (k.accrue product').targetMet := accrue_targetMet_congr ht.worth ht.target product'
    refine ⟨h.worth.trans hworth, ?_⟩
    have hstate := h.state
    rw [hmet] at hstate
    cases hm : (k.accrue product').targetMet with
    | true => rw [hm] at hstate; exact hstate
    | false =>
      rw [hm] at hstate
      exact ⟨(congrArg SocketState.armed hstate).trans ((hpasses (Bool.and_false _)).trans (ha rfl)), nofun⟩
  · subst he
    obtain rfl := h.idle rfl
    exact ⟨ht.worth, hfails, fun hf => ⟨hpasses hf, fun hor => hidle (hor.resolve_left nofun)⟩⟩

/-- A transfer after the accrual pass: a socket that the pass completes is not scored, and any other is scored as it stood
(log 5). -/
theorem Socket.AccruedTo.transferred {k a v : Socket} {p : Policy} {earns : Bool} {product : Nat} {q : Bool}
    (h : k.AccruedTo earns product a) (ht : ({ a with qualified := q } : Socket).TransferredTo p v) (q' : Bool)
    (ha : earns = true → k.state.armed = true) : k.ExpiredTo true p earns product { v with qualified := q' } := by
  obtain ⟨hrunning, hlast, hhistory, -, -⟩ := h.still
  have hscores : ({ a with qualified := q } : Socket).transferred.history = k.transferred.history := by
    simp only [Socket.transferred, hrunning, hhistory]
  obtain ⟨hfails, hpasses, hidle⟩ := ht.outcome
  have hrecorded := ht.recorded
  have hworth : v.worth = a.worth := ht.worth
  rw [hscores] at hfails hpasses hrecorded
  have hstate := h.state
  refine ⟨ht.running, fun _ harmed hor => ?_, nofun, fun he hf => ?_, fun he => ?_⟩
  · cases hm : earns && (k.accrue product).targetMet with
    | true =>
      rw [hm] at hstate
      have hv : v.state = .complete := (hidle (by rw [hstate]; rfl)).trans hstate
      rcases hor with he | hne
      · rw [he] at hm; exact nomatch hm
      · exact absurd hv hne
    | false =>
      rw [hm] at hstate
      exact (hrecorded (by rw [hstate]; exact harmed)).imp_left (·.trans hrunning)
  · subst he
    rw [Bool.true_and] at hf
    rw [hf, Bool.and_false] at hpasses
    refine ⟨hworth.trans h.worth, ?_⟩
    cases hm : (k.accrue product).targetMet with
    | true =>
      rw [hm] at hstate
      exact (hidle (by rw [hstate]; rfl)).trans hstate
    | false =>
      rw [hm] at hstate
      refine ⟨(hpasses rfl).trans ?_, nofun⟩
      rw [hstate]; exact ha rfl
  · subst he
    obtain rfl := h.idle rfl
    exact ⟨hworth, hfails, fun hf => ⟨hpasses hf, fun hor => hidle (hor.resolve_left nofun)⟩⟩

/-! ### The expiry of a state -/

theorem transfer_frame (s : State) : s.transfer = { s with
    sockets := s.transfer.sockets, lanes := s.transfer.lanes, reports := s.transfer.reports
    freeIndex := s.transfer.freeIndex, transferNumber := satSucc Config.longTop s.transferNumber } := by
  obtain ⟨reports, h⟩ := transfer_cases s
  have hd := (transferDone_loops s).checked
  rw [h]
  generalize s.transferDone = t at hd ⊢
  rw [hd]
  rfl

theorem transfer_product {s : State} {i : SocketId} (h : s.accrues i = true) (hf : s.failsNow i = false) :
    s.transfer.stressProduct i = s.stressProduct i := by
  have harmed := ((transfer_socket s i).passed (accrues_armed h) hf)
  obtain ⟨-, -, htemp, -⟩ := transfer_meets harmed.2
  have hzone : (s.transfer.socket i).zone = (s.socket i).zone := by rw [harmed.1]; rfl
  have hfactors : s.transfer.accel = s.accel ∧ s.transfer.volt = s.volt := by rw [transfer_frame]; exact ⟨rfl, rfl⟩
  simp only [State.stressProduct, htemp, hzone, transfer_zone, hfactors]

theorem accrue_policyOf (s : State) (i : SocketId) : s.accrue.policyOf i = s.policyOf i := by
  have hpolicies : s.accrue.policies = s.policies := by rw [accrue_checked]
  simp only [State.policyOf, (accrue_socket s i).policy, hpolicies]

/-- A transfer before the accrual pass, -/
theorem transfer_accrue_socket (s : State) (i : SocketId) :
    (s.socket i).ExpiredTo true (s.policyOf i) (s.accrues i) (s.stressProduct i)
      (s.transfer.accrue.closeInterval.socket i) := by
  have ha := accrue_socket s.transfer i
  rw [transfer_accrues] at ha
  rw [closeInterval_socket]
  exact (transfer_socket s i).expired ha transfer_product _ accrues_armed

/-- between it and the close, -/
theorem accrue_transfer_socket (s : State) (i : SocketId) :
    (s.socket i).ExpiredTo true (s.policyOf i) (s.accrues i) (s.stressProduct i)
      (s.accrue.transfer.closeInterval.socket i) := by
  have ht := transfer_socket s.accrue i
  rw [accrue_policyOf] at ht
  rw [closeInterval_socket]
  exact (accrue_socket s i).transferred (q := (s.accrue.socket i).qualified) ht _ accrues_armed

/-- or after the close. -/
theorem accrue_close_transfer_socket (s : State) (i : SocketId) :
    (s.socket i).ExpiredTo true (s.policyOf i) (s.accrues i) (s.stressProduct i)
      (s.accrue.closeInterval.transfer.socket i) := by
  have ht := transfer_socket s.accrue.closeInterval i
  have hclose : s.accrue.closeInterval.policyOf i = s.accrue.policyOf i := by
    simp only [State.policyOf, closeInterval_socket]; rfl
  rw [closeInterval_socket, hclose, accrue_policyOf] at ht
  exact (accrue_socket s i).transferred ht (s.accrue.closeInterval.transfer.socket i).qualified accrues_armed

/-- What accounting's work makes of a socket, wherever the transfer takes its place (log 5). -/
theorem intervalWork_socket (s : State) (i : SocketId) :
    (s.socket i).ExpiredTo (decide (s.settings.reportMode = .auto)) (s.policyOf i) (s.accrues i) (s.stressProduct i)
      (s.intervalWork.socket i) := by
  rcases intervalWork_cases s with ⟨hm, h⟩ | ⟨hm, t, rfl, h | h | h⟩ <;> rw [h, hm]
  · rw [closeInterval_socket]
    exact (accrue_socket s i).expired _ _ accrues_armed
  · exact transfer_accrue_socket { s with freeIndex := s.freeIndex + 1 } i
  · exact accrue_transfer_socket { s with freeIndex := s.freeIndex + 1 } i
  · exact accrue_close_transfer_socket { s with freeIndex := s.freeIndex + 1 } i

/-! ### What the work leaves behind -/

/-- Accounting's work counts the transfer of AUTO (R38), and moves neither step control nor the settings. -/
theorem intervalWork_fields (s : State) :
    s.intervalWork.step = s.step ∧ s.intervalWork.settings = s.settings ∧ s.intervalWork.runSeconds = s.runSeconds ∧
      s.intervalWork.transferNumber =
        if s.settings.reportMode = .auto then satSucc Config.longTop s.transferNumber else s.transferNumber := by
  have ha : ∀ t : State, t.accrue.step = t.step ∧ t.accrue.settings = t.settings ∧ t.accrue.runSeconds = t.runSeconds ∧
      t.accrue.transferNumber = t.transferNumber := fun t => by rw [accrue_checked t]; exact ⟨rfl, rfl, rfl, rfl⟩
  have hc : ∀ t : State, t.closeInterval.step = t.step ∧ t.closeInterval.settings = t.settings ∧
      t.closeInterval.runSeconds = t.runSeconds ∧ t.closeInterval.transferNumber = t.transferNumber := fun _ =>
    ⟨rfl, rfl, rfl, rfl⟩
  have ht : ∀ t : State, t.transfer.step = t.step ∧ t.transfer.settings = t.settings ∧ t.transfer.runSeconds = t.runSeconds ∧
      t.transfer.transferNumber = satSucc Config.longTop t.transferNumber := fun t => by
    rw [transfer_frame t]; exact ⟨rfl, rfl, rfl, rfl⟩
  rcases intervalWork_cases s with ⟨hm, h⟩ | ⟨hm, t, rfl, h | h | h⟩ <;> rw [h, hm] <;> simp [ha, hc, ht]

/-- Every flag is as the conditions give, and every latch is clear (R26). -/
def State.Closed (s : State) : Prop :=
  (∀ z, (s.zone z).latches = {}) ∧ ∀ i, (s.socket i).qualified = s.meetsConditions i

theorem closeInterval_closed (s : State) : s.closeInterval.Closed := by
  refine ⟨fun z => by rw [closeInterval_zone], fun i => ?_⟩
  rw [closeInterval_meets, closeInterval_socket]

/-- A transfer after the close leaves the flags as the conditions give them: what it fails has neither. -/
theorem transfer_closed {s : State} (h : s.Closed) : s.transfer.Closed := by
  refine ⟨fun z => by rw [transfer_zone]; exact h.1 z, fun i => ?_⟩
  cases harmed : (s.transfer.socket i).state.armed with
  | true =>
    obtain ⟨hmeets, hqualified, -, -⟩ := transfer_meets harmed
    rw [hmeets, hqualified]
    exact h.2 i
  | false =>
    rw [meetsConditions_unarmed harmed]
    have ht := transfer_socket s i
    cases ha : (s.socket i).state.armed with
    | false =>
      rw [ht.unarmed ha]
      exact (h.2 i).trans (meetsConditions_unarmed ha)
    | true =>
      cases hf : (s.policyOf i).failsHistory (s.socket i).transferred.history with
      | false => exact absurd ((ht.passed ha hf).2.symm.trans harmed) nofun
      | true => rw [ht.failed ha hf]

theorem intervalWork_closed (s : State) : s.intervalWork.Closed := by
  rcases intervalWork_cases s with ⟨-, h⟩ | ⟨-, t, rfl, h | h | h⟩ <;> rw [h]
  · exact closeInterval_closed _
  · exact closeInterval_closed _
  · exact closeInterval_closed _
  · exact transfer_closed (closeInterval_closed _)

/-! ### Reports only grow -/

/-- The reports `q'` are `q` with more records created. -/
def Reports.Grown (q q' : Reports) : Prop := ∃ rs : List Record, q' = rs.foldl Reports.create q

namespace Reports.Grown

variable {q q' q'' : Reports}

theorem refl (q : Reports) : q.Grown q := ⟨[], rfl⟩

theorem trans (h : q.Grown q') (h' : q'.Grown q'') : q.Grown q'' := by
  obtain ⟨rs, rfl⟩ := h
  obtain ⟨rs', rfl⟩ := h'
  exact ⟨rs ++ rs', (List.foldl_append ..).symm⟩

theorem of_created {s t : State} {rs : List Record} (h : t.reports = s.created rs) : s.reports.Grown t.reports := ⟨_, h⟩

end Reports.Grown

theorem report_grown (s : State) (r : Record) : s.reports.Grown (s.report r).reports := .of_created (created_one s r)

theorem accrue_grown (s : State) : s.reports.Grown s.accrue.reports :=
  forEachFreely_keeps (P := fun t : State => s.reports.Grown t.reports) (fun _ _ h => h)
    (fun i _ t h => h.trans (.of_created (testCompletion_turns t i).records)) (.refl _)

theorem intervalWork_grown (s : State) : s.reports.Grown s.intervalWork.reports := by
  have ha : ∀ t : State, t.reports.Grown t.accrue.reports := accrue_grown
  have ht : ∀ t : State, t.reports.Grown t.transfer.reports := fun t => .of_created (transfer_reports t)
  have hc : ∀ t : State, t.closeInterval.reports = t.reports := fun _ => rfl
  rcases intervalWork_cases s with ⟨-, h⟩ | ⟨-, t, e, h⟩
  · rw [h, hc]; exact ha s
  · have hstart : s.reports = t.reports := by rw [e]
    rw [hstart]
    rcases h with h | h | h <;> rw [h]
    · rw [hc]; exact (ht t).trans (ha _)
    · rw [hc]; exact (ha t).trans (ht _)
    · have hlast := ht t.accrue.closeInterval
      rw [hc] at hlast
      exact (ha t).trans hlast

end Sys2Proof.Machine
end

/-! ## The start of the engine at a promotion (R128, R137; logs 8 and 37) -/

section
namespace Sys2Proof.Machine

/-! ### Sockets while the checks run -/

/-- From `k` to `k'` a socket has scored at most `n` failing checks, and accounting has done no more than move it between RUNNING and
SUSPECT. -/
structure Socket.Scored (n : Nat) (k k' : Socket) : Prop where
  running : k'.running ≤ k.running + n
  last : k'.last = k.last
  history : k'.history = k.history
  clean : k'.clean = k.clean
  worth : k'.worth = k.worth
  armed : k'.state.armed = k.state.armed
  idle : k.state.armed = false → k'.state = k.state ∧ k'.cause = k.cause

/-- From `k` to `k'` a socket has lost or gained its switch, its qualification or its estimate, and nothing else. -/
def Socket.Unscored (k k' : Socket) : Prop :=
  k' = { k with switch := k'.switch, qualified := k'.qualified, estimate := k'.estimate }

namespace Socket

variable {n n' : Nat} {k k' k'' : Socket}

theorem Scored.trans (h : k.Scored n k') (h' : k'.Scored n' k'') : k.Scored (n + n') k'' where
  running := by have := h.running; have := h'.running; omega
  last := h'.last.trans h.last
  history := h'.history.trans h.history
  clean := h'.clean.trans h.clean
  worth := h'.worth.trans h.worth
  armed := h'.armed.trans h.armed
  idle ha := by
    obtain ⟨hstate, hcause⟩ := h.idle ha
    obtain ⟨hstate', hcause'⟩ := h'.idle (h.armed.trans ha)
    exact ⟨hstate'.trans hstate, hcause'.trans hcause⟩

theorem Unscored.trans (h : k.Unscored k') (h' : k'.Unscored k'') : k.Unscored k'' := by
  rw [Unscored, h', h]

theorem Unscored.refl (k : Socket) : k.Unscored k := rfl

theorem Unscored.scored (h : k.Unscored k') : k.Scored 0 k' := by
  rw [h]
  exact ⟨Nat.le_refl _, rfl, rfl, rfl, rfl, rfl, fun _ => ⟨rfl, rfl⟩⟩

/-- A new reason set scores nothing. -/
theorem reasoned_scored (ha : k.state.armed = true) (r : Reasons) : k.Scored 0 (k.reasoned r) := by
  rw [reasoned_armed ha]
  exact ⟨Nat.le_refl _, rfl, rfl, rfl, rfl, (armedState_armed r).trans ha.symm, fun h => absurd (h.symm.trans ha) nofun⟩

end Socket

/-! ### States while the checks run -/

/-- From `s` to `t` step control and the counters of accounting stand, reports only grow, and each socket is moved as `R` says. -/
structure State.Carries (R : SocketId → Socket → Socket → Prop) (s t : State) : Prop where
  step : t.step = s.step
  runSeconds : t.runSeconds = s.runSeconds
  transferNumber : t.transferNumber = s.transferNumber
  reports : s.reports.Grown t.reports
  socket (i : SocketId) : R i (s.socket i) (t.socket i)

/-- At most `n i` failing checks of socket `i` have scored. -/
abbrev State.Drives (n : SocketId → Nat) : State → State → Prop := State.Carries fun i k k' => k.Scored (n i) k'

/-- No check has scored, and no reason has moved. -/
abbrev State.Coasts : State → State → Prop := State.Carries fun _ k k' => k.Unscored k'

namespace State

variable {s t u : State} {n n' : SocketId → Nat} {R R' R'' : SocketId → Socket → Socket → Prop}

theorem Carries.compose (h : Carries R s t) (h' : Carries R' t u) (hR : ∀ i a b c, R i a b → R' i b c → R'' i a c) :
    Carries R'' s u where
  step := h'.step.trans h.step
  runSeconds := h'.runSeconds.trans h.runSeconds
  transferNumber := h'.transferNumber.trans h.transferNumber
  reports := h.reports.trans h'.reports
  socket i := hR i _ _ _ (h.socket i) (h'.socket i)

theorem Coasts.trans (h : s.Coasts t) (h' : t.Coasts u) : s.Coasts u := h.compose h' fun _ _ _ _ => Socket.Unscored.trans

theorem Coasts.drives (h : s.Coasts t) : s.Drives (fun _ => 0) t :=
  ⟨h.step, h.runSeconds, h.transferNumber, h.reports, fun i => (h.socket i).scored⟩

theorem Drives.add (h : s.Drives n t) (h' : t.Drives n' u) : s.Drives (fun i => n i + n' i) u :=
  h.compose h' fun _ _ _ _ => Socket.Scored.trans

theorem Drives.trans (h : s.Drives (fun _ => 0) t) (h' : t.Drives n u) : s.Drives n u := by
  have := h.add h'
  simpa only [Nat.zero_add] using this

theorem Coasts.of_eq (hk : t.sockets = s.sockets) (hs : t.step = s.step) (hr : t.runSeconds = s.runSeconds)
    (hn : t.transferNumber = s.transferNumber) (hq : t.reports = s.reports) : s.Coasts t :=
  ⟨hs, hr, hn, hq ▸ .refl _, fun i => by rw [State.socket, State.socket, hk]; exact .refl _⟩

end State

theorem report_coasts (s : State) (r : Record) : s.Coasts (s.report r) := by
  have hg := report_grown s r
  rw [report_state] at hg ⊢
  exact ⟨rfl, rfl, rfl, hg, fun _ => .refl _⟩

theorem notice_coasts (s : State) (l : Latch) (named : ZoneId → Bool) : s.Coasts (s.notice l named) :=
  ⟨rfl, rfl, rfl, .refl _, fun i => by rw [notice_socket]; split <;> rfl⟩

theorem updEngine_coasts (s : State) (f : Engine → Engine) : s.Coasts (s.updEngine f) := .of_eq rfl rfl rfl rfl rfl

theorem watchExercise_coasts {s : State} {f : State → State} (h : s.Coasts (f s)) : s.Coasts (s.watchExercise f) :=
  h.trans (notice_coasts (f s) ..)

theorem stopEngine_coasts (s : State) : s.Coasts s.stopEngine :=
  watchExercise_coasts (f := fun s => s.updEngine _) (updEngine_coasts s _)

theorem resume_coasts (s : State) : s.Coasts s.resume := by
  unfold State.resume
  split
  · exact (updEngine_coasts s _).trans (report_coasts ..)
  · exact .of_eq rfl rfl rfl rfl rfl

theorem enterStarved_coasts (s : State) : s.Coasts s.enterStarved := by
  unfold State.enterStarved
  exact ((watchExercise_coasts (f := fun s => s.updEngine _) (updEngine_coasts s _)).trans (report_coasts ..)).trans
    (notice_coasts _ _ _)

theorem chooseFirst_coasts (s : State) : s.Coasts s.chooseFirst := by
  unfold State.chooseFirst
  dsimp only
  split
  · exact (updEngine_coasts s _).trans (updEngine_coasts _ _)
  · exact (updEngine_coasts s _).trans (enterStarved_coasts _)

theorem driveCycle_coasts (s : State) : s.Coasts s.driveCycle :=
  (watchExercise_coasts (f := fun s => { s with driveInEffect := s.drive }) (.of_eq rfl rfl rfl rfl rfl)).trans
    (.of_eq rfl rfl rfl rfl rfl)

/-- The engine at a promotion that does not start it scores nothing (R128). -/
theorem enginePromoted_coasts {s : State} {old : PatternSource}
    (h : ¬(s.engine.state = .stopped ∧ s.step.cur.source ≠ .none)) : s.Coasts (s.enginePromoted old) := by
  have hs : s.Coasts s := .of_eq rfl rfl rfl rfl rfl
  have hp := updEngine_coasts s fun e => { e with period := s.step.cur.period }
  unfold State.enginePromoted
  dsimp only
  split
  · rename_i hstopped
    rw [if_pos (not_not.mp fun hne => h ⟨hstopped, hne⟩)]
    exact hs
  · exact hs
  · exact hs
  · split
    · exact hp.trans (stopEngine_coasts _)
    · split
      · exact hp
      · exact hp.trans (resume_coasts _)

/-! ### The checks -/

/-- A move of one socket that scores nothing. -/
theorem State.Turns.drives {s t : State} {i : SocketId} (h : s.Turns i t) (hk : (s.socket i).Scored 0 (t.socket i)) :
    s.Drives (fun _ => 0) t where
  step := h.checked.step
  runSeconds := by rw [h.checked]
  transferNumber := by rw [h.checked]
  reports := .of_created h.records
  socket j := by
    by_cases hj : j = i
    · exact hj ▸ hk
    · rw [h.sockets j hj]; exact (Socket.Unscored.refl _).scored

theorem setReasons_drives (s : State) (i : SocketId) (f : Reasons → Reasons) : s.Drives (fun _ => 0) (s.setReasons i f) := by
  refine (setReasons_turns s i f).drives ?_
  rw [setReasons_socket]
  split
  · exact Socket.reasoned_scored ‹_› _
  · exact (Socket.Unscored.refl _).scored

theorem reviewReasons_drives (s : State) (i : SocketId) : s.Drives (fun _ => 0) (s.reviewReasons i) := by
  unfold State.reviewReasons; exact setReasons_drives ..

theorem updLane_coasts (s : State) (n : LaneId) (f : Lane → Lane) : s.Coasts (s.updLane n f) := .of_eq rfl rfl rfl rfl rfl

theorem endPrbsWindow_drives (s : State) (n : LaneId) : s.Drives (fun _ => 0) (s.endPrbsWindow n) := by
  have hs : s.Coasts s := .of_eq rfl rfl rfl rfl rfl
  unfold State.endPrbsWindow
  dsimp only
  split
  · split
    · exact ((updLane_coasts s ..).trans (report_coasts ..)).drives.trans (setReasons_drives ..)
    · exact ((updLane_coasts s ..).trans (report_coasts ..)).drives.trans (reviewReasons_drives ..)
    · exact (updLane_coasts s ..).drives
  · exact hs.drives

theorem endToggleWindow_drives (s : State) (n : LaneId) : s.Drives (fun _ => 0) (s.endToggleWindow n) := by
  have hs : s.Coasts s := .of_eq rfl rfl rfl rfl rfl
  unfold State.endToggleWindow
  dsimp only
  split
  · split
    · exact ((updLane_coasts s ..).trans (report_coasts ..)).drives.trans (setReasons_drives ..)
    · exact ((updLane_coasts s ..).trans (report_coasts ..)).drives.trans (reviewReasons_drives ..)
    · exact (updLane_coasts s ..).drives
  · exact hs.drives

theorem freeIndex_coasts (s : State) (n : Nat) : s.Coasts { s with freeIndex := n } := .of_eq rfl rfl rfl rfl rfl

theorem forEachFreely_drives {α : Type} (xs : List α) {f : α → State → State}
    (h : ∀ (x : α) (s : State), s.Drives (fun _ => 0) (f x s)) (s : State) : s.Drives (fun _ => 0) (forEachFreely xs f s) :=
  forEachFreely_keeps (P := s.Drives fun _ => 0) (fun _ n hs => hs.trans (freeIndex_coasts _ n).drives)
    (fun x _ _ hs => hs.trans (h x _)) (State.Coasts.of_eq rfl rfl rfl rfl rfl).drives

theorem endDueWindows_drives (s : State) : s.Drives (fun _ => 0) s.endDueWindows :=
  (forEachFreely_drives _ (fun n t => endPrbsWindow_drives t n) s).trans
    (forEachFreely_drives _ (fun n t => endToggleWindow_drives t n) _)

theorem failingCheck_scored (s : State) (f : Failing) :
    (s.socket (laneSocket f.lane)).Scored 1 ((s.failingCheck f).socket (laneSocket f.lane)) := by
  have hscore : ∀ (k : Socket) (r : Option FirstFail), k.state.armed = true →
      k.Scored 1 { k with running := satSucc Config.countTop k.running, firstFail := r } := fun k r ha =>
    ⟨Nat.min_le_right .., rfl, rfl, rfl, rfl, rfl, fun h => absurd (h.symm.trans ha) nofun⟩
  unfold State.failingCheck
  dsimp only
  split
  · split
    · rw [report_socket, State.updSocket_socket_same]
      exact hscore _ _ ‹_›
    · rw [State.updSocket_socket_same]
      exact hscore _ _ ‹_›
  · exact ⟨Nat.le_succ _, rfl, rfl, rfl, rfl, rfl, fun _ => ⟨rfl, rfl⟩⟩

/-- The share of one failing check in the score of socket `i`. -/
def Failing.countsFor (f : Failing) (i : SocketId) : Nat := if laneSocket f.lane = i then 1 else 0

/-- A failing check scores one on its lane's socket, and nothing on any other (R37). -/
theorem failingCheck_drives (s : State) (f : Failing) : s.Drives f.countsFor (s.failingCheck f) where
  step := (failingCheck_checked s f).step
  runSeconds := by rw [failingCheck_checked]
  transferNumber := by rw [failingCheck_checked]
  reports := by
    unfold State.failingCheck
    dsimp only
    split
    · split
      · exact report_grown (s.updSocket ..) _
      · exact .refl _
    · exact .refl _
  socket i := by
    by_cases hi : laneSocket f.lane = i
    · rw [Failing.countsFor, if_pos hi]
      exact hi ▸ failingCheck_scored s f
    · rw [Failing.countsFor, if_neg hi, (failingCheck_local s f).sockets i (Ne.symm hi)]
      exact (Socket.Unscored.refl _).scored

/-- How many of the failing checks are those of socket `i`. -/
def failuresOf (fs : List Failing) (i : SocketId) : Nat := (fs.map (·.countsFor i)).sum

theorem forEach_failing_drives (fs : List Failing) (s : State) :
    s.Drives (failuresOf fs) (forEach fs (fun f s => s.failingCheck f) s) := by
  induction fs generalizing s with
  | nil => exact (State.Coasts.of_eq rfl rfl rfl rfl rfl).drives
  | cons f fs ih =>
    have hsum : failuresOf (f :: fs) = fun i => f.countsFor i + failuresOf fs i := rfl
    rw [hsum]
    exact (failingCheck_drives s f).add (ih (s.failingCheck f))

theorem forEachFreely_failing_drives (fs : List Failing) (s : State) :
    s.Drives (failuresOf fs) (forEachFreely fs (fun f s => s.failingCheck f) s) := by
  have hsame : failuresOf (freely fs s).1 = failuresOf fs := funext fun i => ((freely_perm fs s).map _).sum_eq
  have hn : s.Coasts (freely fs s).2 := by rw [freely_state]; exact freeIndex_coasts s _
  have h := hn.drives.trans (forEach_failing_drives (freely fs s).1 (freely fs s).2)
  rwa [hsame] at h

/-- The check of a lane's cycle fails on that lane. -/
theorem cycle_lane {l : Lane} {n : LaneId} {sample : Bool} {c : CycleWords} {f : Failing} (h : (l.cycle n sample c).2 = some f) :
    f.lane = n := by
  unfold Lane.cycle at h
  dsimp only at h
  split at h
  · unfold compareCheck at h
    dsimp only at h
    split at h
    · obtain rfl := Option.some.inj h; rfl
    · exact nomatch h
  · unfold PrbsCheck.cycle at h
    dsimp only at h
    (repeat' split at h)
    · exact nomatch h
    · obtain rfl := Option.some.inj h; rfl
    · exact nomatch h
    · exact nomatch h
  all_goals exact nomatch h

theorem lanesOf_socket (i : SocketId) : allLanes.countP (fun n => laneSocket n = i) = 2 := by
  revert i; decide

/-- One check for each lane: at most two failing checks of one socket (R37). -/
theorem failuresOf_le_two {outcome : LaneId → Option Failing} (h : ∀ n f, outcome n = some f → f.lane = n) (i : SocketId) :
    failuresOf (allLanes.filterMap outcome) i ≤ 2 := by
  have hgen : ∀ ns : List LaneId, failuresOf (ns.filterMap outcome) i ≤ ns.countP fun n => laneSocket n = i := fun ns => by
    induction ns with
    | nil => exact Nat.le_refl _
    | cons n ns ih =>
      cases ho : outcome n with
      | none =>
        rw [List.filterMap_cons_none ho, List.countP_cons]
        omega
      | some f =>
        rw [List.filterMap_cons_some ho, List.countP_cons, failuresOf, List.map_cons, List.sum_cons, Failing.countsFor, h n f ho]
        simp only [failuresOf] at ih
        simp only [decide_eq_true_eq]
        omega
  exact (hgen allLanes).trans (Nat.le_of_eq (lanesOf_socket i))

theorem Socket.Scored.weaken {n n' : Nat} {k k' : Socket} (h : k.Scored n k') (hn : n ≤ n') : k.Scored n' k' :=
  { h with running := Nat.le_trans h.running (Nat.add_le_add_left hn _) }

theorem State.Drives.mono {s t : State} {n n' : SocketId → Nat} (h : s.Drives n t) (hn : ∀ i, n i ≤ n' i) : s.Drives n' t :=
  { h with socket := fun i => (h.socket i).weaken (hn i) }

theorem checkLanes_drives (s : State) (c : CycleWords) (sense : BitVec 64) : s.Drives (fun _ => 2) (s.checkLanes c sense) := by
  have hlanes : ∀ f : LaneId → Lane, s.Coasts (s.setLanes f) := fun _ => .of_eq rfl rfl rfl rfl rfl
  unfold State.checkLanes
  refine ((hlanes _).drives.trans (forEachFreely_failing_drives _ _)).mono (failuresOf_le_two fun n f h => ?_)
  dsimp only at h
  split at h
  · exact cycle_lane h
  · exact nomatch h

theorem firstCycle_drives (s : State) : s.Drives (fun _ => 2) s.firstCycle := by
  have hn := freeIndex_coasts s (s.freeIndex + 1)
  unfold State.firstCycle State.startCycle
  generalize ({ s with freeIndex := s.freeIndex + 1 } : State) = t at hn ⊢
  have hd := (hn.trans (driveCycle_coasts t)).drives
  dsimp only
  split
  · exact (hd.trans (updEngine_coasts _ _).drives).trans (checkLanes_drives ..)
  · exact (hd.trans (updEngine_coasts _ _).drives).mono fun _ => Nat.zero_le _

/-- The start of the engine runs the first cycle, whose checks score at most one for each lane of a socket (log 37). -/
theorem startEngine_drives (s : State) : s.Drives (fun _ => 2) s.startEngine := by
  have hd := endDueWindows_drives s
  have hrow : s.endDueWindows.Coasts { s.endDueWindows with driveInEffect := s.endDueWindows.drive } :=
    .of_eq rfl rfl rfl rfl rfl
  exact ((hd.trans hrow.drives).trans (chooseFirst_coasts _).drives).trans (firstCycle_drives _)

end Sys2Proof.Machine
end

/-! ## INTERVAL_EXPIRY (R20 to R26, R33 to R44, R162, R163) -/

section
namespace Sys2Proof.Machine

/-! ### A promotion (R160, R163) -/

theorem State.Zonal.coasts {s t : State} (h : s.Zonal t) (hs : s.step.state ≠ .stopping) : s.Coasts t where
  step := h.step hs
  runSeconds := by rw [h.frame]
  transferNumber := by rw [h.frame]
  reports := h.reports
  socket := h.socket

/-- The promotion of the staged step, before the goals, the targets and the engine follow it. -/
def State.promoting (s : State) (event : StepEvent) : State := (s.updStep StepCtl.promoted).reportStep event

theorem promoting_state (s : State) (event : StepEvent) :
    s.promoting event = { s with step := s.step.promoted, reports := (s.promoting event).reports } := by
  rw [State.promoting, State.reportStep, report_state]; rfl

/-- A promotion forms goals and targets, which score nothing, and then the engine follows. -/
theorem promote_follows (s : State) (event : StepEvent) :
    ∃ t : State, (s.promoting event).Coasts t ∧ t.engine = s.engine ∧ s.promote event = t.enginePromoted s.step.cur.source := by
  have hz := (formGoals_zonal (s.promoting event) (s.promoting event).stepGoals).trans
    (formTargets_zonal _ ((s.promoting event).formGoals (s.promoting event).stepGoals).stepTargets)
  refine ⟨_, hz.coasts ?_, ?_, rfl⟩
  · rw [promoting_state]; exact nofun
  · have he : (s.promoting event).engine = s.engine := by rw [promoting_state]
    rw [← he, hz.frame]

/-- Does a promotion start the engine (R128)? -/
def State.willStart (s : State) : Bool :=
  decide (s.engine.state = .stopped ∧ s.step.staged.source.getD s.step.cur.source ≠ .none)

/-- A promotion that starts the engine runs its first cycle; another scores nothing. -/
theorem promote_carries (s : State) (event : StepEvent) :
    (s.promoting event).Drives (fun _ => 2) (s.promote event) ∧
      (s.willStart = false → (s.promoting event).Coasts (s.promote event)) := by
  obtain ⟨t, hc, he, hp⟩ := promote_follows s event
  have hsource : t.step.cur.source = s.step.staged.source.getD s.step.cur.source := by rw [hc.step, promoting_state]; rfl
  rw [hp]
  by_cases hstart : t.engine.state = .stopped ∧ t.step.cur.source ≠ .none
  · have hnow : t.enginePromoted s.step.cur.source = t.startEngine := by
      simp [State.enginePromoted, hstart.1, hstart.2]
    rw [hnow]
    refine ⟨hc.drives.trans (startEngine_drives t), fun hw => ?_⟩
    rw [he, hsource] at hstart
    exact absurd hstart (of_decide_eq_false hw)
  · have h := hc.trans (enginePromoted_coasts (old := s.step.cur.source) hstart)
    exact ⟨h.drives.mono fun _ => Nat.zero_le _, fun _ => h⟩

/-! ### The step timer (R162, R163) -/

/-- The step timer counts (R162). -/
def State.ticked (s : State) : State := s.updStep fun c => { c with elapsed := satSucc Config.elapsedTop c.elapsed }

/-- A step that has ended goes to HOLDING (R163). -/
def State.holding (s : State) : State := s.updStep fun c => { c with state := .holding }

/-- Does the step end at this count of its timer (R162)? -/
def State.endsNow (s : State) : Bool := decide (s.step.state = .running) && s.ticked.stepEnds

/-- Does its end promote the staged step (R163)? -/
def State.promotesNow (s : State) : Bool :=
  s.endsNow && s.step.cur.advance && decide (s.step.stagedState = .settled ∧ s.step.cur.number < 4294967295)

theorem stepTick_idle {s : State} (h : s.step.state ≠ .running) : s.stepTick = s := if_neg h

theorem stepTick_running {s : State} (h : s.step.state = .running) :
    s.stepTick = if s.ticked.stepEnds then s.ticked.normalEnd else s.ticked := if_pos h

theorem stepTick_counts {s : State} (h : s.step.state = .running) (he : s.endsNow = false) : s.stepTick = s.ticked := by
  rw [State.endsNow, decide_eq_true h, Bool.true_and] at he
  rw [stepTick_running h, he, if_neg Bool.false_ne_true]

theorem stepTick_ends {s : State} (he : s.endsNow = true) : s.stepTick = s.ticked.normalEnd := by
  obtain ⟨hr, he⟩ := Bool.and_eq_true_iff.mp he
  rw [stepTick_running (of_decide_eq_true hr), if_pos he]

theorem normalEnd_eq {s : State} (he : s.endsNow = true) :
    s.ticked.normalEnd = if s.promotesNow then s.ticked.promote .advanced else s.ticked.holding.reportStep .ended := by
  have hp : s.promotesNow =
      (s.ticked.step.cur.advance && decide (s.ticked.step.stagedState = .settled) && s.ticked.step.numberFree) := by
    rw [State.promotesNow, he, Bool.true_and, Bool.decide_and, ← Bool.and_assoc]; rfl
  rw [hp]; rfl

theorem stepTick_holds {s : State} (he : s.endsNow = true) (hp : s.promotesNow = false) :
    s.stepTick = s.ticked.holding.reportStep .ended := by
  rw [stepTick_ends he, normalEnd_eq he, hp, if_neg Bool.false_ne_true]

theorem stepTick_promotes {s : State} (hp : s.promotesNow = true) : s.stepTick = s.ticked.promote .advanced := by
  have he : s.endsNow = true := (Bool.and_eq_true_iff.mp (Bool.and_eq_true_iff.mp hp).1).1
  rw [stepTick_ends he, normalEnd_eq he, if_pos hp]

/-- A tick without a promotion moves step control and its record alone. -/
theorem stepTick_state {s : State} (hp : s.promotesNow = false) :
    s.stepTick = { s with step := s.stepTick.step, reports := s.stepTick.reports } := by
  by_cases hr : s.step.state = .running
  · cases he : s.endsNow with
    | false => rw [stepTick_counts hr he]; rfl
    | true => rw [stepTick_holds he hp, State.reportStep, report_state]; rfl
  · rw [stepTick_idle hr]

/-- What a tick does to accounting: nothing, but for the checks of a first cycle where a promotion starts the engine. -/
theorem stepTick_sockets (s : State) :
    s.stepTick.runSeconds = s.runSeconds ∧ s.stepTick.transferNumber = s.transferNumber ∧
      ∀ i, (s.socket i).Scored 2 (s.stepTick.socket i) ∧
        ((s.promotesNow && s.willStart) = false → (s.socket i).Unscored (s.stepTick.socket i)) := by
  cases hp : s.promotesNow with
  | false =>
    rw [stepTick_state hp]
    have hsame : ∀ k : Socket, k.Unscored k := .refl
    exact ⟨rfl, rfl, fun i => ⟨(hsame _).scored.weaken (Nat.zero_le _), fun _ => hsame _⟩⟩
  | true =>
    obtain ⟨hdrives, hcoasts⟩ := promote_carries s.ticked .advanced
    have hstate := promoting_state s.ticked .advanced
    have hsocket : ∀ i, (s.ticked.promoting .advanced).socket i = s.socket i := fun i => by rw [hstate]; rfl
    rw [stepTick_promotes hp]
    refine ⟨hdrives.runSeconds.trans (by rw [hstate]; rfl), hdrives.transferNumber.trans (by rw [hstate]; rfl), fun i => ?_⟩
    rw [← hsocket i]
    exact ⟨hdrives.socket i, fun hw => (hcoasts hw).socket i⟩

theorem stepTick_armed (s : State) (i : SocketId) : (s.stepTick.socket i).state.armed = (s.socket i).state.armed := by
  obtain ⟨-, -, h⟩ := stepTick_sockets s
  exact (h i).1.armed

/-- With the STEP kind enabled a STEP record is created whenever it is asked for (R51). -/
theorem reportStep_enabled {s : State} (h : s.settings.step = true) (event : StepEvent) :
    (s.reportStep event).reports = s.reports.create (.step event s.step.cur.number s.runSeconds) := by
  have he : s.settings.enables (.step event s.step.cur.number s.runSeconds) = true := h
  rw [State.reportStep, created_one, State.created, List.filter_singleton, he]; rfl

theorem stepTick_ended {s : State} (he : s.endsNow = true) (hp : s.promotesNow = false) (h : s.settings.step = true) :
    s.stepTick.reports = s.reports.create (.step .ended s.step.cur.number s.runSeconds) := by
  rw [stepTick_holds he hp]
  exact reportStep_enabled (s := s.ticked.holding) h .ended

theorem stepTick_advanced {s : State} (hp : s.promotesNow = true) (h : s.settings.step = true) :
    (s.reports.create (.step .advanced (s.step.cur.number + 1) s.runSeconds)).Grown s.stepTick.reports := by
  have hpromoting : (s.ticked.promoting .advanced).reports =
      s.reports.create (.step .advanced (s.step.cur.number + 1) s.runSeconds) :=
    reportStep_enabled (s := s.ticked.updStep StepCtl.promoted) h .advanced
  rw [stepTick_promotes hp, ← hpromoting]
  exact (promote_carries s.ticked .advanced).1.reports

theorem stepTick_promoted {s : State} (hp : s.promotesNow = true) : s.stepTick.step = s.step.promoted := by
  rw [stepTick_promotes hp, (promote_carries s.ticked .advanced).1.step, promoting_state]; rfl

theorem stepTick_holding {s : State} (he : s.endsNow = true) (hp : s.promotesNow = false) :
    s.stepTick.step = { s.step with state := .holding, elapsed := satSucc Config.elapsedTop s.step.elapsed } := by
  rw [stepTick_holds he hp, State.reportStep, report_state]; rfl

/-- A tick without a promotion leaves the conditions of accrual, which do not look at the state or the timer of a step. -/
theorem stepTick_closed {s : State} (hp : s.promotesNow = false) (h : s.Closed) : s.stepTick.Closed := by
  have hticked : s.ticked.Closed := h
  have hholding : s.ticked.holding.Closed := h
  by_cases hr : s.step.state = .running
  · cases he : s.endsNow with
    | false => rwa [stepTick_counts hr he]
    | true => rw [stepTick_holds he hp, State.reportStep, report_state]; exact hholding
  · rwa [stepTick_idle hr]

/-! ### One socket at an expiry -/

/-- What an interval expiry makes of a socket, as R20 to R44 give it: `earns` and `fails` are taken before the expiry, `starts` says
whether a promotion starts the engine. -/
theorem Socket.ExpiredTo.ticked {k x v : Socket} {auto earns starts : Bool} {p : Policy} {product : Nat}
    (h : k.ExpiredTo auto p earns product x) (hv : x.Scored 2 v) (hu : starts = false → x.Unscored v)
    (ha : earns = true → k.state.armed = true) :
    let score := if auto then 0 else k.running
    let fails := auto && k.state.armed && p.failsHistory k.transferred.history
    (starts = false → v.running = score) ∧ v.running ≤ score + 2 ∧
    (auto = true → k.state.armed = true → earns = false ∨ v.state ≠ .complete →
      v.last = k.running ∧ v.history = k.transferred.history) ∧
    (auto = false → v.last = k.last ∧ v.history = k.history ∧ v.clean = k.clean ∧ (starts = false → v.reasons = k.reasons)) ∧
    (earns = true → fails = false → v.worth = (k.accrue product).worth ∧
      if (k.accrue product).targetMet then v.state = .complete
      else v.state.armed = true ∧ (auto = false → starts = false → v.state = k.state)) ∧
    (earns = false → v.worth = k.worth ∧
      (fails = true → v.state = .failed ∧ v.cause = some .score) ∧
      (fails = false → v.state.armed = k.state.armed ∧
        ((auto = false ∧ starts = false) ∨ k.state.armed = false → v.state = k.state))) := by
  have hrunning : starts = false → v.running = x.running := fun hs => by rw [hu hs]
  have hreasons : starts = false → v.reasons = x.reasons := fun hs => by rw [hu hs]
  have hstate : starts = false → v.state = x.state := fun hs => by rw [hu hs]
  refine ⟨fun hs => (hrunning hs).trans h.running, h.running ▸ hv.running, fun hauto harmed hor => ?_, fun hauto => ?_,
    fun he hf => ?_, fun he => ?_⟩
  · rw [hv.last, hv.history]
    refine h.recorded hauto harmed (hor.imp_right fun hne hx => hne ?_)
    rw [(hv.idle (by rw [hx]; rfl)).1, hx]
  · obtain ⟨hlast, hhistory, hclean, hr⟩ := h.kept hauto
    exact ⟨hv.last.trans hlast, hv.history.trans hhistory, hv.clean.trans hclean, fun hs => (hreasons hs).trans hr⟩
  · rw [ha he, Bool.and_true] at hf
    obtain ⟨hworth, hout⟩ := h.gains he hf
    refine ⟨hv.worth.trans hworth, ?_⟩
    cases hm : (k.accrue product).targetMet with
    | true =>
      have hx : x.state = .complete := by rwa [hm] at hout
      exact (hv.idle (by rw [hx]; rfl)).1.trans hx
    | false =>
      have hx : x.state.armed = true ∧ (auto = false → x.state = k.state) := by rwa [hm] at hout
      exact ⟨hv.armed.trans hx.1, fun hauto hs => (hstate hs).trans (hx.2 hauto)⟩
  · obtain ⟨hworth, hfails, hpasses⟩ := h.idle he
    refine ⟨hv.worth.trans hworth, fun hf => ?_, fun hf => ?_⟩
    · obtain ⟨hstate, hcause⟩ := hfails hf
      obtain ⟨hstate', hcause'⟩ := hv.idle (by rw [hstate]; rfl)
      exact ⟨hstate'.trans hstate, hcause'.trans hcause⟩
    · obtain ⟨harmed, hsame⟩ := hpasses hf
      refine ⟨hv.armed.trans harmed, fun hor => ?_⟩
      rcases hor with ⟨hauto, hs⟩ | hidle
      · exact (hstate hs).trans (hsame (.inl hauto))
      · exact (hv.idle (harmed.trans hidle)).1.trans (hsame (.inr hidle))

/-- The temperature of a socket is its estimate, or else its zone's (R28). -/
theorem socketTemperature_eq (s : State) (i : SocketId) :
    s.socketTemperature i = (s.socket i).estimate.or (s.zone (s.socket i).zone).values.temperature := by
  unfold State.socketTemperature
  cases (s.socket i).estimate <;> rfl

/-- The sum of an accrual, with the top of the credit (R33, R34). -/
theorem accrue_eq (k : Socket) (product : Nat) :
    (k.accrue product).credit = min 4294967295 (k.credit + (k.fraction + product) / 256) ∧
      (k.accrue product).fraction =
        if 4294967295 ≤ k.credit + (k.fraction + product) / 256 then 0 else (k.fraction + product) % 256 := by
  have htop : Config.longTop = 4294967295 := rfl
  unfold Socket.accrue
  dsimp only
  rw [htop]
  split
  · exact ⟨(Nat.min_eq_left ‹_›).symm, rfl⟩
  · exact ⟨(Nat.min_eq_right (Nat.le_of_not_le ‹_›)).symm, rfl⟩

theorem accrue_targetMet_iff (k : Socket) (product : Nat) :
    (k.accrue product).targetMet = true ↔ k.target ≠ 0 ∧ k.target * 256 ≤ (k.accrue product).credit := by
  have ht : (k.accrue product).target = k.target := by rw [accrue_cases]
  simp [Socket.targetMet, ht]

/-! ### The whole expiry -/

/-- Run seconds and accounting's work at an expiry, before the step timer (R21). -/
def State.worked (s : State) : State := ({ s with runSeconds := satSucc Config.longTop s.runSeconds } : State).intervalWork

theorem worked_fields (s : State) :
    s.worked.step = s.step ∧ s.worked.settings = s.settings ∧ s.worked.runSeconds = satSucc Config.longTop s.runSeconds ∧
      s.worked.transferNumber =
        if s.settings.reportMode = .auto then satSucc Config.longTop s.transferNumber else s.transferNumber :=
  intervalWork_fields _

theorem worked_engine (s : State) : s.worked.engine = s.engine := intervalWork_engine _

theorem worked_grown (s : State) : s.reports.Grown s.worked.reports :=
  intervalWork_grown { s with runSeconds := satSucc Config.longTop s.runSeconds }

/-- Does the step end at this expiry, going by the sockets that it leaves armed (R162)? -/
theorem worked_endsNow (s : State) :
    s.worked.endsNow = (decide (s.step.state = .running) &&
      match s.step.cur.endKind with
      | .time => decide (s.step.cur.duration ≤ min 4000000 (s.step.elapsed + 1))
      | .credit => decide (∀ i : SocketId, (s.worked.stepTick.socket i).state.armed = false)
      | .host => false) := by
  obtain ⟨hstep, -⟩ := worked_fields s
  have hticked : s.worked.ticked.step = { s.step with elapsed := min 4000000 (s.step.elapsed + 1) } := by
    rw [← hstep]; rfl
  have harmed : s.worked.ticked.anyArmed = !decide (∀ i : SocketId, (s.worked.stepTick.socket i).state.armed = false) := by
    have hsame : s.worked.ticked.anyArmed = s.worked.anyArmed := rfl
    rw [hsame, Bool.eq_iff_iff]
    simp [State.anyArmed, allSockets, stepTick_armed]
  rw [State.endsNow, hstep, State.stepEnds, hticked, harmed]
  cases s.step.cur.endKind <;> simp

/-- What the expiry makes of step control (R162, R163), and of the flags and latches without a promotion (R26). -/
theorem intervalExpired_step (s : State) :
    let u := s.worked.stepTick
    let seconds := min 4294967295 (s.runSeconds + 1)
    let elapsed := min 4000000 (s.step.elapsed + 1)
    let ends := s.worked.endsNow
    let promotes := s.worked.promotesNow
    (s.step.state ≠ .running → u.step = s.step) ∧
    (s.step.state = .running → ends = false → u.step = { s.step with elapsed }) ∧
    (ends = true → promotes = false →
      u.step = { s.step with state := .holding, elapsed } ∧
      (s.settings.step = true → ∃ before : List Record,
        u.reports = (before ++ [Record.step .ended s.step.cur.number seconds]).foldl Reports.create s.reports)) ∧
    (promotes = true →
      u.step = s.step.promoted ∧
      (s.settings.step = true → ∃ before later : List Record,
        u.reports =
          (before ++ Record.step .advanced (s.step.cur.number + 1) seconds :: later).foldl Reports.create s.reports)) ∧
    (promotes = false →
      (∀ z : ZoneId, (u.zone z).latches = {}) ∧ ∀ i : SocketId, (u.socket i).qualified = u.meetsConditions i) := by
  obtain ⟨hstep, hsettings, hseconds, -⟩ := worked_fields s
  have hclosed : s.worked.Closed := intervalWork_closed _
  obtain ⟨before, hbefore⟩ := worked_grown s
  generalize s.worked = w at *
  have hsec : w.runSeconds = min 4294967295 (s.runSeconds + 1) := hseconds
  dsimp only
  rw [← hstep, ← hsettings, ← hsec]
  refine ⟨fun hr => by rw [stepTick_idle hr], fun hr he => by rw [stepTick_counts hr he]; rfl, fun he hp => ?_, fun hp => ?_,
    fun hp => stepTick_closed hp hclosed⟩
  · refine ⟨stepTick_holding he hp, fun h => ⟨before, ?_⟩⟩
    rw [stepTick_ended he hp h, hbefore, List.foldl_append]; rfl
  · refine ⟨stepTick_promoted hp, fun h => ?_⟩
    obtain ⟨later, hlater⟩ := stepTick_advanced hp h
    refine ⟨before, later, ?_⟩
    rw [hlater, hbefore, List.foldl_append]; rfl

/-- What the expiry makes of a socket. -/
theorem intervalExpired_socket (s : State) (i : SocketId) :
    let isAuto := decide (s.settings.reportMode = .auto)
    let starts := s.worked.promotesNow && s.worked.willStart
    let k := s.socket i
    let v := s.worked.stepTick.socket i
    let p := s.policyOf i
    let history := (k.history ++ [k.running]).drop (k.history.length + 1 - 8)
    let fails := isAuto && k.state.armed &&
      decide (p.failM ≤ (history.drop (history.length - p.failN)).countP fun x => decide (p.failThreshold ≤ x))
    let temperature := k.estimate.or (s.zone k.zone).values.temperature
    let earns := k.qualified && s.meetsConditions i && temperature.isSome
    let score := if isAuto then 0 else k.running
    (starts = false → v.running = score) ∧ v.running ≤ score + 2 ∧
    (isAuto = true → k.state.armed = true → earns = false ∨ v.state ≠ .complete →
      v.last = k.running ∧ v.history = history) ∧
    (isAuto = false → v.last = k.last ∧ v.history = k.history ∧ v.clean = k.clean ∧ (starts = false → v.reasons = k.reasons)) ∧
    (earns = true → fails = false → ∀ (t : Int) (mv : Nat), temperature = some t →
      (s.zone k.zone).values.voltage = some mv →
      let sum := k.fraction + s.accel.factor t * s.volt.factor mv
      v.credit = min 4294967295 (k.credit + sum / 256) ∧
      v.fraction = (if 4294967295 ≤ k.credit + sum / 256 then 0 else sum % 256) ∧
      (if k.target ≠ 0 ∧ k.target * 256 ≤ v.credit then v.state = .complete
        else v.state.armed = true ∧ (isAuto = false → starts = false → v.state = k.state))) ∧
    (earns = false → v.credit = k.credit ∧ v.fraction = k.fraction ∧
      (fails = true → v.state = .failed ∧ v.cause = some .score) ∧
      (fails = false → v.state.armed = k.state.armed ∧
        ((isAuto = false ∧ starts = false) ∨ k.state.armed = false → v.state = k.state))) := by
  obtain ⟨-, -, hsockets⟩ := stepTick_sockets s.worked
  obtain ⟨hscored, hunscored⟩ := hsockets i
  have hwork : (s.socket i).ExpiredTo (decide (s.settings.reportMode = .auto)) (s.policyOf i) (s.accrues i) (s.stressProduct i)
      (s.worked.socket i) := intervalWork_socket { s with runSeconds := satSucc Config.longTop s.runSeconds } i
  obtain ⟨hrun, hbound, hrecorded, hkept, hgains, hidle⟩ := hwork.ticked hscored hunscored accrues_armed
  have hearns : s.accrues i = ((s.socket i).qualified && s.meetsConditions i &&
      ((s.socket i).estimate.or (s.zone (s.socket i).zone).values.temperature).isSome) := by
    rw [State.accrues, socketTemperature_eq]
  rw [hearns, transferred_history] at hrecorded
  rw [hearns, Policy.failsHistory, transferred_history] at hgains hidle
  refine ⟨hrun, hbound, hrecorded, hkept, fun he hf t mv ht hmv => ?_, fun he => ?_⟩
  · obtain ⟨hworth, hout⟩ := hgains he hf
    have hproduct : s.stressProduct i = s.accel.factor t * s.volt.factor mv := by
      rw [State.stressProduct, socketTemperature_eq, ht, hmv]; rfl
    obtain ⟨hcredit, hfraction⟩ := worth_iff.mp hworth
    obtain ⟨hcredit', hfraction'⟩ := accrue_eq (s.socket i) (s.stressProduct i)
    have hmet := accrue_targetMet_iff (s.socket i) (s.stressProduct i)
    rw [← hcredit] at hmet
    refine ⟨?_, ?_, ?_⟩
    · rw [hcredit, hcredit', hproduct]
    · rw [hfraction, hfraction', hproduct]
    · simpa only [hmet] using hout
  · obtain ⟨hworth, hout⟩ := hidle he
    obtain ⟨hcredit, hfraction⟩ := worth_iff.mp hworth
    exact ⟨hcredit, hfraction, hout⟩

/-- Settles O47: accounting's work, then the step timer's tick. -/
theorem intervalExpiryAccrues : Obligations.IntervalExpiryAccrues := by
  intro s isAuto seconds elapsed
  obtain ⟨hstep, -, hseconds, hnumber⟩ := worked_fields s
  obtain ⟨hu1, hu2, -⟩ := stepTick_sockets s.worked
  refine ⟨s.worked.stepTick, rfl, hu1.trans hseconds, hu2.trans ?_, ?_⟩
  · rw [hnumber]
    simp only [isAuto, decide_eq_true_eq]
    rfl
  intro ends promotes starts
  have hends : ends = s.worked.endsNow := (worked_endsNow s).symm
  have hpromotes : promotes = s.worked.promotesNow := by
    simp only [promotes, hends, State.promotesNow, hstep]
  have hstarts : starts = (s.worked.promotesNow && s.worked.willStart) := by
    simp only [starts, hpromotes, State.willStart, hstep, worked_engine]
  clear_value ends promotes starts
  subst hends hpromotes hstarts
  exact ⟨intervalExpired_step s, intervalExpired_socket s⟩

end Sys2Proof.Machine
end

/-! ## The five queues and the three report counts (R51 to R53, R125, R175, R176, R179)

The blocks create records, leave the link alone and keep the Vector Queue within its size (`Logs`); the link keeps its own queues
within theirs and sends one record at a time (`Stores`). -/

section
namespace Sys2Proof.Machine

/-! ### Records created and sent -/

/-- The Report Queue within its size (R51). -/
def Reports.Fits (q : Reports) : Prop := q.queue.length ≤ 64

/-- Created is sent plus held plus dropped, while the created count stands below its top (R53). -/
def Reports.Balanced (q : Reports) : Prop := q.created < 65535 → q.created = q.sent + q.queue.length + q.dropped

theorem create_fits {q : Reports} (h : q.Fits) (r : Record) : (q.create r).Fits := by
  rcases create_cases q r with ⟨hroom, e⟩ | ⟨-, e⟩ <;> rw [e]
  · simp only [Reports.Fits, List.length_append, List.length_singleton]; omega
  · exact h

theorem create_balanced {q : Reports} (h : q.Balanced) (r : Record) : (q.create r).Balanced := by
  unfold Reports.Balanced at h ⊢
  rcases create_cases q r with ⟨-, e⟩ | ⟨-, e⟩ <;> rw [e]
  · simp only [List.length_append, List.length_singleton]; omega
  · dsimp only; omega

namespace Reports.Grown

variable {q q' : Reports}

/-- What one record keeps, all records keep. -/
theorem keeps {P : Reports → Prop} (hP : ∀ q r, P q → P (q.create r)) (h : q.Grown q') (hq : P q) : P q' := by
  obtain ⟨rs, rfl⟩ := h
  induction rs generalizing q with
  | nil => exact hq
  | cons r rs ih => exact ih (hP q r hq)

theorem fits (h : q.Grown q') (hq : q.Fits) : q'.Fits := h.keeps (fun _ r hq => create_fits hq r) hq

theorem balanced (h : q.Grown q') (hq : q.Balanced) : q'.Balanced := h.keeps (fun _ r hq => create_balanced hq r) hq

end Reports.Grown

/-- A record that leaves the queue counts as sent (R52). -/
theorem sent_balanced {q : Reports} {r : Record} {rest : List Record} (hq : q.queue = r :: rest) (h : q.Balanced) :
    Reports.Balanced { q with queue := rest, sent := satSucc Config.countTop q.sent } := by
  simp only [Reports.Balanced, hq, List.length_cons, satSucc, Config.countTop] at h ⊢
  omega

/-! ### What the blocks do to the queues -/

/-- From `s` to `t` records were created, the link stands, and the Vector Queue stays within its size. -/
structure State.Logs (s t : State) : Prop where
  reports : s.reports.Grown t.reports
  link : t.link = s.link
  vectors : s.engine.queue.length ≤ 512 → t.engine.queue.length ≤ 512

theorem State.Logs.refl (s : State) : s.Logs s := ⟨.refl _, rfl, id⟩

theorem State.Logs.trans {s t u : State} (h : s.Logs t) (h' : t.Logs u) : s.Logs u :=
  ⟨h.reports.trans h'.reports, h'.link.trans h.link, h'.vectors ∘ h.vectors⟩

/-- What moves neither the reports nor the link nor the engine. -/
theorem logs_of_eq {s t : State} (hr : t.reports = s.reports) (hl : t.link = s.link) (he : t.engine = s.engine) : s.Logs t :=
  ⟨hr ▸ .refl _, hl, fun h => he ▸ h⟩

theorem State.Zonal.logs {s t : State} (h : s.Zonal t) : s.Logs t :=
  ⟨h.reports, by rw [h.frame], fun hs => by rwa [h.engine]⟩

theorem State.CheckedTo.logs {s t : State} (h : s.CheckedTo t) (hr : s.reports.Grown t.reports) : s.Logs t :=
  ⟨hr, h.link, fun hs => by rwa [h.engine]⟩

theorem State.Turns.logs {s t : State} {i : SocketId} (h : s.Turns i t) : s.Logs t := h.checked.logs (.of_created h.records)

theorem State.Quiet.logs {s t : State} {i : SocketId} (h : s.Quiet i t) : s.Logs t := h.turns.logs

theorem forEach_logs {α : Type} {xs : List α} {f : α → State → State} (h : ∀ (x : α) (s : State), s.Logs (f x s)) (s : State) :
    s.Logs (forEach xs f s) :=
  forEach_keeps (P := s.Logs) (fun x _ _ hs => hs.trans (h x _)) (.refl s)

theorem forEachFreely_logs {α : Type} {xs : List α} {f : α → State → State} (h : ∀ (x : α) (s : State), s.Logs (f x s))
    (s : State) : s.Logs (forEachFreely xs f s) :=
  forEachFreely_keeps (P := s.Logs) (fun _ _ hs => hs.trans (logs_of_eq rfl rfl rfl)) (fun x _ _ hs => hs.trans (h x _)) (.refl s)

/-- A choice between a move and none. -/
theorem ite_logs {p : Prop} [Decidable p] {s t : State} (h : s.Logs t) : s.Logs (if p then t else s) := by
  split
  · exact h
  · exact .refl s

variable (s : State)

theorem report_logs (r : Record) : s.Logs (s.report r) := (report_zonal s r).logs

theorem notice_logs (l : Latch) (named : ZoneId → Bool) : s.Logs (s.notice l named) := logs_of_eq rfl rfl rfl

theorem updStep_logs (f : StepCtl → StepCtl) : s.Logs (s.updStep f) := logs_of_eq rfl rfl rfl

theorem updHalt_logs (f : Halt → Halt) : s.Logs (s.updHalt f) := logs_of_eq rfl rfl rfl

theorem updEngine_logs (f : Engine → Engine) (h : s.engine.queue.length ≤ 512 → (f s.engine).queue.length ≤ 512) :
    s.Logs (s.updEngine f) := ⟨.refl _, rfl, h⟩

/-! ### Sockets, checks and window ends -/

theorem changeState_logs (i : SocketId) (new : SocketState) (c : Option FailCause) : s.Logs (s.changeState i new c) := by
  rcases changeState_cases s i new c with ⟨-, e⟩ | ⟨-, e⟩ <;> rw [e]
  · exact .refl s
  · exact State.Logs.trans (t := s.updSocket i (·.toState new)) (logs_of_eq rfl rfl rfl) (report_logs ..)

theorem endPrbsWindow_logs (n : LaneId) : s.Logs (s.endPrbsWindow n) :=
  (endPrbsWindow_checked s n).logs (endPrbsWindow_drives s n).reports

theorem endToggleWindow_logs (n : LaneId) : s.Logs (s.endToggleWindow n) :=
  (endToggleWindow_checked s n).logs (endToggleWindow_drives s n).reports

theorem endDueWindows_logs : s.Logs s.endDueWindows := (endDueWindows_checked s).logs (endDueWindows_drives s).reports

theorem checkLanes_logs (c : CycleWords) (sense : BitVec 64) : s.Logs (s.checkLanes c sense) :=
  (checkLanes_checked s c sense).logs (checkLanes_drives s c sense).reports

/-- A gate's expiry: its record, and a runaway's finding (R117, R151). -/
theorem gateExpired_logs (i : SocketId) : s.Logs (s.gateExpired i) := by
  have hgate : ∀ (t : State) (f : Socket → Socket) (g h : Lane → Lane),
      t.Logs (((t.updLane (secondaryLane i) g).updSocket i f).updLane (secondaryLane i) h) := fun _ _ _ _ => logs_of_eq rfl rfl rfl
  unfold State.gateExpired State.invalidGate State.validGate
  dsimp only
  (repeat' split)
  · exact .refl s
  · exact hgate ..
  · exact (hgate ..).trans (report_logs ..)
  · exact ((hgate ..).trans (report_logs ..)).trans (finding_turns ..).logs
  · exact (hgate ..).trans (report_logs ..)
  · exact (hgate ..).trans (finding_turns ..).logs
  · exact hgate ..

end Sys2Proof.Machine
end

section
namespace Sys2Proof.Machine

/-! ### The engine (08_pattern_drive.md) -/

/-- A choice of a vector leaves the queue (R128). -/
theorem choose_queue {e f : Engine} {source : PatternSource} (h : e.choose source = some f) : f.queue = e.queue := by
  unfold Engine.choose at h
  (repeat' split at h) <;> simp only [Option.some.injEq, reduceCtorEq] at h <;> subst h <;> rfl

variable (s : State)

theorem watchExercise_logs {s : State} {f : State → State} (h : s.Logs (f s)) : s.Logs (s.watchExercise f) :=
  h.trans (notice_logs _ _ _)

theorem stopEngine_logs : s.Logs s.stopEngine := watchExercise_logs (f := fun s => s.updEngine _) (updEngine_logs s _ id)

theorem stopEngineAtOnce_logs : s.Logs s.stopEngineAtOnce :=
  (stopEngine_logs s).trans (updEngine_logs _ _ fun _ => Nat.zero_le _)

theorem enterStarved_logs : s.Logs s.enterStarved := by
  unfold State.enterStarved
  exact ((watchExercise_logs (f := fun s => s.updEngine _) (updEngine_logs s _ id)).trans (report_logs ..)).trans
    (notice_logs _ _ _)

/-- The engine takes the vector its source finds. -/
theorem chosen_logs {s : State} {e : Engine} {source : PatternSource} (h : s.engine.choose source = some e) :
    s.Logs (s.updEngine fun _ => e) := updEngine_logs s _ fun hs => by rwa [choose_queue h]

theorem resume_logs : s.Logs s.resume := by
  unfold State.resume
  split
  · exact (chosen_logs ‹_›).trans (report_logs ..)
  · exact .refl s

theorem chooseNext_logs (was : EngineState) : s.Logs (s.chooseNext was) := by
  have hplay : ∀ f : Engine → Engine, (f s.engine).queue = s.engine.queue → s.Logs (s.updEngine f) := fun f h =>
    updEngine_logs s f fun hs => by rwa [h]
  unfold State.chooseNext
  dsimp only
  (repeat' split)
  · exact stopEngine_logs s
  · exact enterStarved_logs s
  · exact hplay _ rfl
  · exact hplay _ rfl
  · exact hplay _ rfl
  · exact hplay _ rfl
  · exact (hplay _ rfl).trans (report_logs ..)
  · exact enterStarved_logs s
  · exact hplay _ rfl
  · exact hplay _ rfl
  · exact enterStarved_logs s

/-- A boundary takes the vector played out of the queue (R130). -/
theorem boundary_logs : s.Logs s.boundary := by
  refine ite_logs (State.Logs.trans (updEngine_logs s _ fun hs => ?_) (chooseNext_logs ..))
  dsimp only
  split
  · exact Nat.le_trans (by rw [List.length_tail]; omega) hs
  · exact hs

theorem trackBlock_logs (b : Block) : s.Logs (s.trackBlock b) := by
  have htrack : ∀ t : State, t.Logs (t.updEngine fun e => { e with expected := some ((b.number + 1) % 65536) }) := fun t =>
    updEngine_logs t _ id
  unfold State.trackBlock
  dsimp only
  split
  · exact ((report_logs ..).trans (notice_logs ..)).trans (htrack _)
  · exact htrack s

/-- A block joins the queue only where it fits (R124). -/
theorem takeBlock_logs (b : Block) : s.Logs (s.takeBlock b) := by
  have hrefuse : ∀ (t : State) (event : PatternEvent), t.Logs (t.refuseBlock b event) := fun t event => (refuseBlock_zonal ..).logs
  have hjoin : (s.trackBlock b).engine.admits b = true → (s.trackBlock b).Logs ((s.trackBlock b).updEngine (·.join b)) := fun hf =>
    updEngine_logs _ _ fun _ => by
      have hlen : b.entries.length = b.vectors.length := List.length_mapIdx ..
      have hfit : (s.trackBlock b).engine.queue.length + b.vectors.length ≤ 512 := of_decide_eq_true hf
      simp only [Engine.join, List.length_append]
      omega
  have hadmits : (s.trackBlock b).engine.admits b = s.engine.admits b := by rw [(trackBlock_engaged s b).engine]; rfl
  rw [hadmits] at hjoin
  refine (trackBlock_logs s b).trans ?_
  rcases takeBlock_cases s b with ⟨-, e⟩ | ⟨-, -, e⟩ | ⟨-, hf, ⟨-, e⟩ | ⟨-, e⟩⟩ <;> rw [e]
  · exact hrefuse ..
  · exact hrefuse ..
  · exact hjoin hf
  · exact (hjoin hf).trans (resume_logs _)

theorem loadLoop_logs (first : Nat) (vs : List Vec) (isLast : Bool) : s.Logs (s.loadLoop first vs isLast) := by
  refine State.Logs.trans (updEngine_logs s _ fun hs => ?_) (ite_logs (resume_logs _))
  dsimp only
  split <;> exact hs

theorem writeDrive_logs (rows : List (Fin 64 × DriveRow)) : s.Logs (s.writeDrive rows) := by
  unfold State.writeDrive
  dsimp only
  split <;> exact logs_of_eq rfl rfl rfl

theorem driveCycle_logs : s.Logs s.driveCycle :=
  (watchExercise_logs (f := fun s => { s with driveInEffect := s.drive }) (logs_of_eq rfl rfl rfl)).trans (logs_of_eq rfl rfl rfl)

theorem startCycle_logs (sense : BitVec 64) : s.Logs (s.startCycle sense) := by
  unfold State.startCycle
  refine (driveCycle_logs s).trans ?_
  dsimp only
  split
  · exact (updEngine_logs _ _ id).trans (checkLanes_logs ..)
  · exact updEngine_logs _ _ id

theorem vectorCycle_logs (sense : BitVec 64) : s.Logs (s.vectorCycle sense) := by
  have h := (endDueWindows_logs s).trans (boundary_logs _)
  unfold State.vectorCycle
  dsimp only
  (repeat' split)
  · exact .refl s
  · exact h
  · exact h.trans (startCycle_logs ..)

theorem chooseFirst_logs : s.Logs s.chooseFirst := by
  unfold State.chooseFirst
  refine State.Logs.trans (updEngine_logs s (fun e =>
    { e with prbsA := BitVec.allOnes 9, prbsB := BitVec.allOnes 15, clockPhase := false, period := s.step.cur.period }) id) ?_
  dsimp only
  split
  · exact chosen_logs ‹_›
  · exact enterStarved_logs _

theorem startEngine_logs : s.Logs s.startEngine := by
  have hrow : ∀ (t : State) (d : Table 64 DriveRow), t.Logs { t with driveInEffect := d } := fun _ _ => logs_of_eq rfl rfl rfl
  have hn : ∀ (t : State) (n : Nat), t.Logs { t with freeIndex := n } := fun _ _ => logs_of_eq rfl rfl rfl
  exact (((endDueWindows_logs s).trans (hrow _ _)).trans (chooseFirst_logs _)).trans ((hn _ _).trans (startCycle_logs ..))

theorem enginePromoted_logs (old : PatternSource) : s.Logs (s.enginePromoted old) := by
  have hp : s.Logs (s.updEngine fun e => { e with period := s.step.cur.period }) := updEngine_logs s _ id
  unfold State.enginePromoted
  dsimp only
  (repeat' split)
  · exact .refl s
  · exact startEngine_logs s
  · exact .refl s
  · exact .refl s
  · exact hp.trans (stopEngine_logs _)
  · exact hp
  · exact hp.trans (resume_logs _)

/-! ### Step control (10_step_control.md) -/

theorem promote_logs (event : StepEvent) : s.Logs (s.promote event) :=
  (((updStep_logs s _).trans (report_logs ..)).trans ((formGoals_zonal ..).trans (formTargets_zonal ..)).logs).trans
    (enginePromoted_logs ..)

theorem enterHalted_logs : s.Logs s.enterHalted := by
  have htrips : ∀ t : State, t.Logs (forEach allZones (fun z t => t.trip z .halt) t) := fun t =>
    (forEach_zonal _ (fun z t => trip_zonal t z .halt) t).logs
  unfold State.enterHalted
  dsimp only
  split
  · exact .refl s
  · exact (((((updStep_logs s _).trans (report_logs ..)).trans (htrips _)).trans (forceDuties_zonal _).logs).trans
      (stopEngineAtOnce_logs _)).trans (updStep_logs ..)

theorem readLine_logs : s.Logs s.readLine := ite_logs (enterHalted_logs s)

theorem lineAsserted_logs (b : Bool) : s.Logs (s.lineAsserted b) := (updHalt_logs s _).trans (ite_logs (enterHalted_logs _))

theorem normalEnd_logs : s.Logs s.normalEnd := by
  unfold State.normalEnd
  split
  · exact promote_logs ..
  · exact (updStep_logs ..).trans (report_logs ..)

theorem stepTick_logs : s.Logs s.stepTick := ite_logs ((updStep_logs ..).trans (ite_logs (normalEnd_logs _)))

theorem settleStage_logs : s.Logs s.settleStage.state := by
  have h : s.Logs (s.updStep fun c => { c with stagedState := .settled }) := updStep_logs ..
  unfold State.settleStage
  dsimp only
  (repeat' split)
  · exact .refl s
  · exact h.trans (promote_logs ..)
  · exact h

theorem unsettleStage_logs : s.Logs s.unsettleStage.state := by
  unfold State.unsettleStage
  split
  · exact updStep_logs ..
  · exact .refl s

theorem startStep_logs : s.Logs s.startStep.state := by
  unfold State.startStep
  split
  · exact .refl s
  · exact .refl s
  · exact .refl s
  all_goals
    (repeat' split)
    · exact .refl s
    · exact promote_logs ..
    · exact .refl s

theorem enterStopping_logs : s.Logs s.enterStopping :=
  ((((((updStep_logs s _).trans (report_logs ..)).trans (formGoals_zonal ..).logs).trans (formTargets_zonal ..).logs).trans
    (stopEngineAtOnce_logs _)).trans (updStep_logs ..)).trans (testStopping_zonal _).logs

theorem stopStep_logs : s.Logs s.stopStep.state := by
  unfold State.stopStep
  split
  · exact .refl s
  · exact .refl s
  · exact .refl s
  all_goals exact enterStopping_logs s

theorem leaveHalted_logs : s.Logs s.leaveHalted :=
  (updStep_logs s _).trans ((((formGoals_zonal ..).trans (formTargets_zonal ..)).trans
    (forEach_zonal _ (fun z t => clearTrip_zonal t z) _)).trans (reportStep_zonal ..)).logs

theorem clearStep_logs : s.Logs s.clearStep.state := by
  have hdrop := (dropSources_zonal s).logs
  have hrecause : ∀ (zs : List ZoneId) (t : State), t.Logs (forEach zs (fun z t => t.recauseHalt z) t) := fun zs t =>
    (forEach_zonal zs (fun z t => recauseHalt_zonal t z) t).logs
  unfold State.clearStep
  dsimp only
  generalize s.dropSources = t at hdrop ⊢
  (repeat' split)
  · exact .refl s
  · exact hdrop.trans (hrecause ..)
  · rw [accept_state]
    exact hdrop.trans (leaveHalted_logs t)

/-! ### Samples and stale timers (04_monitor_samples.md) -/

theorem measure_logs (z : ZoneId) (ma : Nat) : s.Logs (s.measure z ma) := by
  unfold State.measure
  dsimp only
  split
  · rename_i i _ _ _
    have h : s.Logs ((s.finding i .short).reportZone z (.searchCulprit i)) := (finding_turns ..).logs.trans (report_logs ..)
    (repeat' split)
    · exact h.trans (clearSearch_zonal ..).logs
    · exact h.trans ((updSearch_zonal ..).trans (searchOn_zonal ..)).logs
    · exact (searchOn_zonal ..).logs
  · exact .refl s

theorem currentSample_logs (z : ZoneId) (ma : Nat) : s.Logs (s.currentSample z ma) := by
  unfold State.currentSample
  dsimp only
  (repeat' split)
  · exact (trip_zonal ..).logs
  · exact (startSearch_zonal ..).logs
  · exact measure_logs ..
  · exact .refl s
  · exact .refl s

theorem handOver_logs (z : ZoneId) (q : Quantity) (x : Int) : s.Logs (s.handOver z q x) := by
  cases q with
  | voltage => exact (voltageSample_zonal ..).logs
  | current => exact currentSample_logs ..
  | temperature => exact (temperatureSample_zonal ..).logs

theorem updValues_logs (z : ZoneId) (f : Values → Values) : s.Logs (s.updValues z f) := logs_of_eq rfl rfl rfl

theorem sampleTaken_logs (word : BitVec 17) : s.Logs (s.sampleTaken word) := by
  have hraw : ∀ t : Table 16 Channel, s.Logs { s with channels := t } := fun _ => logs_of_eq rfl rfl rfl
  unfold State.sampleTaken State.acceptSample
  dsimp only
  (repeat' split)
  · exact hraw _
  · exact ((hraw _).trans (updValues_logs ..)).trans (handOver_logs ..)
  · exact logs_of_eq rfl rfl rfl

theorem staleExpired_logs (z : ZoneId) (q : Quantity) : s.Logs (s.staleExpired z q) := by
  have hexpire := updValues_logs s z (·.expire q)
  unfold State.staleExpired
  dsimp only
  split
  · cases q with
    | voltage => exact hexpire.trans (railStale_zonal ..).logs
    | current => exact hexpire.trans (railStale_zonal ..).logs
    | temperature => exact hexpire.trans (heatStale_zonal ..).logs
  · exact .refl s

/-! ### Accounting -/

theorem transfer_logs : s.Logs s.transfer := ⟨.of_created (transfer_reports s), by rw [transfer_frame], fun h => by rwa [transfer_engine]⟩

theorem intervalExpired_logs : s.Logs s.intervalExpired := by
  have hlink : s.worked.link = s.link := by
    have ha : ∀ t : State, t.accrue.link = t.link := fun t => (accrue_checked t).link
    have hc : ∀ t : State, t.closeInterval.link = t.link := fun _ => rfl
    have ht : ∀ t : State, t.transfer.link = t.link := fun t => by rw [transfer_frame]
    unfold State.worked
    rcases intervalWork_cases { s with runSeconds := satSucc Config.longTop s.runSeconds } with ⟨-, h⟩ | ⟨-, t, rfl, h | h | h⟩ <;>
      rw [h] <;> simp only [ha, hc, ht]
  have hwork : s.Logs s.worked := ⟨worked_grown s, hlink, fun h => by rwa [worked_engine]⟩
  exact hwork.trans (stepTick_logs _)

theorem socketCommand_logs (set : BitVec 32) (refuses : SocketState → Bool) {act : SocketId → State → State}
    (h : ∀ i (s : State), s.Logs (act i s)) : s.Logs (State.socketCommand set refuses act s).state := by
  unfold State.socketCommand
  split
  · exact .refl s
  · exact forEach_logs h s

theorem takeSnapshot_logs : s.Logs s.takeSnapshot.state := by
  unfold State.takeSnapshot
  split
  · exact .refl s
  · exact transfer_logs s

/-- RUN_RESET empties the Vector Queue and keeps the Report Queue and the link (R57, R139, R186). -/
theorem resetRun_logs : s.Logs s.resetRun.state := by
  obtain ⟨_, hreports⟩ := restarted_reports s
  have hlink : s.restarted.link = s.link := (restarted_kept s).fields.1.2.2.2.2.2.2.2
  have h : s.Logs s.restarted := ⟨.of_created hreports, hlink, fun _ => by rw [restarted_engine]; exact Nat.zero_le _⟩
  rw [resetRun_eq]
  exact h.trans (readLine_logs _)

end Sys2Proof.Machine
end

section
namespace Sys2Proof.Machine

variable (s : State)

/-! ### Tables (R182, R183) and the other management commands -/

theorem writeSettings_logs (w : RowWrite) : s.Logs (s.writeSettings w).state := by
  have hw : s.Logs { s with settings := w.apply Settings.put s.settings } := logs_of_eq rfl rfl rfl
  refine hw.trans (forEachFreely_logs (fun task t => ?_) _)
  cases task with
  | output => exact (evaluateOutput_zonal t).logs
  | input => exact readLine_logs t

theorem socketWritten_logs (row : SocketId × RowWrite) : s.Logs (State.socketWritten row s) := by
  have hp : ∀ t : State, t.Logs (t.applyPopulated row.1) := fun t => by
    unfold State.applyPopulated
    dsimp only
    (repeat' split)
    · exact changeState_logs ..
    · exact .refl t
    · exact .refl t
    · exact changeState_logs ..
  exact ((ite_logs (hp s)).trans (ite_logs (evaluateSwitch_quiet ..).logs)).trans (ite_logs (testCompletion_turns ..).logs)

theorem writeSockets_logs (rows : List (SocketId × RowWrite)) : s.Logs (s.writeSockets rows).state := by
  have hw : s.Logs (s.rowsWritten rows) := logs_of_eq rfl rfl rfl
  rw [writeSockets_eq]
  split
  · exact .refl s
  · exact hw.trans (forEachFreely_logs (fun row t => socketWritten_logs t row) _)

theorem writeZones_logs (rows : List (ZoneId × RowWrite)) : s.Logs (s.writeZones rows).state := by
  have hw : ∀ t : Table 4 Zone, s.Logs { s with zones := t } := fun _ => logs_of_eq rfl rfl rfl
  unfold State.writeZones
  dsimp only
  (repeat' split)
  · exact .refl s
  · exact .refl s
  · refine ((hw _).trans (setGoals_zonal ..).logs).trans (forEachFreely_logs (fun task t => ?_) _)
    cases task with
    | goal z => exact (goalChange_zonal t z).logs
    | target z new => exact (targetChange_zonal t z new).logs

theorem writePolicies_logs (rows : List (Fin 4 × RowWrite)) : s.Logs (s.writePolicies rows).state := by
  unfold State.writePolicies
  split
  · exact .refl s
  · exact logs_of_eq rfl rfl rfl

theorem writeSense_logs (rows : List (LaneId × RowWrite)) : s.Logs (s.writeSense rows).state := by
  have hw : s.Logs (s.senseWritten rows) := logs_of_eq rfl rfl rfl
  rw [writeSense_eq]
  split
  · exact .refl s
  · exact hw.trans (forEachFreely_logs (fun i t => (reviewReasons_turns t i).logs) _)

theorem writeOrder_logs (zs : List ZoneId) : s.Logs (s.writeOrder zs) := by
  have hw : s.Logs { s with order := zs } := logs_of_eq rfl rfl rfl
  unfold State.writeOrder
  refine (hw.trans (forEachFreely_logs (fun z t => ?_) _)).trans (retestAllDown_zonal _).logs
  split
  · exact (beginPowerDown_zonal ..).logs
  · exact (retestUp_zonal ..).logs

theorem writeTable_logs (table : Nat) (rows : List (Nat × RowWrite)) : s.Logs (s.writeTable table rows).state := by
  unfold State.writeTable
  split
  · exact writeSettings_logs ..
  · exact writeSockets_logs ..
  · exact writeZones_logs ..
  · exact writePolicies_logs ..
  · exact logs_of_eq rfl rfl rfl
  · exact logs_of_eq rfl rfl rfl
  · exact writeDrive_logs ..
  · exact writeSense_logs ..
  · exact logs_of_eq rfl rfl rfl
  · exact writeOrder_logs ..
  · exact logs_of_eq rfl rfl rfl

theorem tableWrite_logs (table first count : Byte) (mask : BitVec 64) (values : List Byte) :
    s.Logs (State.tableWrite table first count mask values s).state := by
  unfold State.tableWrite
  split
  · exact .refl s
  · exact writeTable_logs ..

theorem tableRead_logs (table first count : Byte) (mask : BitVec 64) :
    s.Logs (State.tableRead table first count mask s).state := by
  rw [tableRead_state]; exact .refl s

theorem loopLoad_logs (first count flags : Byte) (vectors : List Byte) :
    s.Logs (State.loopLoad first count flags vectors s).state := by
  unfold State.loopLoad
  dsimp only
  (repeat' split)
  · exact .refl s
  · exact .refl s
  · exact .refl s
  · exact .refl s
  · exact .refl s
  · exact loadLoop_logs ..

theorem clearZones_logs (set : Byte) : s.Logs (State.clearZones set s).state := by
  unfold State.clearZones
  (repeat' split)
  · exact .refl s
  · exact .refl s
  · exact .refl s
  · exact (forEach_zonal _ (fun z t => clearTrip_zonal t z) s).logs

theorem armSockets_logs (set : BitVec 32) (options : Byte) : s.Logs (State.armSockets set options s).state :=
  socketCommand_logs s set _ fun i t => (armSocket_turns _ i t).logs

theorem releaseSockets_logs (set : BitVec 32) : s.Logs (State.releaseSockets set s).state :=
  socketCommand_logs s set _ fun i t => (releaseSocket_turns i t).logs

theorem holdSockets_logs (set : BitVec 32) : s.Logs (State.holdSockets set s).state :=
  socketCommand_logs s set _ fun i t => (placeHold_quiet t i .forced).logs

theorem restoreSockets_logs (set : BitVec 32) : s.Logs (State.restoreSockets set s).state :=
  socketCommand_logs s set _ fun i t => (restoreSocket_quiet i t).logs

theorem failSockets_logs (set : BitVec 32) : s.Logs (State.failSockets set s).state :=
  socketCommand_logs s set _ fun i t => (finding_turns t i .forced).logs

theorem bare_logs {cmd : State → CmdOut} (h : ∀ s : State, s.Logs (cmd s).state) (args : List Byte) :
    s.Logs (bare args cmd s).state := by
  unfold bare
  split
  · exact h s
  · exact .refl s

theorem withSockets_logs {cmd : BitVec 32 → State → CmdOut} (h : ∀ (s : State) set, s.Logs (cmd set s).state)
    (args : List Byte) : s.Logs (withSockets args cmd s).state := by
  unfold withSockets
  split
  · exact h s _
  · exact .refl s

/-- Every command by its code (R180). -/
theorem command_logs (code : Byte) (args : List Byte) : s.Logs (State.command code args s).state := by
  unfold State.command
  split
  · unfold tableWriteArgs
    (repeat' split)
    · exact .refl s
    · exact tableWrite_logs ..
    · exact .refl s
  · unfold tableReadArgs
    (repeat' split)
    · exact .refl s
    · exact tableRead_logs ..
    · exact .refl s
  · unfold loopLoadArgs
    split
    · exact loopLoad_logs ..
    · exact .refl s
  · exact bare_logs s settleStage_logs args
  · exact bare_logs s unsettleStage_logs args
  · exact bare_logs s startStep_logs args
  · exact bare_logs s stopStep_logs args
  · exact bare_logs s enterHalted_logs args
  · exact bare_logs s clearStep_logs args
  · unfold clearZonesArgs
    split
    · exact clearZones_logs ..
    · exact .refl s
  · unfold armSocketsArgs
    split
    · exact armSockets_logs ..
    · exact .refl s
  · exact withSockets_logs s releaseSockets_logs args
  · exact withSockets_logs s holdSockets_logs args
  · exact withSockets_logs s restoreSockets_logs args
  · exact withSockets_logs s failSockets_logs args
  · exact bare_logs s takeSnapshot_logs args
  · exact bare_logs s (fun s => .refl s) args
  · exact bare_logs s resetRun_logs args
  · exact .refl s

end Sys2Proof.Machine
end

section
namespace Sys2Proof.Machine

/-! ### The link -/

/-- The Reply Queue and the two forward queues within their sizes (R175, R176, R179). -/
def Link.Fits (l : Link) : Prop := l.replies.length ≤ 4 ∧ l.downQueue.length ≤ 4 ∧ l.upQueue.length ≤ 8

theorem queuesBounded_iff (s : State) :
    s.QueuesBounded ↔ s.reports.Fits ∧ s.link.Fits ∧ s.engine.queue.length ≤ 512 := by
  simp only [State.QueuesBounded, Reports.Fits, Link.Fits, and_assoc]

/-- From `s` to `t` the queues stay within their sizes and the report counts balanced. -/
structure State.Stores (s t : State) : Prop where
  bounded : s.QueuesBounded → t.QueuesBounded
  balanced : s.ReportsBalance → t.ReportsBalance

theorem State.Stores.refl (s : State) : s.Stores s := ⟨id, id⟩

theorem State.Stores.trans {s t u : State} (h : s.Stores t) (h' : t.Stores u) : s.Stores u :=
  ⟨h'.bounded ∘ h.bounded, h'.balanced ∘ h.balanced⟩

theorem State.Logs.stores {s t : State} (h : s.Logs t) : s.Stores t where
  bounded hs := by
    obtain ⟨hr, hl, he⟩ := (queuesBounded_iff s).mp hs
    exact (queuesBounded_iff t).mpr ⟨h.reports.fits hr, h.link ▸ hl, h.vectors he⟩
  balanced := h.reports.balanced

/-- The link moves. -/
theorem updLink_stores (s : State) (f : Link → Link) (h : s.link.Fits → (f s.link).Fits) : s.Stores (s.updLink f) where
  bounded hs := by
    obtain ⟨hr, hl, he⟩ := (queuesBounded_iff s).mp hs
    exact (queuesBounded_iff _).mpr ⟨hr, h hl, he⟩
  balanced := id

theorem countLink_stores (s : State) (f : LinkCounts → LinkCounts) : s.Stores (s.countLink f) := updLink_stores s _ id

theorem serveForward_stores (s : State) : s.Stores s.serveForward := by
  unfold State.serveForward
  split
  · exact .refl s
  · rename_i f rest hq
    refine updLink_stores s _ fun ⟨hreply, hdown, hup⟩ => ⟨hreply, hdown, ?_⟩
    rw [hq, List.length_cons] at hup
    exact Nat.le_of_succ_le hup

/-- A reply leaves its queue, or a record that counts as sent (R52, R178). -/
theorem serveLocal_stores (s : State) : s.Stores s.serveLocal := by
  unfold State.serveLocal
  split
  · rename_i r rest hq
    refine updLink_stores s _ fun ⟨hreply, hdown, hup⟩ => ⟨?_, hdown, hup⟩
    rw [hq, List.length_cons] at hreply
    exact Nat.le_of_succ_le hreply
  · split
    · exact .refl s
    · rename_i r rest hq
      refine (updLink_stores s (fun l => { l with
        upSending := some (l.reportFrame r).bytes, sequence := l.sequence + 1, lastServed := .locals }) id).trans
        ⟨fun hs => ?_, sent_balanced hq⟩
      obtain ⟨hr, hl, he⟩ := (queuesBounded_iff _).mp hs
      have hr : (r :: rest).length ≤ 64 := hq ▸ hr
      exact (queuesBounded_iff _).mpr ⟨Nat.le_of_succ_le hr, hl, he⟩

theorem arbitrate_stores (s : State) : s.Stores s.arbitrate := by
  unfold State.arbitrate
  (repeat' split)
  · exact serveLocal_stores s
  · exact serveForward_stores s
  · exact serveForward_stores s
  · exact serveLocal_stores s
  · exact .refl s
  · exact .refl s

/-- A free DOWN transmitter takes a frame out of its queue at most (R175). -/
theorem pumpDown_fits {l : Link} (h : l.Fits) : l.pumpDown.Fits := by
  obtain ⟨hreply, hdown, hup⟩ := h
  unfold Link.pumpDown
  split
  · rename_i f rest _ hq
    rw [hq, List.length_cons] at hdown
    exact ⟨hreply, Nat.le_of_succ_le hdown, hup⟩
  · exact ⟨hreply, hdown, hup⟩

/-- A frame joins the Downstream Forward Queue only where there is room (R175). -/
theorem forwardDown_stores (s : State) (bytes : List Byte) : s.Stores (s.forwardDown bytes) := by
  unfold State.forwardDown
  (repeat' split)
  · exact .refl s
  · exact countLink_stores ..
  · rename_i hroom
    have hroom : s.link.downQueue.length < 4 := Nat.lt_of_not_le hroom
    exact updLink_stores s _ fun ⟨hreply, _, hup⟩ =>
      pumpDown_fits ⟨hreply, by simpa only [List.length_append, List.length_singleton, Nat.succ_le_iff] using hroom, hup⟩

theorem downEnded_stores (s : State) : s.Stores s.downEnded := updLink_stores s _ fun h => pumpDown_fits h

theorem downPartner_stores (s : State) (present : Bool) : s.Stores (s.downPartner present) := by
  unfold State.downPartner
  split
  · exact updLink_stores s _ id
  · exact updLink_stores s _ fun ⟨hreply, _, hup⟩ => ⟨hreply, Nat.zero_le _, hup⟩

theorem upEnded_stores (s : State) : s.Stores s.upEnded := updLink_stores s _ id

theorem upReceiver_stores (s : State) (present : Bool) : s.Stores (s.upReceiver present) := by
  unfold State.upReceiver
  split <;> exact updLink_stores s _ id

/-- A frame joins the Upstream Forward Queue only where there is room (R176). -/
theorem downFrame_stores (s : State) (bytes : List Byte) : s.Stores (s.downFrame bytes) := by
  unfold State.downFrame
  (repeat' split)
  · exact countLink_stores ..
  · rename_i hroom
    have hroom : s.link.upQueue.length < 8 := Nat.lt_of_not_le hroom
    exact updLink_stores s _ fun ⟨hreply, hdown, _⟩ =>
      ⟨hreply, hdown, by simpa only [List.length_append, List.length_singleton, Nat.succ_le_iff] using hroom⟩
  · exact countLink_stores ..

/-- A command runs, and its reply joins the queue, only where there is room for the reply (R179). -/
theorem answer_stores {cmd : State → CmdOut} (h : ∀ s : State, s.Logs (cmd s).state) (src tag code : Byte) (s : State) :
    s.Stores (s.answer src tag code cmd) := by
  unfold State.answer
  dsimp only
  split
  · exact updLink_stores s _ id
  · rename_i hroom
    have hroom : s.link.replies.length < 4 := Nat.lt_of_not_le hroom
    refine (h s).stores.trans (updLink_stores _ _ fun ⟨_, hdown, hup⟩ => ⟨?_, hdown, hup⟩)
    simpa only [(h s).link, List.length_append, List.length_singleton, Nat.succ_le_iff] using hroom

theorem deliver_stores {cmd : State → CmdOut} (h : ∀ s : State, s.Logs (cmd s).state) (src tag code : Byte) (s : State) :
    s.Stores (s.deliver src tag code cmd) := by
  unfold State.deliver
  split
  · exact (answer_stores h ..).trans (arbitrate_stores _)
  · exact .refl s

theorem deliverFrame_stores (f : Frame) (s : State) : s.Stores (s.deliverFrame f) := by
  have hn : ∀ n : Nat, s.Logs { s with freeIndex := n } := fun _ => logs_of_eq rfl rfl rfl
  unfold State.deliverFrame State.deliverVector State.deliverMgmt
  (repeat' split)
  · exact (takeBlock_logs ..).stores
  · exact countLink_stores ..
  · exact .refl s
  · exact (hn _).stores.trans (answer_stores (fun s => .refl s) ..)
  · exact answer_stores (fun s => command_logs s _ _) ..
  · exact .refl s
  · exact countLink_stores ..

theorem upFrame_stores (s : State) (bytes : List Byte) : s.Stores (s.upFrame bytes) := by
  unfold State.upFrame State.route
  (repeat' split)
  · exact (forwardDown_stores ..).trans (deliverFrame_stores ..)
  · exact deliverFrame_stores ..
  · exact forwardDown_stores ..
  · exact countLink_stores ..

/-- Power-on reset empties every queue and zeroes the counts (R170). -/
theorem powerOn_stores (s : State) (addr : BitVec 6) (o d u : Bool) : s.Stores (s.powerOn addr o d u) :=
  ⟨fun _ => ⟨Nat.zero_le _, Nat.zero_le _, Nat.zero_le _, Nat.zero_le _, Nat.zero_le _⟩, fun _ _ => rfl⟩

/-! ### Every command and every step -/

theorem exec_stores {i : Instr} {s t : State} (h : exec i s = .next t) : s.Stores t := by
  have hn : ∀ {u : State}, s.Stores u → Host.Outcome.next (ρ := Refusal) (φ := Fault) u = .next t → s.Stores t :=
    fun hu h => Host.Outcome.next.inj h ▸ hu
  have ha : ∀ {u : State}, s.Stores u → Host.Outcome.next (ρ := Refusal) (φ := Fault) u.arbitrate = .next t → s.Stores t :=
    fun hu h => hn (hu.trans (arbitrate_stores _)) h
  have hd : ∀ {src tag code : Byte} {cmd : State → CmdOut}, (∀ s : State, s.Logs (cmd s).state) →
      Host.Outcome.next (ρ := Refusal) (φ := Fault) (s.deliver src tag code cmd) = .next t → s.Stores t :=
    fun hc h => hn (deliver_stores hc ..) h
  cases i with
  | powerOnReset addr othersPull downPartner upReceiver =>
    exact ha ((powerOn_stores s addr othersPull downPartner upReceiver).trans (readLine_logs _).stores) h
  | upFrameTaken bytes => exact ha (upFrame_stores s bytes) h
  | downFrameTaken bytes => exact ha (downFrame_stores s bytes) h
  | downTransmitEnd => exact hn (downEnded_stores s) h
  | upTransmitEnd => exact ha (upEnded_stores s) h
  | downPartnerChange present => exact hn (downPartner_stores s present) h
  | upReceiverChange present => exact ha (upReceiver_stores s present) h
  | tblWrite src tag table first count mask values => exact hd (fun s => tableWrite_logs s _ _ _ _ _) h
  | socketTableWrite src tag first count mask values => exact hd (fun s => tableWrite_logs s _ _ _ _ _) h
  | zoneTableWrite src tag first count mask values => exact hd (fun s => tableWrite_logs s _ _ _ _ _) h
  | orderWrite src tag first count mask values => exact hd (fun s => tableWrite_logs s _ _ _ _ _) h
  | stepStageWrite src tag first count mask values => exact hd (fun s => tableWrite_logs s _ _ _ _ _) h
  | senseModeWrite src tag first count mask values => exact hd (fun s => tableWrite_logs s _ _ _ _ _) h
  | settingsWrite src tag first count mask values => exact hd (fun s => tableWrite_logs s _ _ _ _ _) h
  | tblRead src tag table first count mask => exact hd (fun s => tableRead_logs s _ _ _ _) h
  | loopLoad src tag first count flags vectors => exact hd (fun s => loopLoad_logs s _ _ _ _) h
  | stageSettle src tag => exact hd settleStage_logs h
  | stageUnsettle src tag => exact hd unsettleStage_logs h
  | stepStart src tag => exact hd startStep_logs h
  | stepStop src tag => exact hd stopStep_logs h
  | stepAbort src tag => exact hd enterHalted_logs h
  | stepClear src tag => exact hd clearStep_logs h
  | zoneClear src tag zones => exact hd (fun s => clearZones_logs s zones) h
  | socketArm src tag sockets options => exact hd (fun s => armSockets_logs s sockets options) h
  | socketRelease src tag sockets => exact hd (fun s => releaseSockets_logs s sockets) h
  | socketHold src tag sockets => exact hd (fun s => holdSockets_logs s sockets) h
  | socketRestore src tag sockets => exact hd (fun s => restoreSockets_logs s sockets) h
  | socketFail src tag sockets => exact hd (fun s => failSockets_logs s sockets) h
  | snapshot src tag => exact hd takeSnapshot_logs h
  | statusRead src tag => exact hd (fun s => .refl s) h
  | runReset src tag => exact hd resetRun_logs h
  | sampleWord word => exact ha (sampleTaken_logs s word).stores h
  | staleTimerExpiry zone quantity => exact ha (staleExpired_logs s zone quantity).stores h
  | intervalExpiry => exact ha (intervalExpired_logs s).stores h
  | rampStepExpiry zone => exact ha (rampStep_zonal s zone).logs.stores h
  | confirmTimerExpiry zone => exact ha (confirmExpired_zonal s zone).logs.stores h
  | settleTimerExpiry zone => exact hn (settleExpired_zonal s zone).logs.stores h
  | soakTimerExpiry zone => exact ha (soakExpired_zonal s zone).logs.stores h
  | graceTimerExpiry zone => exact hn (graceExpired_zonal s zone).logs.stores h
  | vectorCycle sense => exact ha (vectorCycle_logs s sense).stores h
  | vectorBoundary => exact ha (boundary_logs s).stores h
  | prbsWindowEnd lane => exact ha (endPrbsWindow_logs s lane).stores h
  | toggleWindowEnd lane => exact ha (endToggleWindow_logs s lane).stores h
  | gateExpiry socket => exact ha (gateExpired_logs s socket).stores h
  | haltLineAsserted othersPull => exact ha (lineAsserted_logs s othersPull).stores h
  | haltLineReleased => exact hn (updHalt_logs s _).stores h
  | freqLaneRisingEdge socket => exact hn (u := s.risingEdge socket) ⟨id, id⟩ h

/-- Settles O6: every command stores what it queues within the sizes and counts what it creates, drops and sends. -/
theorem stepKeepsQueueCounts : Obligations.StepKeepsQueueCounts := by
  intro s t h
  unfold step at h
  split at h
  · obtain rfl := Host.Outcome.next.inj h
    exact ⟨id, id⟩
  · rename_i c rest _
    have hstores := exec_stores h
    exact ⟨hstores.bounded, hstores.balanced⟩

end Sys2Proof.Machine
end

/-! ## The arbiter of the UP transmitter (R52, R177, R178)

What `arbitrate` serves when the transmitter is free, one lemma for each kind of traffic, and the state in which UP_TRANSMIT_END
leaves it the choice. -/

section
namespace Sys2Proof.Machine

/-- Local traffic waits at an addressed slot with a reply or a record in its queues (R173). -/
theorem localWaits_iff (s : State) :
    s.localWaits = true ↔ s.link.addressed = true ∧ (s.link.replies ≠ [] ∨ s.reports.queue ≠ []) := by
  simp [State.localWaits]

/-- The transmitter is free, with a receiver to send to (R177). -/
def State.UpFree (s : State) : Prop := s.link.upSending = none ∧ s.link.upReceiver = true

section Arbiter

variable {s : State} (hfree : s.UpFree)
include hfree

/-- A free transmitter sends forwarded traffic when local traffic was served last, or none waits. -/
theorem arbitrate_forwards {g : List Byte} {rest : List (List Byte)} (hq : s.link.upQueue = g :: rest)
    (hturn : s.link.lastServed = .locals ∨ s.localWaits = false) :
    s.arbitrate = s.updLink fun l => { l with upQueue := rest, upSending := some g, lastServed := .forward } := by
  have hserve : s.serveForward = s.updLink fun l => { l with upQueue := rest, upSending := some g, lastServed := .forward } := by
    rw [State.serveForward, hq]
  rw [← hserve, State.arbitrate, hfree.1, hfree.2, hq]
  cases hw : s.localWaits with
  | false => rfl
  | true =>
    have hlast := hturn.resolve_right (by simp [hw])
    simp [hlast]

/-- It sends local traffic when forwarded traffic was served last, or none waits. -/
theorem arbitrate_locals (hw : s.localWaits = true) (hturn : s.link.upQueue = [] ∨ s.link.lastServed = .forward) :
    s.arbitrate = s.serveLocal := by
  rw [State.arbitrate, hfree.1, hfree.2, hw]
  cases hq : s.link.upQueue with
  | nil => rfl
  | cons g rest =>
    have hlast := hturn.resolve_left (by simp [hq])
    simp [hlast]

/-- It stays free when nothing waits. -/
theorem arbitrate_idle (hq : s.link.upQueue = []) (hw : s.localWaits = false) : s.arbitrate = s := by
  rw [State.arbitrate, hfree.1, hfree.2, hq, hw]
  rfl

end Arbiter

/-- Replies pass reports (R177). -/
theorem serveLocal_reply {s : State} {r : Reply} {rest : List Reply} (h : s.link.replies = r :: rest) :
    s.serveLocal = s.updLink fun l =>
      { l with replies := rest, upSending := some (l.replyFrame r).bytes, lastServed := .locals } := by
  rw [State.serveLocal, h]

/-- A report that is sent takes the sequence number (R178) and counts as sent (R52). -/
theorem serveLocal_report {s : State} {r : Record} {rest : List Record} (h : s.link.replies = []) (hq : s.reports.queue = r :: rest) :
    s.serveLocal =
      (s.updLink fun l =>
        { l with upSending := some (l.reportFrame r).bytes, sequence := l.sequence + 1, lastServed := .locals }).updReports
        fun q => { q with queue := rest, sent := satSucc Config.countTop q.sent } := by
  rw [State.serveLocal, h]
  dsimp only
  rw [hq]

/-- Settles O23: the transmitter that UP_TRANSMIT_END frees is the arbiter's to give. -/
theorem upArbiterAlternates : Obligations.UpArbiterAlternates := by
  intro s hreceiver localTraffic
  have hfree : s.upEnded.UpFree := ⟨rfl, hreceiver⟩
  have hwaits : s.upEnded.localWaits = true ↔ localTraffic := localWaits_iff s.upEnded
  have hsilent : ¬ localTraffic → s.upEnded.localWaits = false := fun h => Bool.eq_false_iff.mpr (mt hwaits.mp h)
  have hrun : ∀ {t : State}, s.upEnded.arbitrate = t → exec .upTransmitEnd s = .next t := fun h => congrArg Host.Outcome.next h
  refine ⟨fun g rest hq hturn => ?_, fun ha hturn => ⟨fun r rest hq => ?_, fun r rest hnone hq => ?_⟩, fun hq hno => ?_⟩
  · exact hrun (arbitrate_forwards hfree hq (hturn.imp id hsilent))
  · have hlocal : localTraffic := ⟨ha, .inl (by simp [hq])⟩
    exact hrun ((arbitrate_locals hfree (hwaits.mpr hlocal) hturn).trans (serveLocal_reply hq))
  · have hlocal : localTraffic := ⟨ha, .inr (by simp [hq])⟩
    exact hrun ((arbitrate_locals hfree (hwaits.mpr hlocal) hturn).trans (serveLocal_report hnone hq))
  · exact hrun (arbitrate_idle hfree hq (hsilent hno))

end Sys2Proof.Machine
end

/-! ## A voltage sample at the rails (R54, R73, R78 to R80, R83, R84)

The rails of other zones that a zone's HOLD or trip sets moving leave that zone's own record alone (`…_zone`), set no latch or
qualification flag back, and create records after its own (`Recedes`). -/

section
namespace Sys2Proof.Machine

/-! ### Moves that take latches and flags one way -/

/-- No latch of `l` that a rail or thermal notice sets is clear in `l'`. -/
def Latches.Within (l l' : Latches) : Prop := (l.rail = true → l'.rail = true) ∧ (l.thermal = true → l'.thermal = true)

theorem Latches.Within.refl (l : Latches) : l.Within l := ⟨id, id⟩

theorem setLatch_within (l : Latches) (a : Latch) : l.Within (l.setLatch a) := by
  cases a <;> simp [Latches.Within, Latches.setLatch]

/-- From `s` to `t` no latch is cleared and no socket qualified, sockets stay in their zones, and records are created. -/
structure State.Recedes (s t : State) : Prop where
  settings : t.settings = s.settings
  records : ∃ rs : List Record, t.reports = s.created rs
  latches (z : ZoneId) : (s.zone z).latches.Within (t.zone z).latches
  home (i : SocketId) : (t.socket i).zone = (s.socket i).zone
  unqualified (i : SocketId) : (s.socket i).qualified = false → (t.socket i).qualified = false

theorem State.Recedes.refl (s : State) : s.Recedes s := ⟨rfl, ⟨[], rfl⟩, fun _ => .refl _, fun _ => rfl, fun _ => id⟩

theorem State.Recedes.trans {s t u : State} (h : s.Recedes t) (h' : t.Recedes u) : s.Recedes u where
  settings := h'.settings.trans h.settings
  records := by
    obtain ⟨rs, hr⟩ := h.records
    obtain ⟨rs', hr'⟩ := h'.records
    exact ⟨rs ++ rs', hr'.trans (created_append hr h.settings rs')⟩
  latches z := ⟨(h'.latches z).1 ∘ (h.latches z).1, (h'.latches z).2 ∘ (h.latches z).2⟩
  home i := (h'.home i).trans (h.home i)
  unqualified i := h'.unqualified i ∘ h.unqualified i

/-- What moves neither sockets nor zones, settings nor reports. -/
theorem recedes_of_eq {s t : State} (hs : t.settings = s.settings) (hr : t.reports = s.reports) (hz : t.zones = s.zones)
    (hk : t.sockets = s.sockets) : s.Recedes t := by
  refine ⟨hs, ⟨[], hr⟩, fun z => ?_, fun i => ?_, fun i h => ?_⟩
  · rw [State.zone, State.zone, hz]; exact .refl _
  · rw [State.socket, State.socket, hk]
  · rw [State.socket, hk]; exact h

theorem ite_recedes {p : Prop} [Decidable p] {s t : State} (h : s.Recedes t) : s.Recedes (if p then t else s) := by
  split
  · exact h
  · exact .refl s

section Moves

variable (s : State)

theorem report_recedes (r : Record) : s.Recedes (s.report r) where
  settings := report_settings ..
  records := ⟨[r], created_one s r⟩
  latches z := by rw [report_zone]; exact .refl _
  home i := by rw [report_socket]
  unqualified i h := by rwa [report_socket]

theorem reportZone_recedes (z : ZoneId) (e : ZoneEvent) : s.Recedes (s.reportZone z e) := report_recedes ..

theorem updZone_recedes (z : ZoneId) (f : Zone → Zone) (h : (f (s.zone z)).latches = (s.zone z).latches) :
    s.Recedes (s.updZone z f) where
  settings := rfl
  records := ⟨[], rfl⟩
  latches w := by
    rw [State.updZone_zone]
    split
    · subst_vars; rw [h]; exact .refl _
    · exact .refl _
  home _ := rfl
  unqualified _ := id

theorem updRail_recedes (z : ZoneId) (f : Rail → Rail) : s.Recedes (s.updRail z f) := updZone_recedes s z _ rfl

theorem notice_recedes (l : Latch) (named : ZoneId → Bool) : s.Recedes (s.notice l named) where
  settings := rfl
  records := ⟨[], rfl⟩
  latches z := by
    rw [notice_zone]
    split
    · exact setLatch_within ..
    · exact .refl _
  home i := by rw [notice_socket]; split <;> rfl
  unqualified i h := by
    rw [notice_socket]
    split
    · rfl
    · exact h

theorem evaluateSwitches_recedes (named : SocketId → Bool) : s.Recedes (s.evaluateSwitches named) where
  settings := rfl
  records := ⟨[], rfl⟩
  latches _ := .refl _
  home i := by
    rw [evaluateSwitches_socket]
    split
    · rw [switched_cases]
    · rfl
  unqualified i h := by
    rw [evaluateSwitches_socket]
    split
    · exact Bool.eq_false_iff.mpr fun hq => Bool.eq_false_iff.mp h (switched_follows _ _ hq).1
    · exact h

theorem enterRail_recedes (z : ZoneId) (new : RailState) : s.Recedes (s.enterRail z new) := by
  have henter : s.Recedes (s.updZone z fun v =>
      { v with
        rail := { v.rail with state := new }
        driving := new.ungated && (v.driving || (!(s.zone z).rail.state.ungated && decide (s.engine.state = .stopped))) }) :=
    updZone_recedes s z _ rfl
  exact (henter.trans (ite_recedes (notice_recedes ..))).trans (ite_recedes (evaluateSwitches_recedes ..))

theorem testStopping_recedes : s.Recedes s.testStopping :=
  ite_recedes ((recedes_of_eq rfl rfl rfl rfl : s.Recedes (s.updStep StepCtl.toIdle)).trans (report_recedes ..))

theorem retestUp_recedes (z : ZoneId) : s.Recedes (s.retestUp z) :=
  ite_recedes (((updRail_recedes s z _).trans (updZone_recedes _ z _ rfl)).trans (enterRail_recedes ..))

theorem retestAllUp_recedes : s.Recedes s.retestAllUp :=
  forEach_keeps (P := s.Recedes) (fun z _ t ht => ht.trans (retestUp_recedes t z)) (.refl s)

theorem endSearchAbandoned_recedes (z : ZoneId) : s.Recedes (s.endSearchAbandoned z) :=
  (reportZone_recedes ..).trans (updZone_recedes _ z _ rfl)

theorem enterOff_recedes (z : ZoneId) : s.Recedes (s.enterOff z) :=
  ((updRail_recedes s z _).trans (enterRail_recedes ..)).trans (testStopping_recedes _)

theorem beginPowerDown_recedes (z : ZoneId) : s.Recedes (s.beginPowerDown z) :=
  (((ite_recedes ((endSearchAbandoned_recedes ..).trans (evaluateSwitches_recedes ..))).trans (updRail_recedes _ z _)).trans
    (enterRail_recedes ..)).trans (ite_recedes (enterOff_recedes ..))

theorem freely_recedes {α : Type} (xs : List α) : s.Recedes (freely xs s).2 := by
  rw [freely_state]; exact recedes_of_eq rfl rfl rfl rfl

theorem retestDown_recedes (fuel : Nat) : s.Recedes (State.retestDown fuel s) := by
  induction fuel generalizing s with
  | zero => exact .refl s
  | succ fuel ih =>
    have h := freely_recedes s (allZones.filter fun z => s.readyDown z)
    unfold State.retestDown
    split <;> rename_i e <;> rw [e] at h
    · exact h
    · exact (h.trans (beginPowerDown_recedes ..)).trans (ih _)

theorem retestAllDown_recedes : s.Recedes s.retestAllDown := retestDown_recedes ..

end Moves

/-! ### The other zones' rails -/

section Zones

variable {z : ZoneId}

theorem noticeZone_zone_other (s : State) (l : Latch) {w : ZoneId} (h : z ≠ w) : (s.noticeZone l w).zone z = s.zone z := by
  rw [State.noticeZone, notice_zone, if_neg (by simpa using h)]

/-- A rail that enters a state moves its own zone's record alone, -/
theorem enterRail_zone_other (s : State) {w : ZoneId} (h : z ≠ w) (new : RailState) : (s.enterRail w new).zone z = s.zone z := by
  have hz : ∀ f : Zone → Zone, (s.updZone w f).zone z = s.zone z := fun f => by rw [State.updZone_zone, if_neg h.symm]
  have he : ∀ t : State, (t.evaluateZoneSwitches w).zone z = t.zone z := fun _ => rfl
  unfold State.enterRail
  dsimp only
  (repeat' split) <;> simp only [he, noticeZone_zone_other _ _ h, hz]

/-- and of that the rail's state, the gating of its lanes and its latches. -/
theorem enterRail_zone_same (s : State) (z : ZoneId) (new : RailState) :
    (s.enterRail z new).zone z = { s.zone z with
      rail := { (s.zone z).rail with state := new }
      driving := ((s.enterRail z new).zone z).driving
      latches := ((s.enterRail z new).zone z).latches } := by
  have he : ∀ t : State, (t.evaluateZoneSwitches z).zone z = t.zone z := fun _ => rfl
  unfold State.enterRail
  dsimp only
  (repeat' split) <;>
    simp only [he, State.noticeZone, notice_zone, State.updZone_zone_same, beq_self_eq_true, if_true]

theorem enterRail_reports (s : State) (z : ZoneId) (new : RailState) : (s.enterRail z new).reports = s.reports := by
  unfold State.enterRail
  dsimp only
  (repeat' split) <;> rfl

theorem testStopping_zone (s : State) (z : ZoneId) : s.testStopping.zone z = s.zone z := by
  unfold State.testStopping
  split
  · exact report_zone ..
  · rfl

theorem startPowerUp_zone_other (s : State) {w : ZoneId} (h : z ≠ w) : (s.startPowerUp w).zone z = s.zone z := by
  rw [State.startPowerUp, enterRail_zone_other _ h, State.updValues, State.updZone_zone, if_neg h.symm, State.updRail,
    State.updZone_zone, if_neg h.symm]

/-- A test for power-up leaves a zone that does not wait for it (R73). -/
theorem retestUp_zone {s : State} (h : (s.zone z).rail.waiting ≠ .powerUp) (w : ZoneId) : (s.retestUp w).zone z = s.zone z := by
  unfold State.retestUp
  split
  · rename_i hready
    refine startPowerUp_zone_other s fun e => h ?_
    simp only [State.readyUp, Bool.and_eq_true, decide_eq_true_eq] at hready
    exact e ▸ hready.1.1
  · rfl

theorem retestAllUp_zone {s : State} (h : (s.zone z).rail.waiting ≠ .powerUp) : s.retestAllUp.zone z = s.zone z :=
  forEach_keeps (P := fun t => t.zone z = s.zone z) (fun w _ _ ht => (retestUp_zone (ht ▸ h) w).trans ht) rfl

/-- A start of power-up creates no record (R74). -/
theorem retestAllUp_reports (s : State) : s.retestAllUp.reports = s.reports := by
  refine forEach_keeps (P := fun t => t.reports = s.reports) (fun w _ t ht => ?_) rfl
  unfold State.retestUp
  split
  · exact (enterRail_reports ..).trans ht
  · exact ht

theorem endSearchAbandoned_zone_other (s : State) {w : ZoneId} (h : z ≠ w) : (s.endSearchAbandoned w).zone z = s.zone z := by
  rw [State.endSearchAbandoned, State.updSearch, State.updZone_zone, if_neg h.symm, State.reportZone, report_zone]

theorem enterOff_zone_other (s : State) {w : ZoneId} (h : z ≠ w) : (s.enterOff w).zone z = s.zone z := by
  rw [State.enterOff, testStopping_zone, enterRail_zone_other _ h, State.updRail, State.updZone_zone, if_neg h.symm]

theorem beginPowerDown_zone_other (s : State) {w : ZoneId} (h : z ≠ w) : (s.beginPowerDown w).zone z = s.zone z := by
  have habandon : (s.abandonSearch w).zone z = s.zone z := endSearchAbandoned_zone_other s h
  have hramp : ∀ (t : State) (f : Rail → Rail), ((t.updRail w f).enterRail w .ramping).zone z = t.zone z := fun t f => by
    rw [enterRail_zone_other _ h, State.updRail, State.updZone_zone, if_neg h.symm]
  unfold State.beginPowerDown
  dsimp only
  (repeat' split) <;> simp only [enterOff_zone_other _ h, hramp, habandon]

/-- A test for power-down leaves a zone that does not wait for it (R78). -/
theorem retestDown_zone {s : State} (h : (s.zone z).rail.waiting ≠ .powerDown) (fuel : Nat) :
    (State.retestDown fuel s).zone z = s.zone z := by
  induction fuel generalizing s with
  | zero => rfl
  | succ fuel ih =>
    have hzone : (freely (allZones.filter fun z => s.readyDown z) s).2.zone z = s.zone z := by rw [freely_state]; rfl
    have hperm := freely_perm (allZones.filter fun z => s.readyDown z) s
    unfold State.retestDown
    split
    · rename_i e
      rwa [e] at hzone
    · rename_i w rest t e
      rw [e] at hzone hperm
      have hready : s.readyDown w = true := (List.mem_filter.mp (hperm.subset List.mem_cons_self)).2
      have hne : z ≠ w := fun e => h (by
        simp only [State.readyDown, Bool.and_eq_true, decide_eq_true_eq] at hready
        exact e ▸ hready.1.1)
      have hdown := (beginPowerDown_zone_other t hne).trans hzone
      exact (ih (by rw [hdown]; exact h)).trans hdown

theorem retestAllDown_zone {s : State} (h : (s.zone z).rail.waiting ≠ .powerDown) : s.retestAllDown.zone z = s.zone z :=
  retestDown_zone h 4

end Zones

end Sys2Proof.Machine
end

section
namespace Sys2Proof.Machine

/-! ### A notice (R23) -/

/-- A notice disturbs its zone: the latch is set, and no socket of the zone is qualified. -/
theorem noticeZone_latches (s : State) (l : Latch) (z : ZoneId) :
    ((s.noticeZone l z).zone z).latches = (s.zone z).latches.setLatch l := by
  rw [State.noticeZone, notice_zone, if_pos (beq_self_eq_true z)]

theorem noticeZone_unqualified (s : State) (l : Latch) {z : ZoneId} {i : SocketId} (h : (s.socket i).zone = z) :
    ((s.noticeZone l z).socket i).qualified = false := by
  rw [State.noticeZone, notice_socket, if_pos (by rw [h, beq_self_eq_true])]

/-- A notice moves no more of its zone than the latches. -/
theorem noticeZone_zone (s : State) (l : Latch) (z : ZoneId) :
    (s.noticeZone l z).zone z = { s.zone z with latches := (s.zone z).latches.setLatch l } := by
  rw [State.noticeZone, notice_zone, if_pos (beq_self_eq_true z)]

/-! ### A trip (R83, R84) -/

/-- A ZONE record of the zone's values as they stand (R54). -/
def State.zoneRecord (s : State) (z : ZoneId) (event : ZoneEvent) : Record :=
  let v := (s.zone z).values
  .zone z event s.runSeconds v.voltage v.current v.temperature

theorem reportZone_eq (s : State) (z : ZoneId) (e : ZoneEvent) : s.reportZone z e = s.report (s.zoneRecord z e) := rfl

/-- A rail record that a trip has cut off, before the rail enters TRIPPED (R84). -/
def Rail.cut (r : Rail) (cause : TripCause) : Rail :=
  { r with setpoint := 0, rampTimer := false, confirmTimer := false, tripCause := some cause, oowCount := 0, waiting := .none }

/-- A rail enters TRIPPED, with the record of its trip (R84). -/
def State.enterTripped (s : State) (z : ZoneId) (cause : TripCause) : State :=
  ((s.updRail z fun r => r.cut cause).enterRail z .tripped).reportZone z (.railTripped cause)

/-- A trip that is no HALT source: a search ends first, and the zones that the trip releases are tested last (R84). -/
theorem trip_eq {s : State} {z : ZoneId} {cause : TripCause} (h : (s.zone z).rail.state ≠ .tripped) (hc : cause ≠ .overcurrent) :
    s.trip z cause =
      ((if (s.zone z).search.phase = .idle then s else s.endSearchAbandoned z).enterTripped z cause).testStopping.retestAllDown := by
  unfold State.trip
  dsimp only
  rw [if_neg h, if_neg hc]
  rfl

theorem enterTripped_recedes (s : State) (z : ZoneId) (cause : TripCause) : s.Recedes (s.enterTripped z cause) :=
  ((updRail_recedes s z _).trans (enterRail_recedes ..)).trans (reportZone_recedes ..)

theorem enterTripped_zone (s : State) (z : ZoneId) (cause : TripCause) :
    ((s.enterTripped z cause).zone z).rail = { (s.zone z).rail.cut cause with state := .tripped } ∧
      ((s.enterTripped z cause).zone z).heat = (s.zone z).heat := by
  rw [State.enterTripped, State.reportZone, report_zone, enterRail_zone_same, State.updRail, State.updZone_zone_same]
  exact ⟨rfl, rfl⟩

/-- The first record of a trip out of no search is the trip's (R84). -/
theorem enterTripped_reports (s : State) (z : ZoneId) (cause : TripCause) :
    (s.enterTripped z cause).reports = s.created [s.zoneRecord z (.railTripped cause)] := by
  have hentry := (updRail_recedes s z fun r => r.cut cause).trans (enterRail_recedes _ z .tripped)
  have hreports : ((s.updRail z fun r => r.cut cause).enterRail z .tripped).reports = s.reports := enterRail_reports ..
  have hrun : ((s.updRail z fun r => r.cut cause).enterRail z .tripped).runSeconds = s.runSeconds := by
    rw [(enterRail_zonal _ z .tripped).frame]; rfl
  have hrecord : ((s.updRail z fun r => r.cut cause).enterRail z .tripped).zoneRecord z (.railTripped cause) =
      s.zoneRecord z (.railTripped cause) := by
    rw [State.zoneRecord, State.zoneRecord, hrun, enterRail_zone_same, State.updRail, State.updZone_zone_same]
  rw [State.enterTripped, reportZone_eq, hrecord]
  exact report_created (rs := []) hreports hentry.settings _

theorem trip_recedes (s : State) (z : ZoneId) {cause : TripCause} (hc : cause ≠ .overcurrent) : s.Recedes (s.trip z cause) := by
  by_cases h : (s.zone z).rail.state = .tripped
  · rw [trip_tripped h]; exact .refl s
  · have hsearch : s.Recedes (if (s.zone z).search.phase = .idle then s else s.endSearchAbandoned z) := by
      split
      · exact .refl s
      · exact endSearchAbandoned_recedes ..
    rw [trip_eq h hc]
    exact ((hsearch.trans (enterTripped_recedes ..)).trans (testStopping_recedes _)).trans (retestAllDown_recedes _)

/-- What a trip makes of its zone's rail; the zone's heat stands (R84). -/
theorem trip_zone {s : State} {z : ZoneId} {cause : TripCause} (h : (s.zone z).rail.state ≠ .tripped) (hc : cause ≠ .overcurrent) :
    ((s.trip z cause).zone z).rail = { (s.zone z).rail.cut cause with state := .tripped } ∧
      ((s.trip z cause).zone z).heat = (s.zone z).heat := by
  have htail : ∀ t : State, (t.zone z).rail = (s.zone z).rail → (t.zone z).heat = (s.zone z).heat →
      (((t.enterTripped z cause).testStopping.retestAllDown).zone z).rail =
          { (s.zone z).rail.cut cause with state := .tripped } ∧
        (((t.enterTripped z cause).testStopping.retestAllDown).zone z).heat = (s.zone z).heat := fun t hrail hheat => by
    obtain ⟨hr, hh⟩ := enterTripped_zone t z cause
    have hwait : ((t.enterTripped z cause).testStopping.zone z).rail.waiting ≠ .powerDown := by
      rw [testStopping_zone, hr]; exact nofun
    rw [retestAllDown_zone hwait, testStopping_zone, hr, hh, hrail, hheat]
    exact ⟨rfl, rfl⟩
  rw [trip_eq h hc]
  split
  · exact htail s rfl rfl
  · refine htail _ ?_ ?_ <;>
      rw [State.endSearchAbandoned, State.updSearch, State.updZone_zone_same, State.reportZone, report_zone]

/-- Out of no search a trip's own record comes first (R54, R84). -/
theorem trip_reports {s : State} {z : ZoneId} {cause : TripCause} (h : (s.zone z).rail.state ≠ .tripped) (hc : cause ≠ .overcurrent)
    (hidle : (s.zone z).search.phase = .idle) :
    ∃ later : List Record, (s.trip z cause).reports = s.created (s.zoneRecord z (.railTripped cause) :: later) := by
  obtain ⟨later, hlater⟩ := ((testStopping_recedes (s.enterTripped z cause)).trans (retestAllDown_recedes _)).records
  refine ⟨later, ?_⟩
  rw [trip_eq h hc, if_pos hidle, hlater]
  exact created_append (enterTripped_reports s z cause) (enterTripped_recedes s z cause).settings later

/-! ### Confirmation (R79) and regulation (R80) -/

/-- Confirmation: the rail enters HOLD with one record, and the tests for power-up leave it (R73, R79). -/
theorem enterHold_confirms {s : State} {z : ZoneId} (hwait : (s.zone z).rail.waiting ≠ .powerUp) (event : ZoneEvent) :
    ((s.enterHold z event).zone z).rail = { (s.zone z).rail with state := .hold, confirmTimer := false, oowCount := 0 } ∧
      (s.enterHold z event).reports = s.created [s.zoneRecord z event] := by
  let entered := (s.updRail z fun r => { r with confirmTimer := false, oowCount := 0 }).enterRail z .hold
  have hzone : entered.zone z = { s.zone z with
      rail := { (s.zone z).rail with state := .hold, confirmTimer := false, oowCount := 0 }
      driving := (entered.zone z).driving, latches := (entered.zone z).latches } := by
    refine (enterRail_zone_same ..).trans ?_
    rw [State.updRail, State.updZone_zone_same]
    rfl
  have hrecord : entered.zoneRecord z event = s.zoneRecord z event := by
    have hrun : entered.runSeconds = s.runSeconds := by
      change (State.enterRail _ z .hold).runSeconds = _
      rw [(enterRail_zonal _ z .hold).frame]; rfl
    rw [State.zoneRecord, State.zoneRecord, hrun, hzone]
  have hset : entered.settings = s.settings := ((updRail_recedes s z _).trans (enterRail_recedes ..)).settings
  have hwaits : ((entered.reportZone z event).zone z).rail.waiting ≠ .powerUp := by
    rw [State.reportZone, report_zone, hzone]; exact hwait
  refine ⟨?_, ?_⟩
  · change ((entered.reportZone z event).retestAllUp.zone z).rail = _
    rw [retestAllUp_zone hwaits, State.reportZone, report_zone, hzone]
  · change (entered.reportZone z event).retestAllUp.reports = _
    rw [retestAllUp_reports, reportZone_eq, hrecord]
    exact report_created (rs := []) (enterRail_reports ..) hset _

/-- A zone in HOLD with a sample outside its window: the sample counts, and the zone is disturbed (R80). -/
def State.outOfWindow (s : State) (z : ZoneId) : State :=
  (s.updRail z fun r => { r with oowCount := r.oowCount + 1 }).noticeZone .rail z

theorem outOfWindow_zone (s : State) (z : ZoneId) :
    (s.outOfWindow z).zone z = { s.zone z with
      rail := { (s.zone z).rail with oowCount := (s.zone z).rail.oowCount + 1 }
      latches := { (s.zone z).latches with rail := true } } := by
  rw [State.outOfWindow, noticeZone_zone, State.updRail, State.updZone_zone_same]
  rfl

/-- The window sides as the sample lies (R79, R80). -/
theorem windowSide_cases (setpoint window mv : Nat) :
    (mv + window < setpoint ∧ windowSide setpoint window mv = some .low) ∨
    (¬ mv + window < setpoint ∧ setpoint + window < mv ∧ windowSide setpoint window mv = some .high) ∨
    (¬ mv + window < setpoint ∧ ¬ setpoint + window < mv ∧ windowSide setpoint window mv = none) := by
  unfold windowSide
  (repeat' split) <;> simp_all

section Sides

variable {s : State} {z : ZoneId} {mv : Nat} {side : Side}

/-- A voltage sample in CONFIRMING: in the window it confirms, and the side of one outside is noted (R79). -/
theorem voltageSample_confirms (confirming : (s.zone z).rail.state = .confirming)
    (hside : windowSide (s.zone z).rail.setpoint (s.zone z).cfg.windowMv mv = none) :
    s.voltageSample z mv = s.enterHold z .railHold := by
  simp only [State.voltageSample, confirming, hside]

theorem voltageSample_notes (confirming : (s.zone z).rail.state = .confirming)
    (hside : windowSide (s.zone z).rail.setpoint (s.zone z).cfg.windowMv mv = some side) :
    s.voltageSample z mv = s.updRail z fun r => { r with side := some side } := by
  simp only [State.voltageSample, confirming, hside]

/-- One in HOLD in the window clears the count (R80). -/
theorem voltageSample_clears (hold : (s.zone z).rail.state = .hold)
    (hside : windowSide (s.zone z).rail.setpoint (s.zone z).cfg.windowMv mv = none) :
    s.voltageSample z mv = s.updRail z fun r => { r with oowCount := 0 } := by
  simp only [State.voltageSample, hold, hside]

/-- A voltage sample in HOLD outside the window (R80), on the side that it lies on. -/
theorem voltageSample_outside (hold : (s.zone z).rail.state = .hold)
    (hside : windowSide (s.zone z).rail.setpoint (s.zone z).cfg.windowMv mv = some side) :
    s.voltageSample z mv =
      if (s.zone z).cfg.regCount ≤ (s.zone z).rail.oowCount + 1 then (s.outOfWindow z).trip z side.tripCause
      else s.outOfWindow z := by
  unfold State.voltageSample
  dsimp only
  rw [hold, hside]
  rfl

end Sides

end Sys2Proof.Machine
end

section
namespace Sys2Proof.Machine

/-- What a sample outside the window does in HOLD (R80): it counts and disturbs, and at reg_count the rail trips. -/
theorem voltageSample_regulates {s : State} {z : ZoneId} {mv : Nat} {side : Side} (hc : (s.zone z).RailConsistent)
    (hold : (s.zone z).rail.state = .hold)
    (hside : windowSide (s.zone z).rail.setpoint (s.zone z).cfg.windowMv mv = some side) :
    let v := s.zone z
    let u := s.voltageSample z mv
    (u.zone z).latches.rail = true ∧
    (∀ i : SocketId, (s.socket i).zone = z → (u.socket i).qualified = false) ∧
    (v.rail.oowCount + 1 < v.cfg.regCount →
      (u.zone z).rail = { v.rail with oowCount := v.rail.oowCount + 1 } ∧ u.reports = s.reports) ∧
    (v.cfg.regCount ≤ v.rail.oowCount + 1 →
      (u.zone z).rail.state = .tripped ∧ (u.zone z).rail.setpoint = 0 ∧ (u.zone z).rail.tripCause = some side.tripCause ∧
        ∃ later : List Record, u.reports = s.created (s.zoneRecord z (.railTripped side.tripCause) :: later)) := by
  intro v u
  have hcause : side.tripCause ≠ .overcurrent := by cases side <;> exact nofun
  have hzone := outOfWindow_zone s z
  have hstate : ((s.outOfWindow z).zone z).rail.state ≠ .tripped := by rw [hzone]; simp [hold]
  have hrun : u = if v.cfg.regCount ≤ v.rail.oowCount + 1 then (s.outOfWindow z).trip z side.tripCause else s.outOfWindow z :=
    voltageSample_outside hold hside
  have hrecedes : (s.outOfWindow z).Recedes u := by rw [hrun]; exact ite_recedes (trip_recedes _ z hcause)
  refine ⟨(hrecedes.latches z).1 (by rw [hzone]), fun i hi => hrecedes.unqualified i (noticeZone_unqualified _ _ hi),
    fun hlow => ?_, fun htrip => ?_⟩
  · rw [hrun, if_neg (Nat.not_le.mpr hlow), hzone]
    exact ⟨rfl, rfl⟩
  · rw [hrun, if_pos htrip]
    obtain ⟨hrail, -⟩ := trip_zone hstate hcause
    rw [hrail]
    refine ⟨rfl, rfl, rfl, ?_⟩
    obtain ⟨-, -, -, -, hsearch, -⟩ := hc
    have hidle : (s.zone z).search.phase = .idle := by rw [hsearch, hold]; exact nofun
    have hrecord : (s.outOfWindow z).zoneRecord z (.railTripped side.tripCause) = s.zoneRecord z (.railTripped side.tripCause) := by
      rw [State.zoneRecord, hzone]; rfl
    have hreports := trip_reports hstate hcause (by rw [hzone]; exact hidle)
    rw [hrecord] at hreports
    exact hreports

/-- Settles O50: the sample lies in the window or on a side of it, and the rail's state says what that does. -/
theorem voltageSampleRegulates : Obligations.VoltageSampleRegulates := by
  intro z mv s v low high u zoneRecord hc
  have hwait : v.rail.state = .confirming → v.rail.waiting ≠ .powerUp := fun hstate e => by
    obtain ⟨-, -, hup, -⟩ := hc
    exact nomatch hstate.symm.trans (hup e)
  refine ⟨fun hstate => ?_, fun hstate => ?_, fun hstate => ?_⟩
  · obtain ⟨hlow, hside⟩ | ⟨hlow, hhigh, hside⟩ | ⟨hlow, hhigh, hside⟩ := windowSide_cases v.rail.setpoint v.cfg.windowMv mv
    · exact ⟨fun h => absurd hlow h, fun _ => voltageSample_notes hstate hside,
        fun h => absurd hlow (by dsimp only [high] at h; omega)⟩
    · exact ⟨fun _ h => absurd hhigh h, fun h => absurd h hlow, fun _ => voltageSample_notes hstate hside⟩
    · refine ⟨fun _ _ => ?_, fun h => absurd h hlow, fun h => absurd h hhigh⟩
      rw [show u = s.enterHold z .railHold from voltageSample_confirms hstate hside]
      exact enterHold_confirms (hwait hstate) .railHold
  · obtain ⟨hlow, hside⟩ | ⟨hlow, hhigh, hside⟩ | ⟨hlow, hhigh, hside⟩ := windowSide_cases v.rail.setpoint v.cfg.windowMv mv
    · refine ⟨fun h => absurd hlow h, fun _ => ?_⟩
      have hreg := voltageSample_regulates hc hstate hside
      dsimp only
      rw [if_pos hlow]
      exact hreg
    · refine ⟨fun _ h => absurd hhigh h, fun _ => ?_⟩
      have hreg := voltageSample_regulates hc hstate hside
      dsimp only
      rw [if_neg hlow]
      exact hreg
    · exact ⟨fun _ _ => voltageSample_clears hstate hside, fun h => absurd h (not_or.mpr ⟨hlow, hhigh⟩)⟩
  · change s.voltageSample z mv = s
    rcases hstate with h | h | h | h <;> simp only [State.voltageSample, show (s.zone z).rail.state = _ from h]

end Sys2Proof.Machine
end

/-! ## A temperature sample at the heat controller (R107, R109 to R116)

Below hard_limit a sample moves its own zone's heat, with records and a disturbance that go with the thermal states it passes
(`Heated`); at or above it, the rail's trip follows. -/

section
namespace Sys2Proof.Machine

/-! ### The thermal states a sample gives -/

/-- The heat of a zone on a side of the band (R107, R109). -/
def Heat.towards (h : Heat) (side : Side) : Heat :=
  { h with
    state := (match side with
      | .low => .heating
      | .high => .cooling)
    soak := none
    grace := none
    side := some side }

/-- The heat of a zone in STABLE (R107, R110, R111). -/
def Heat.settled (h : Heat) : Heat := { h with state := .stable, soak := none, grace := none, side := none }

/-- The heat of a zone placed by the side of the band that the temperature lies on, if any (R107, R109). -/
def Heat.placed (h : Heat) (c : ZoneCfg) : Option Side → Heat
  | some side => h.towards side
  | none => if c.soakS = 0 then h.settled else { h with state := .soaking, soak := some c.soakS, grace := none, side := none }

/-- The heat of a zone that has left STABLE on a side of the band (R111). -/
def Heat.excursed (h : Heat) (graceS : Nat) (side : Side) : Heat :=
  if graceS = 0 then h.towards side
  else { h with state := .excursion, soak := none, grace := some graceS, side := some side }

/-- The heat of a zone in OVERTEMP (R112). -/
def Heat.overheated (h : Heat) : Heat := { h with state := .overtemp, duty := 0, soak := none, grace := none, side := none }

/-- A zone placed in the band with soak_s 0 is STABLE at once, with the record of that (R107, R109). -/
def ZoneCfg.placing (c : ZoneCfg) (side : Option Side) (r : Record) : List Record :=
  if side.isNone && c.soakS == 0 then [r] else []

theorem placed_lawful (h : Heat) (c : ZoneCfg) (side : Option Side) : (h.placed c side).state.lawful = true := by
  cases side with
  | none => rw [Heat.placed]; split <;> rfl
  | some side => cases side <;> rfl

theorem placed_target (h : Heat) (c : ZoneCfg) (side : Option Side) : (h.placed c side).target = h.target := by
  cases side with
  | none => rw [Heat.placed]; split <;> rfl
  | some side => rfl

theorem towards_lawful (h : Heat) (side : Side) : (h.towards side).state.lawful = true := by cases side <;> rfl

theorem elim_towards_lawful {h : Heat} (side : Option Side) (hlawful : h.state.lawful = true) :
    (side.elim h h.towards).state.lawful = true := by
  cases side with
  | none => exact hlawful
  | some side => exact towards_lawful h side

theorem excursed_lawful (h : Heat) (graceS : Nat) (side : Side) : (h.excursed graceS side).state.lawful = true := by
  rw [Heat.excursed]
  split
  · exact towards_lawful h side
  · rfl

/-! ### Moves of one zone's heat -/

/-- From `s` to `t` the heat of zone `z` becomes `h` and the records `rs` are created; the zone is disturbed if `d`. -/
structure State.Heated (s : State) (z : ZoneId) (d : Bool) (h : Heat) (rs : List Record) (t : State) : Prop where
  recedes : s.Recedes t
  zone : t.zone z = { s.zone z with heat := h, latches := (t.zone z).latches }
  disturbed : d = true →
    (t.zone z).latches.thermal = true ∧ ∀ i : SocketId, (s.socket i).zone = z → (t.socket i).qualified = false
  step : t.step = s.step
  runSeconds : t.runSeconds = s.runSeconds
  reports : t.reports = s.created rs

namespace State.Heated

variable {s t : State} {z : ZoneId} {d : Bool} {h : Heat} {rs : List Record}

theorem refl (s : State) (z : ZoneId) : s.Heated z false (s.zone z).heat [] s :=
  ⟨.refl s, rfl, nofun, rfl, rfl, rfl⟩

/-- The records of a zone tell values that no move of its heat changes. -/
theorem zoneRecord (k : s.Heated z d h rs t) (e : ZoneEvent) : t.zoneRecord z e = s.zoneRecord z e := by
  rw [State.zoneRecord, State.zoneRecord, k.runSeconds, k.zone]

theorem cfg (k : s.Heated z d h rs t) : (t.zone z).cfg = (s.zone z).cfg := by rw [k.zone]

theorem heat (k : s.Heated z d h rs t) : (t.zone z).heat = h := by rw [k.zone]

theorem rail (k : s.Heated z d h rs t) : (t.zone z).rail = (s.zone z).rail := by rw [k.zone]

/-- What moves the same zone on, and leaves the disturbance. -/
theorem next {u : State} {h' : Heat} {rs' : List Record} (k : s.Heated z d h rs t) (hrecedes : t.Recedes u)
    (hzone : u.zone z = { t.zone z with heat := h', latches := (u.zone z).latches }) (hstep : u.step = t.step)
    (hrun : u.runSeconds = t.runSeconds) (hreports : u.reports = t.created rs') : s.Heated z d h' (rs ++ rs') u where
  recedes := k.recedes.trans hrecedes
  zone := by rw [hzone, k.zone]
  disturbed hd := ⟨(hrecedes.latches z).2 (k.disturbed hd).1, fun i hi => hrecedes.unqualified i ((k.disturbed hd).2 i hi)⟩
  step := hstep.trans k.step
  runSeconds := hrun.trans k.runSeconds
  reports := hreports.trans (created_append k.reports k.recedes.settings rs')

theorem upd (k : s.Heated z d h rs t) (f : Heat → Heat) : s.Heated z d (f h) rs (t.updHeat z f) := by
  have hnext := k.next (u := t.updHeat z f) (h' := f h) (rs' := []) (updZone_recedes t z _ rfl)
    (by rw [State.updHeat_zone_same, k.heat]) rfl rfl rfl
  rwa [List.append_nil] at hnext

theorem record (k : s.Heated z d h rs t) (e : ZoneEvent) : s.Heated z d h (rs ++ [s.zoneRecord z e]) (t.reportZone z e) := by
  rw [reportZone_eq, k.zoneRecord]
  exact k.next (report_recedes ..) (by rw [report_zone, k.zone]) (by rw [report_state]) (by rw [report_state]) (created_one ..)

theorem notice (k : s.Heated z d h rs t) : s.Heated z true h rs (t.noticeZone .thermal z) := by
  have hnext := k.next (u := t.noticeZone .thermal z) (rs' := []) (notice_recedes ..)
    (by rw [noticeZone_zone, k.zone]) rfl rfl rfl
  rw [List.append_nil] at hnext
  exact { hnext with
    disturbed := fun _ => ⟨by rw [noticeZone_latches]; rfl, fun i hi => noticeZone_unqualified t _ ((k.recedes.home i).trans hi)⟩ }

theorem output (k : s.Heated z d h rs t) : s.Heated z d h rs t.evaluateOutput := by
  have hnext := k.next (u := t.evaluateOutput) (h' := h) (rs' := []) (recedes_of_eq rfl rfl rfl rfl) (by rw [← k.heat]; rfl) rfl rfl rfl
  rwa [List.append_nil] at hnext

/-! #### Entries to thermal states -/

theorem stable (k : s.Heated z d h rs t) : s.Heated z d h.settled (rs ++ [s.zoneRecord z .thermalStable]) (t.enterStable z) :=
  (k.upd Heat.settled).record .thermalStable

theorem side (k : s.Heated z d h rs t) (side : Side) : s.Heated z d (h.towards side) rs (t.enterSide z side) :=
  k.upd fun h => h.towards side

theorem sided (k : s.Heated z d h rs t) (side : Side) :
    s.Heated z d (h.placed (s.zone z).cfg (some side)) (rs ++ (s.zone z).cfg.placing (some side) (s.zoneRecord z .thermalStable))
      (t.enterSide z side) := by
  simpa [ZoneCfg.placing, Heat.placed] using k.side side

theorem soaking (k : s.Heated z d h rs t) :
    s.Heated z d (h.placed (s.zone z).cfg none) (rs ++ (s.zone z).cfg.placing none (s.zoneRecord z .thermalStable))
      (t.enterSoaking z) := by
  unfold State.enterSoaking Heat.placed ZoneCfg.placing
  simp only [k.cfg]
  by_cases hsoak : (s.zone z).cfg.soakS = 0
  · simpa [hsoak] using k.stable
  · simpa [hsoak] using k.upd fun h => { h with state := .soaking, soak := some (s.zone z).cfg.soakS, grace := none, side := none }

/-- A sample below hard_limit places a zone by the band alone (R107). -/
theorem place (k : s.Heated z d h rs t) {g temp : Int} (hlimit : temp < (s.zone z).cfg.hardLimit) :
    s.Heated z d (h.placed (s.zone z).cfg (bandSide g (s.zone z).cfg.band temp))
      (rs ++ (s.zone z).cfg.placing (bandSide g (s.zone z).cfg.band temp) (s.zoneRecord z .thermalStable))
      (t.place z g (some temp)) := by
  unfold State.place
  simp only [k.cfg, if_neg (not_le.mpr hlimit)]
  cases bandSide g (s.zone z).cfg.band temp with
  | none => exact k.soaking
  | some side => exact k.sided side

/-- The notice for leaving STABLE is in time for the notice of an excursion (R111, R112). -/
theorem leave (k : s.Heated z d h rs t) : s.Heated z (d || decide (h.state = .stable)) h rs (t.leaveStable z) := by
  unfold State.leaveStable
  rw [k.heat]
  by_cases hstable : h.state = .stable
  · simpa [hstable] using k.notice
  · simpa [hstable] using k

/-- STABLE is left on a side of the band with a notice and a record, for EXCURSION if there is grace (R111). -/
theorem excursion (k : s.Heated z d h rs t) (side : Side) :
    s.Heated z true (h.excursed (s.zone z).cfg.graceS side) (rs ++ [s.zoneRecord z .thermalExcursion]) (t.excursion z side) := by
  have hnoticed := k.notice.record .thermalExcursion
  unfold State.excursion Heat.excursed
  simp only [k.cfg]
  split
  · exact hnoticed.side side
  · exact hnoticed.upd fun h => { h with state := .excursion, soak := none, grace := some (s.zone z).cfg.graceS, side := some side }

/-! #### What the band does (R109 to R111, R114) -/

variable {g temp : Int}

theorem band_places (k : s.Heated z d h rs t) (hstate : h.state = .heating ∨ h.state = .cooling ∨ h.state = .blind)
    (hlimit : temp < (s.zone z).cfg.hardLimit) :
    s.Heated z d (h.placed (s.zone z).cfg (bandSide g (s.zone z).cfg.band temp))
      (rs ++ (s.zone z).cfg.placing (bandSide g (s.zone z).cfg.band temp) (s.zoneRecord z .thermalStable))
      (t.bandSample z g temp) := by
  unfold State.bandSample
  simp only [k.heat, k.cfg]
  cases hside : bandSide g (s.zone z).cfg.band temp with
  | none =>
    rcases hstate with hstate | hstate | hstate <;> simp only [hstate]
    · exact k.soaking
    · exact k.soaking
    · exact hside ▸ k.place hlimit
  | some side =>
    rcases hstate with hstate | hstate | hstate <;> simp only [hstate]
    · exact k.sided side
    · exact k.sided side
    · exact hside ▸ k.place hlimit

theorem band_soaking (k : s.Heated z d h rs t) (hstate : h.state = .soaking) :
    s.Heated z d ((bandSide g (s.zone z).cfg.band temp).elim h h.towards) rs (t.bandSample z g temp) := by
  unfold State.bandSample
  simp only [k.heat, k.cfg, hstate]
  cases bandSide g (s.zone z).cfg.band temp with
  | none => exact k
  | some side => exact k.side side

theorem band_stays (k : s.Heated z d h rs t) (hstate : h.state = .stable) (hside : bandSide g (s.zone z).cfg.band temp = none) :
    s.Heated z d h rs (t.bandSample z g temp) := by
  unfold State.bandSample
  simp only [k.heat, k.cfg, hstate, hside]
  exact k

theorem band_leaves {side : Side} (k : s.Heated z d h rs t) (hstate : h.state = .stable)
    (hside : bandSide g (s.zone z).cfg.band temp = some side) :
    s.Heated z true (h.excursed (s.zone z).cfg.graceS side) (rs ++ [s.zoneRecord z .thermalExcursion]) (t.bandSample z g temp) := by
  unfold State.bandSample
  simp only [k.heat, k.cfg, hstate, hside]
  exact k.excursion side

theorem band_returns (k : s.Heated z d h rs t) (hstate : h.state = .excursion)
    (hside : bandSide g (s.zone z).cfg.band temp = none) :
    s.Heated z d h.settled (rs ++ [s.zoneRecord z .thermalStable]) (t.bandSample z g temp) := by
  unfold State.bandSample
  simp only [k.heat, k.cfg, hstate, hside]
  exact k.stable

theorem band_outside {side : Side} (k : s.Heated z d h rs t) (hstate : h.state = .excursion)
    (hside : bandSide g (s.zone z).cfg.band temp = some side) :
    s.Heated z d { h with side := some side } rs (t.bandSample z g temp) := by
  unfold State.bandSample
  simp only [k.heat, k.cfg, hstate, hside]
  simpa only [hstate] using k.upd fun h => { h with side := some side }

/-- In each of the states that it tells apart the band moves heat alone, and takes no disturbance back. -/
theorem band (k : s.Heated z d h rs t) (hstate : h.state.lawful = true ∨ h.state = .blind)
    (hlimit : temp < (s.zone z).cfg.hardLimit) :
    ∃ (d' : Bool) (h' : Heat) (rs' : List Record), (d = true → d' = true) ∧ s.Heated z d' h' rs' (t.bandSample z g temp) := by
  cases hs : h.state with
  | off | overtemp => simp [hs, ThermalState.lawful] at hstate
  | heating | cooling | blind => exact ⟨_, _, _, id, k.band_places (by simp [hs]) hlimit⟩
  | soaking => exact ⟨_, _, _, id, k.band_soaking hs⟩
  | stable =>
    cases hside : bandSide g (s.zone z).cfg.band temp with
    | none => exact ⟨_, _, _, id, k.band_stays hs hside⟩
    | some side => exact ⟨_, _, _, fun _ => rfl, k.band_leaves hs hside⟩
  | excursion =>
    cases hside : bandSide g (s.zone z).cfg.band temp with
    | none => exact ⟨_, _, _, id, k.band_returns hs hside⟩
    | some side => exact ⟨_, _, _, id, k.band_outside hs hside⟩

/-! #### The heater law -/

/-- The law moves integral and duty in its five states, unless step control is HALTED (R115, R116). -/
theorem law (k : s.Heated z d h rs t) (hlawful : h.state.lawful = true) {g : Int} (hg : h.target = some g) (temp : Int) :
    s.Heated z d (if s.step.state = .halted then h else h.law (s.zone z).cfg g temp) rs (t.applyLaw z temp) := by
  unfold State.applyLaw
  dsimp only
  rw [k.heat, k.step, k.cfg, hg, hlawful]
  by_cases hhalted : s.step.state = .halted
  · simpa [hhalted] using k
  · simpa [hhalted] using k.upd fun h => h.law (s.zone z).cfg g temp

end State.Heated

theorem applyLaw_idle {s : State} {z : ZoneId} (h : (s.zone z).heat.state.lawful = false) (t : Int) : s.applyLaw z t = s := by
  unfold State.applyLaw
  dsimp only
  rw [h]
  split <;> rfl

theorem applyLaw_untargeted {s : State} {z : ZoneId} (h : (s.zone z).heat.target = none) (t : Int) : s.applyLaw z t = s := by
  unfold State.applyLaw
  dsimp only
  rw [h]

/-- Whether or not the law is in force, it creates no record and moves heat alone. -/
theorem State.Heated.applyLaw {s t : State} {z : ZoneId} {d : Bool} {h : Heat} {rs : List Record} (k : s.Heated z d h rs t)
    (temp : Int) : ∃ h' : Heat, s.Heated z d h' rs (t.applyLaw z temp) := by
  by_cases hlawful : h.state.lawful = true
  · cases hg : h.target with
    | none => exact ⟨h, by rwa [applyLaw_untargeted (by rw [k.heat]; exact hg)]⟩
    | some g => exact ⟨_, k.law hlawful hg temp⟩
  · exact ⟨h, by rwa [applyLaw_idle (by rw [k.heat]; exact Bool.eq_false_iff.mpr hlawful)]⟩

/-- The law moves no HALT source (R112, R166). -/
theorem applyLaw_halt (s : State) (z : ZoneId) (t : Int) :
    (s.applyLaw z t).halt = s.halt ∧ (s.applyLaw z t).anyHaltSource = s.anyHaltSource := by
  have hupd : ∀ f : Heat → Heat, (∀ h, (f h).state = h.state) → (s.updHeat z f).anyHaltSource = s.anyHaltSource := fun f hf => by
    refine congrArg allZones.any (funext fun w => ?_)
    rw [State.updHeat_zone]
    split
    · subst_vars; simp only [Zone.haltSource, hf]
    · rfl
  unfold State.applyLaw
  dsimp only
  (repeat' split)
  · exact ⟨rfl, hupd _ fun _ => rfl⟩
  all_goals exact ⟨rfl, rfl⟩

/-! ### OVERTEMP (R112) -/

/-- A zone in OVERTEMP is a HALT source (R112, R166). -/
theorem anyHaltSource_of_overtemp {s : State} {z : ZoneId} (h : (s.zone z).heat.state = .overtemp) : s.anyHaltSource = true := by
  refine List.any_eq_true.mpr ⟨z, List.mem_finRange z, ?_⟩
  rw [Zone.haltSource, h]
  simp

/-- After a trip request the rail is TRIPPED, with its cause if it was not TRIPPED before; the zone's heat stands (R84). -/
theorem trip_rail (s : State) (z : ZoneId) {cause : TripCause} (hc : cause ≠ .overcurrent) :
    ((s.trip z cause).zone z).heat = (s.zone z).heat ∧ ((s.trip z cause).zone z).rail.state = .tripped ∧
      ((s.zone z).rail.state ≠ .tripped → ((s.trip z cause).zone z).rail.tripCause = some cause) := by
  by_cases h : (s.zone z).rail.state = .tripped
  · rw [trip_tripped h]; exact ⟨rfl, h, fun hn => absurd h hn⟩
  · obtain ⟨hrail, hheat⟩ := trip_zone h hc
    rw [hrail, hheat]; exact ⟨rfl, rfl, fun _ => rfl⟩

/-- A zone that enters OVERTEMP: its rail trips, the own output is asserted under its enable, and the record of the entry comes
first. -/
theorem enterOvertemp_trips {s t : State} {z : ZoneId} {d : Bool} (k : s.Heated z d (s.zone z).heat [] t) :
    let u := t.enterOvertemp z
    (u.zone z).heat = (s.zone z).heat.overheated ∧
    (u.zone z).rail.state = .tripped ∧
    ((s.zone z).rail.state ≠ .tripped → (u.zone z).rail.tripCause = some .overtemp) ∧
    u.halt.own = s.settings.haltOut ∧
    (d = true ∨ (s.zone z).heat.state = .stable →
      (u.zone z).latches.thermal = true ∧ ∀ i : SocketId, (s.socket i).zone = z → (u.socket i).qualified = false) ∧
    ∃ later : List Record, u.reports = s.created (s.zoneRecord z .overtempSet :: later) := by
  intro u
  have hcause : TripCause.overtemp ≠ .overcurrent := nofun
  have hentered := (k.leave.upd Heat.overheated).record .overtempSet
  have hu : u = ((((t.leaveStable z).updHeat z Heat.overheated).reportZone z .overtempSet).trip z .overtemp).evaluateOutput := rfl
  generalize ((t.leaveStable z).updHeat z Heat.overheated).reportZone z .overtempSet = entered at hentered hu
  obtain ⟨hheat, hrail, htrip⟩ := trip_rail entered z hcause
  have hrecedes := trip_recedes entered z hcause
  generalize entered.trip z .overtemp = w at hheat hrail htrip hrecedes hu
  rw [hentered.heat] at hheat
  rw [hentered.rail] at htrip
  obtain ⟨later, hlater⟩ := hrecedes.records
  have hsource : w.anyHaltSource = true := anyHaltSource_of_overtemp (z := z) (by rw [hheat]; rfl)
  have hown : w.evaluateOutput.halt.own = (w.settings.haltOut && w.anyHaltSource) := rfl
  rw [hu]
  refine ⟨hheat, hrail, htrip, ?_, fun hd => ?_, later, hlater.trans (created_append hentered.reports hentered.recedes.settings _)⟩
  · rw [hown, hsource, hrecedes.settings, hentered.recedes.settings, Bool.and_true]
  · obtain ⟨hlatch, hsockets⟩ := hentered.disturbed (by simpa using hd)
    exact ⟨(hrecedes.latches z).2 hlatch, fun i hi => hrecedes.unqualified i (hsockets i hi)⟩

/-! ### The exit from OVERTEMP (R113) -/

/-- The own output as it has just been evaluated (R166). -/
theorem evaluateOutput_follows (s : State) : s.evaluateOutput.OutputFollows := rfl

theorem leaveOvertemp_targeted {s : State} {z : ZoneId} {g t : Int} (hg : (s.zone z).heat.target = some g)
    (hlimit : t < (s.zone z).cfg.hardLimit) :
    s.Heated z false ((s.zone z).heat.placed (s.zone z).cfg (bandSide g (s.zone z).cfg.band t))
      ([s.zoneRecord z .overtempClear] ++
        (s.zone z).cfg.placing (bandSide g (s.zone z).cfg.band t) (s.zoneRecord z .thermalStable))
      (s.leaveOvertemp z t) := by
  have k := (State.Heated.refl s z).record .overtempClear
  unfold State.leaveOvertemp
  simp only [k.heat, hg]
  exact (k.place hlimit).output

theorem leaveOvertemp_untargeted {s : State} {z : ZoneId} (hg : (s.zone z).heat.target = none) (t : Int) :
    s.Heated z false {} [s.zoneRecord z .overtempClear] (s.leaveOvertemp z t) := by
  have k := (State.Heated.refl s z).record .overtempClear
  unfold State.leaveOvertemp
  simp only [k.heat, hg]
  exact (k.upd fun _ => {}).output

/-! ### The sample -/

/-- The notice of a sample in EXCURSION, before its band counts (R111). -/
theorem noticed_heated (s : State) (z : ZoneId) :
    s.Heated z (decide ((s.zone z).heat.state = .excursion)) (s.zone z).heat []
      (if (s.zone z).heat.state = .excursion then s.noticeZone .thermal z else s) := by
  have k := State.Heated.refl s z
  by_cases h : (s.zone z).heat.state = .excursion
  · simpa [h] using k.notice
  · simpa [h] using k

/-- The sides of the band as the temperature lies (R107, R109). -/
theorem bandSide_cases (g : Int) (band : Nat) (t : Int) :
    (t < g - band ∧ bandSide g band t = some .low) ∨
    (¬ t < g - band ∧ g + band < t ∧ bandSide g band t = some .high) ∨
    (¬ t < g - band ∧ ¬ g + band < t ∧ bandSide g band t = none) := by
  unfold bandSide
  (repeat' split) <;> simp_all

/-- The law's held integral as R115 words it. -/
theorem law_eq (h : Heat) (c : ZoneCfg) (g t : Int) :
    let e := g - t
    let integral :=
      if (h.duty = c.dutyMax ∧ 0 < e) ∨ (h.duty = 0 ∧ e < 0) then h.integral else max (-4096) (min 4096 (h.integral + e))
    h.law c g t = { h with integral, duty := (max 0 (min (c.dutyMax : Int) (c.kp * e + c.ki * integral / 64))).toNat } := by
  simp only [Heat.law, Bool.or_eq_true, Bool.and_eq_true, decide_eq_true_eq]

section Sample

variable {s : State} {z : ZoneId} {t : Int}

/-- A sample says nothing to a zone without heat control, or to one in OVERTEMP that is still hot (R113). -/
theorem temperatureSample_idle
    (h : (s.zone z).heat.state = .off ∨ ((s.zone z).heat.state = .overtemp ∧ (s.zone z).cfg.hardLimit - 20 < t)) :
    s.temperatureSample z t = s := by
  have hheat : s.heatState z t = s := by
    rw [heatState_eq]
    obtain hoff | ⟨hover, hhot⟩ := h
    · rw [if_pos hoff]
    · simp [hover, not_le.mpr hhot]
  rw [State.temperatureSample, hheat]
  exact applyLaw_idle (by obtain hoff | ⟨hover, -⟩ := h <;> simp [*, ThermalState.lawful]) t

theorem temperatureSample_cooled (hover : (s.zone z).heat.state = .overtemp) (hcool : t ≤ (s.zone z).cfg.hardLimit - 20) :
    s.temperatureSample z t = (s.leaveOvertemp z t).applyLaw z t := by
  rw [State.temperatureSample, heatState_eq]
  simp [hover, hcool]

/-- What leaving OVERTEMP keeps and creates, under a target or none (R113). -/
theorem temperatureSample_clears (hover : (s.zone z).heat.state = .overtemp) (hcool : t ≤ (s.zone z).cfg.hardLimit - 20) :
    let u := s.temperatureSample z t
    (u.zone z).rail = (s.zone z).rail ∧ u.halt.own = (s.settings.haltOut && u.anyHaltSource) ∧
      ∃ later : List Record, u.reports = s.created (s.zoneRecord z .overtempClear :: later) := by
  intro u
  have hleft : ∃ (h : Heat) (later : List Record),
      s.Heated z false h (s.zoneRecord z .overtempClear :: later) (s.leaveOvertemp z t) := by
    cases hg : (s.zone z).heat.target with
    | none => exact ⟨_, _, leaveOvertemp_untargeted hg t⟩
    | some g => exact ⟨_, _, leaveOvertemp_targeted hg (by omega)⟩
  obtain ⟨h, later, k⟩ := hleft
  obtain ⟨h', k'⟩ := k.applyLaw t
  obtain ⟨hhalt, hsource⟩ := applyLaw_halt (s.leaveOvertemp z t) z t
  have hfollows : (s.leaveOvertemp z t).OutputFollows := evaluateOutput_follows _
  rw [State.OutputFollows, k.recedes.settings, ← hhalt, ← hsource] at hfollows
  rw [show u = _ from temperatureSample_cooled hover hcool]
  exact ⟨k'.rail, hfollows, later, k'.reports⟩

/-- A sample at a zone that heats, or would: the notice of an excursion, the hard limit and the band, and the law. -/
theorem temperatureSample_heated (h : (s.zone z).heat.state.lawful = true ∨ (s.zone z).heat.state = .blind) :
    s.temperatureSample z t =
      ((if (s.zone z).heat.state = .excursion then s.noticeZone .thermal z else s).sampleHeated z
        (s.zone z).cfg.hardLimit (s.zone z).heat.target t).applyLaw z t := by
  have hoff : (s.zone z).heat.state ≠ .off := fun e => by simp [e, ThermalState.lawful] at h
  have hover : (s.zone z).heat.state ≠ .overtemp := fun e => by simp [e, ThermalState.lawful] at h
  rw [State.temperatureSample, heatState_eq, if_neg hoff, if_neg hover]

theorem temperatureSample_hot (h : (s.zone z).heat.state.lawful = true ∨ (s.zone z).heat.state = .blind)
    (hhot : (s.zone z).cfg.hardLimit ≤ t) :
    s.temperatureSample z t =
      (if (s.zone z).heat.state = .excursion then s.noticeZone .thermal z else s).enterOvertemp z := by
  obtain ⟨hheat, -⟩ := enterOvertemp_trips (noticed_heated s z)
  rw [temperatureSample_heated h]
  unfold State.sampleHeated
  rw [if_pos hhot]
  exact applyLaw_idle (by rw [hheat]; rfl) t

theorem temperatureSample_band {g : Int} (h : (s.zone z).heat.state.lawful = true ∨ (s.zone z).heat.state = .blind)
    (hg : (s.zone z).heat.target = some g) (hlimit : t < (s.zone z).cfg.hardLimit) :
    s.temperatureSample z t =
      ((if (s.zone z).heat.state = .excursion then s.noticeZone .thermal z else s).bandSample z g t).applyLaw z t := by
  rw [temperatureSample_heated h, hg]
  unfold State.sampleHeated
  rw [if_neg (not_le.mpr hlimit)]

end Sample

/-- Settles O55: by thermal state, then by the hard limit, then by the band. -/
theorem temperatureSampleHeats : Obligations.TemperatureSampleHeats := by
  intro z t s v c h u zoneRecord driven below inside toSide placed disturbed
  have hdriven : ∀ (g : Int) (h' : Heat), driven g h' = if s.step.state = .halted then h' else h'.law c g t := fun g h' => by
    rw [law_eq]
  have hbelow : ∀ {g : Int} {side : Side}, bandSide g c.band t = some side → (if below g then Side.low else .high) = side :=
    fun {g side} hside => by
      obtain ⟨hlow, h'⟩ | ⟨hlow, -, h'⟩ | ⟨-, -, h'⟩ := bandSide_cases g c.band t <;> rw [h'] at hside <;>
        cases hside <;> simp [below, hlow]
  have hinside : ∀ g : Int, inside g = (bandSide g c.band t).isNone := fun g => by
    obtain ⟨hlow, h'⟩ | ⟨hlow, hhigh, h'⟩ | ⟨hlow, hhigh, h'⟩ := bandSide_cases g c.band t <;> rw [h'] <;>
      simp [inside] <;> omega
  have htoSide : ∀ {g : Int} {side : Side}, bandSide g c.band t = some side → toSide g = h.towards side := fun {g side} hside => by
    have hb := hbelow hside
    cases hlow : below g <;> simp only [hlow] at hb <;> subst hb <;> simp [toSide, hlow, Heat.towards]
  have hplaced : ∀ g : Int, placed g = h.placed c (bandSide g c.band t) := fun g => by
    simp only [placed, hinside]
    cases hside : bandSide g c.band t with
    | none => rfl
    | some side => exact htoSide hside
  have hin_none : ∀ {g : Int}, inside g = true → bandSide g c.band t = none := fun hin => by
    rwa [hinside, Option.isNone_iff_eq_none] at hin
  have hout : ∀ {g : Int}, inside g = false → ∃ side, bandSide g c.band t = some side := fun hin => by
    rwa [hinside, Option.isNone_eq_false_iff, Option.isSome_iff_exists] at hin
  refine ⟨temperatureSample_idle, fun hover hcool => ?_, fun hstate => ⟨fun hhot => ?_, fun g hg hlimit => ?_⟩⟩
  · have hu : u = _ := temperatureSample_cooled hover hcool
    refine ⟨fun hg => ?_, fun g hg => ?_, temperatureSample_clears hover hcool⟩
    · have k := leaveOvertemp_untargeted hg t
      rw [hu, applyLaw_idle (by rw [k.heat]; rfl)]
      exact k.heat
    · have k := leaveOvertemp_targeted hg (show t < c.hardLimit by omega)
      rw [hu, hdriven, hplaced]
      exact (k.law (placed_lawful ..) ((placed_target ..).trans hg) t).heat
  · have htrips := enterOvertemp_trips (noticed_heated s z)
    dsimp only at htrips
    rw [← temperatureSample_hot hstate hhot] at htrips
    obtain ⟨hheat, hrail, hcause, hown, hdisturbed, hrecords⟩ := htrips
    exact ⟨hheat, hrail, hcause, hown, fun hs => hdisturbed (hs.symm.imp_left decide_eq_true), hrecords⟩
  · have k := noticed_heated s z
    have hu : u = _ := temperatureSample_band hstate hg hlimit
    -- what the band makes of the zone, the law takes on
    have hlaw : ∀ {d : Bool} {h' : Heat} {rs : List Record}, s.Heated z d h' rs
        ((if (s.zone z).heat.state = .excursion then s.noticeZone .thermal z else s).bandSample z g t) →
        h'.state.lawful = true → h'.target = some g → s.Heated z d (driven g h') rs u := fun kb hl ht => by
      rw [hu, hdriven]
      exact kb.law hl ht t
    refine ⟨?_, fun hs => ?_, fun hs => ?_, fun hs hin => ?_, fun hs hin => ?_, fun hs => ⟨?_, fun hin => ?_, fun hin => ?_⟩⟩
    · obtain ⟨_, _, _, -, kb⟩ := k.band (g := g) hstate hlimit
      obtain ⟨_, ku⟩ := kb.applyLaw t
      rw [hu]
      exact ku.rail
    · have ku := hlaw (k.band_places hs hlimit) (placed_lawful ..) ((placed_target ..).trans hg)
      rw [hplaced, hinside]
      exact ⟨ku.heat, ku.reports⟩
    · have kb := k.band_soaking (g := g) (temp := t) hs
      have htaken : (if inside g then h else toSide g) = (bandSide g c.band t).elim h h.towards := by
        rw [hinside]
        cases hside : bandSide g c.band t with
        | none => rfl
        | some side => exact htoSide hside
      rw [← htaken] at kb
      have ku := hlaw kb (by rw [htaken]; exact elim_towards_lawful _ (by rw [hs]; rfl))
        (by rw [htaken]; cases bandSide g c.band t <;> exact hg)
      exact ⟨ku.heat, ku.reports⟩
    · have ku := hlaw (k.band_stays hs (hin_none hin)) (by rw [hs]; rfl) hg
      exact ⟨ku.heat, ku.reports⟩
    · obtain ⟨side, hside⟩ := hout hin
      have htaken : (if c.graceS = 0 then toSide g else { toSide g with state := .excursion, grace := some c.graceS }) =
          h.excursed c.graceS side := by
        rw [htoSide hside]; rfl
      have kb := k.band_leaves hs hside
      rw [← htaken] at kb
      have ku := hlaw kb (by rw [htaken]; exact excursed_lawful ..)
        (by rw [htaken, Heat.excursed]; split <;> exact hg)
      exact ⟨ku.heat, ku.disturbed rfl, ku.reports⟩
    · obtain ⟨_, _, _, hkept, kb⟩ := k.band (g := g) hstate hlimit
      obtain ⟨_, ku⟩ := kb.applyLaw t
      rw [← hu] at ku
      exact ku.disturbed (hkept (decide_eq_true hs))
    · have ku := hlaw (k.band_returns hs (hin_none hin)) rfl hg
      exact ⟨ku.heat, ku.reports⟩
    · obtain ⟨side, hside⟩ := hout hin
      have ku := hlaw (k.band_outside hs hside) (by rw [show _ = ThermalState.excursion from hs]; rfl) hg
      rw [hbelow hside]
      exact ⟨ku.heat, ku.reports⟩

end Sys2Proof.Machine
end

/-! ## The checks of one lane in a vector cycle (R37, R47, R49, R143 to R148)

A cycle with no boundary and no window end due is the start of one (`vectorCycle_inPlay`); with one lane eligible it is that
lane's checks, and at most one failing check (`checkLanes_alone`). -/

section
namespace Sys2Proof.Machine

/-! ### The cycle, with nothing due -/

theorem endDueWindows_idle {s : State} (h : s.NoWindowDue) : s.endDueWindows = s := by
  have hprbs : (allLanes.filter fun n => (s.lane n).prbsWindowDue) = [] :=
    List.filter_eq_nil_iff.mpr fun n _ => by simp [(h n).1]
  have htoggle : (allLanes.filter fun n => (s.lane n).toggleWindowDue) = [] :=
    List.filter_eq_nil_iff.mpr fun n _ => by simp [(h n).2]
  unfold State.endDueWindows
  rw [hprbs]
  change forEachFreely (allLanes.filter fun n => (s.lane n).toggleWindowDue) _ s = s
  rw [htoggle]
  rfl

/-- An eligible lane is in a mode that cycles check, and its socket is armed (R143). -/
theorem eligible_cycled {s : State} {n : LaneId} (h : s.eligible n = true) :
    (s.lane n).row.mode.cycled = true ∧ (s.socket (laneSocket n)).state.armed = true := by
  simp only [State.eligible, Bool.and_eq_true] at h
  obtain ⟨⟨⟨⟨hmode, -⟩, harmed⟩, -⟩, -⟩ := h
  exact ⟨hmode, harmed⟩

section InPlay

variable {s : State} {vec : Vec} {source : VectorSource}

theorem boundary_idle (hplay : s.engine.inPlay = some (vec, source)) (hcycle : s.engine.cycle < vec.reps) : s.boundary = s := by
  have hdue : s.engine.boundaryDue = false := by
    rw [Engine.boundaryDue, hplay]
    exact decide_eq_false (not_le.mpr hcycle)
  rw [State.boundary, hdue]
  rfl

theorem vectorCycle_inPlay (hdue : s.NoWindowDue) (hplay : s.engine.inPlay = some (vec, source))
    (hcycle : s.engine.cycle < vec.reps) (sense : BitVec 64) : s.vectorCycle sense = s.startCycle sense := by
  have hstate : s.engine.state ≠ .stopped := fun h => by simp [Engine.inPlay, h] at hplay
  unfold State.vectorCycle
  simp only [endDueWindows_idle hdue, boundary_idle hplay hcycle, if_neg hstate]

/-- With no DRIVE write waiting, a cycle sets the gating of the lanes and no more (R133, R136). -/
theorem driveCycle_settled (hdrive : s.drive = s.driveInEffect) :
    s.driveCycle = s.setZones fun z => { s.zone z with driving := (s.zone z).rail.state.ungated } := by
  have heffect : ({ s with driveInEffect := s.drive } : State) = s :=
    congrArg (fun d => ({ s with driveInEffect := d } : State)) hdrive
  have hwatch : (s.watchExercise fun s => { s with driveInEffect := s.drive }) = s := by
    unfold State.watchExercise
    simp only [heffect, Bool.and_not_self]
    exact notice_none s .exercise
  unfold State.driveCycle
  rw [hwatch]

/-- The state of a cycle of vector `v` when its checks run: the gating is set, and the engine has advanced (R129). -/
def State.cycleBegun (s : State) (v : Vec) : State :=
  (s.setZones fun z => { s.zone z with driving := (s.zone z).rail.state.ungated }).updEngine fun e =>
    { e.advance with lastDrive := v.drive, cycle := e.cycle + 1 }

theorem startCycle_inPlay (hdrive : s.drive = s.driveInEffect) (hplay : s.engine.inPlay = some (vec, source)) (sense : BitVec 64) :
    s.startCycle sense = (s.cycleBegun vec).checkLanes
      { expect := vec.expect, mask := vec.mask, source, repeatCycle := s.engine.cycle + 1 } sense := by
  unfold State.startCycle
  simp only [driveCycle_settled hdrive, State.setZones_engine, hplay]
  rfl

theorem cycleBegun_eligible (s : State) (v : Vec) (m : LaneId) : (s.cycleBegun v).eligible m = s.eligible m := by
  have hzone : ∀ z : ZoneId, ((s.cycleBegun v).zone z).rail = (s.zone z).rail := fun z => by
    rw [State.cycleBegun, State.updEngine_zone, State.setZones_zone]
  unfold State.eligible
  simp only [hzone]
  rfl

theorem cycleBegun_temperature (s : State) (v : Vec) (i : SocketId) :
    (s.cycleBegun v).socketTemperature i = (s.socket i).estimate.or (s.zone (s.socket i).zone).values.temperature := by
  rw [socketTemperature_eq, State.cycleBegun, State.updEngine_zone, State.setZones_zone]
  rfl

end InPlay

/-! ### One lane alone -/

/-- A filter that one item of a list alone passes gives what that item gives. -/
theorem filterMap_alone {α β : Type} {f : α → Option β} {a : α} {l : List α} (hl : l.Nodup) (ha : a ∈ l)
    (h : ∀ b ∈ l, b ≠ a → f b = none) : l.filterMap f = (f a).toList := by
  induction l with
  | nil => exact absurd ha List.not_mem_nil
  | cons b l ih =>
    obtain ⟨hb, hl⟩ := List.nodup_cons.mp hl
    have htail : ∀ c ∈ l, c ≠ a → f c = none := fun c hc => h c (List.mem_cons_of_mem b hc)
    by_cases hba : b = a
    · subst hba
      have hnone : l.filterMap f = [] := List.filterMap_eq_nil_iff.mpr fun c hc => htail c hc fun e => hb (e ▸ hc)
      cases hf : f b with
      | none => rw [List.filterMap_cons_none hf, hnone]; rfl
      | some y => rw [List.filterMap_cons_some hf, hnone]; rfl
    · rw [List.filterMap_cons_none (h b List.mem_cons_self hba)]
      exact ih hl ((List.mem_cons.mp ha).resolve_left (Ne.symm hba)) htail

/-- One item or none needs no order (log 4). -/
theorem forEachFreely_toList {α : Type} (o : Option α) (f : α → State → State) (s : State) :
    forEachFreely o.toList f s = o.elim s (f · s) := by
  cases o <;> rfl

/-- The lanes of a cycle in which lane `n` alone is eligible. -/
def State.cycledLane (s : State) (n : LaneId) (l : Lane) : State := s.setLanes fun m => if m = n then l else s.lane m

/-- With one lane eligible, the cycle is its checks and the failing check that they find (R143). -/
theorem checkLanes_alone {s : State} {n : LaneId} (hn : s.eligible n = true) (hothers : ∀ m, m ≠ n → s.eligible m = false)
    (c : CycleWords) (sense : BitVec 64) :
    let outcome := (s.lane n).cycle n (sense.getLsbD n.val) c
    s.checkLanes c sense = outcome.2.elim (s.cycledLane n outcome.1) (s.cycledLane n outcome.1).failingCheck := by
  intro outcome
  let all := fun m => if s.eligible m then (s.lane m).cycle m (sense.getLsbD m.val) c else (s.lane m, none)
  have halone : all n = outcome := if_pos hn
  have hidle : ∀ m, m ≠ n → all m = (s.lane m, none) := fun m hm => if_neg (by simp [hothers m hm])
  have hfailing : (allLanes.filterMap fun m => (all m).2) = outcome.2.toList := by
    rw [← halone]
    exact filterMap_alone (List.nodup_finRange 64) (List.mem_finRange n) fun m _ hm => by rw [hidle m hm]
  have hlanes : (fun m => (all m).1) = fun m => if m = n then outcome.1 else s.lane m := funext fun m => by
    by_cases hm : m = n
    · rw [if_pos hm, hm, halone]
    · rw [if_neg hm, hidle m hm]
  change forEachFreely (allLanes.filterMap fun m => (all m).2) _ (s.setLanes fun m => (all m).1) = _
  rw [hfailing, hlanes, forEachFreely_toList]
  rfl

/-! ### The checks (R144 to R148) -/

section Checks

variable {l : Lane} {n : LaneId} {sample : Bool} {c : CycleWords}

theorem cycle_gate : (l.cycle n sample c).1.gate = l.gate := by
  unfold Lane.cycle
  dsimp only
  split <;> rfl

theorem cycle_watch :
    (l.cycle n sample c).1.watch = if l.row.watched then l.watch.cycle l.row.edgeKind (sample != l.row.invert) else l.watch := by
  unfold Lane.cycle
  dsimp only
  split <;> rfl

theorem cycle_prbs_idle (h : l.row.mode ≠ .prbs) : (l.cycle n sample c).1.prbs = l.prbs := by
  unfold Lane.cycle
  dsimp only
  split
  · rfl
  · exact absurd ‹_› h
  all_goals rfl

theorem cycle_compare (h : l.row.mode = .compare) : (l.cycle n sample c).2 = compareCheck l.row n sample c := by
  simp only [Lane.cycle, h]

theorem cycle_toggle (h : l.row.mode = .toggle) : (l.cycle n sample c).2 = none := by
  simp only [Lane.cycle, h]

theorem cycle_prbs (h : l.row.mode = .prbs) :
    (l.cycle n sample c).1.prbs = (l.prbs.cycle l.row.polynomial n (sample != l.row.invert) c).1 ∧
      (l.cycle n sample c).2 = (l.prbs.cycle l.row.polynomial n (sample != l.row.invert) c).2 := by
  unfold Lane.cycle
  dsimp only
  rw [h]
  exact ⟨rfl, rfl⟩

/-- A cycled lane is watched in TOGGLE mode or under its enable (R148). -/
theorem watched_iff {row : SenseRow} (h : row.mode.cycled = true) :
    row.watched = true ↔ row.mode = .toggle ∨ row.watch = true := by
  cases hm : row.mode <;> simp [SenseRow.watched, SenseMode.cycled, hm] at h ⊢

/-- A COMPARE check fails on a mismatch of an unmasked bit (R144). -/
theorem compareCheck_eq (row : SenseRow) (n : LaneId) (sample : Bool) (c : CycleWords) :
    let expected := c.expect.getLsbD row.expectChannel.val != row.invert
    compareCheck row n sample c =
      if c.mask.getLsbD row.expectChannel.val = true ∧ expected ≠ sample then
        some { kind := .compare, lane := n, source := c.source, repeatCycle := c.repeatCycle, expected, observed := sample }
      else none := by
  simp only [compareCheck, Bool.and_eq_true, bne_iff_ne]

end Checks

section Prbs

variable {p : PrbsCheck} {poly : Polynomial} (n : LaneId) (received : Bool) (c : CycleWords)

/-- A register that is filling takes the received bit (R145). -/
theorem prbs_fills (h : p.fill < poly.length) : p.cycle poly n received c = (p.shift received, none) := if_pos h

/-- A full register predicts; in LOCKED it takes its prediction, and an error is a failing check (R145, R146). -/
theorem prbs_predicts (h : poly.length ≤ p.fill) :
    let predicted := poly.predict p.register
    (p.cycle poly n received c).1 =
        { p.shift (if p.locked then predicted else received) with
          predictions := p.predictions + 1
          errors := p.errors + if predicted = received then 0 else 1 } ∧
      (p.cycle poly n received c).2 =
        if p.locked = true ∧ predicted ≠ received then
          some { kind := .prbs, lane := n, source := c.source, repeatCycle := c.repeatCycle, expected := predicted
                 observed := received }
        else none := by
  intro predicted
  have herrors : (predicted != received).toNat = if predicted = received then 0 else 1 := by
    cases predicted <;> cases received <;> rfl
  unfold PrbsCheck.cycle
  rw [if_neg (Nat.not_lt.mpr h)]
  dsimp only
  rw [← herrors]
  obtain ⟨register, fill, locked, lockLost, predictions, errors, run⟩ := p
  cases locked with
  | true => exact ⟨rfl, by simp [predicted]⟩
  | false => exact ⟨rfl, by simp⟩

theorem predict_eq (poly : Polynomial) (r : BitVec 15) :
    poly.predict r = if poly = .a then r.getLsbD 8 != r.getLsbD 4 else r.getLsbD 14 != r.getLsbD 13 := by
  cases poly <;> rfl

theorem length_eq (poly : Polynomial) : poly.length = if poly = .a then 9 else 15 := by cases poly <;> rfl

end Prbs

section Watch

variable (w : ToggleWatch) (value : Bool)

theorem counts_rising :
    (w.previous.any fun before => EdgeKind.rising.counts before value) = (w.previous == some false && value) := by
  rcases w.previous with _ | _ | _ <;> rfl

theorem counts_falling :
    (w.previous.any fun before => EdgeKind.falling.counts before value) = (w.previous == some true && !value) := by
  rcases w.previous with _ | _ | _ <;> rfl

theorem counts_both : (w.previous.any fun before => EdgeKind.both.counts before value) = (w.previous == some (!value)) := by
  rcases w.previous with _ | _ | _ <;> cases value <;> rfl

/-- A toggle watch counts the cycle and its edge, and holds the value (R148). -/
theorem watch_counts {kind : EdgeKind} {counted : Bool}
    (h : (w.previous.any fun before => kind.counts before value) = counted) :
    w.cycle kind value =
      { w with cycles := w.cycles + 1, edges := w.edges + if counted then 1 else 0, previous := some value } := by
  unfold ToggleWatch.cycle
  rw [h]
  cases counted <;> rfl

end Watch

/-! ### A failing check at accounting (R37, R47, R49) -/

/-- A failing check at an armed socket scores, is captured if no check was, and moves no other socket. -/
theorem failingCheck_scores {s : State} {f : Failing} (harmed : (s.socket (laneSocket f.lane)).state.armed = true) :
    let i := laneSocket f.lane
    let k := s.socket i
    let u := s.failingCheck f
    u.socket i = { k with
      running := min 65535 (k.running + 1), firstFail := some (k.firstFail.getD (s.capture i f)) } ∧
    (∀ j : SocketId, j ≠ i → u.socket j = s.socket j) ∧
    u.reports = s.created (if k.firstFail = none then [.firstFail i (s.capture i f)] else []) := by
  intro i k u
  have hothers : ∀ j : SocketId, j ≠ i → u.socket j = s.socket j := fun j hj => (failingCheck_local s f).sockets j hj
  have hu : u = s.failingCheck f := rfl
  unfold State.failingCheck at hu
  rw [if_pos harmed] at hu
  cases hfirst : k.firstFail with
  | none =>
    rw [if_pos (Option.isNone_iff_eq_none.mpr hfirst)] at hu
    refine ⟨?_, hothers, ?_⟩
    · rw [hu, report_socket, State.updSocket_socket_same, if_pos (Option.isNone_iff_eq_none.mpr hfirst)]; rfl
    · rw [hu]; exact created_one (s.updSocket i _) _
  | some first =>
    have hsome : ¬ k.firstFail.isNone = true := by simp [hfirst]
    rw [if_neg hsome] at hu
    refine ⟨?_, hothers, ?_⟩
    · rw [hu, State.updSocket_socket_same, if_neg hsome,
        show (s.socket (laneSocket f.lane)).firstFail = some first from hfirst]; rfl
    · rw [hu]; rfl

/-- In a cycle with nothing due and one lane eligible, that lane's checks are all that runs. -/
theorem vectorCycle_alone {s : State} {n : LaneId} {vec : Vec} {source : VectorSource} (hdue : s.NoWindowDue)
    (hplay : s.engine.inPlay = some (vec, source)) (hcycle : s.engine.cycle < vec.reps) (hn : s.eligible n = true)
    (hothers : ∀ m : LaneId, m ≠ n → (s.lane m).row.mode.cycled = false) (hdrive : s.drive = s.driveInEffect)
    (sense : BitVec 64) :
    let outcome := (s.lane n).cycle n (sense.getLsbD n.val)
      { expect := vec.expect, mask := vec.mask, source, repeatCycle := s.engine.cycle + 1 }
    let t := (s.cycleBegun vec).cycledLane n outcome.1
    s.vectorCycle sense = outcome.2.elim t t.failingCheck := by
  have hidle : ∀ m, m ≠ n → (s.cycleBegun vec).eligible m = false := fun m hm => by
    rw [cycleBegun_eligible, State.eligible, hothers m hm]
    rfl
  rw [vectorCycle_inPlay hdue hplay hcycle, startCycle_inPlay hdrive hplay]
  exact checkLanes_alone ((cycleBegun_eligible ..).trans hn) hidle _ sense

/-- A failing check moves no lane. -/
theorem elim_failingCheck_lane (s : State) (v : Vec) (n : LaneId) (l : Lane) (o : Option Failing) (m : LaneId) :
    let t := (s.cycleBegun v).cycledLane n l
    (o.elim t t.failingCheck).lane m = if m = n then l else s.lane m := by
  intro t
  have ht : t.lane m = if m = n then l else s.lane m := State.setLanes_lane ..
  rw [← ht]
  cases o with
  | none => rfl
  | some f => exact failingCheck_lane t f m

/-- What is captured of a failing check in a cycle (R28, R47). -/
theorem cycledLane_capture (s : State) (v : Vec) (n : LaneId) (l : Lane) (i : SocketId) (f : Failing) :
    ((s.cycleBegun v).cycledLane n l).capture i f =
      { check := f
        runSeconds := s.runSeconds
        credit := (s.socket i).credit / 256
        temperature := (s.socket i).estimate.or (s.zone (s.socket i).zone).values.temperature } := by
  have htemperature : ((s.cycleBegun v).cycledLane n l).socketTemperature i = (s.cycleBegun v).socketTemperature i := rfl
  rw [State.capture, htemperature, cycleBegun_temperature]
  rfl

/-- Settles O57: the cycle is the checks of the one eligible lane, mode by mode, and the failing check that they find. -/
theorem compareMismatchScores : Obligations.CompareMismatchScores := by
  intro n sense s vec source i k row p w sample corrected hdue hplay hcycle hn hothers hdrive
  let c : CycleWords := { expect := vec.expect, mask := vec.mask, source, repeatCycle := s.engine.cycle + 1 }
  let l := (s.lane n).cycle n sample c
  let t := (s.cycleBegun vec).cycledLane n l.1
  have hrun : s.vectorCycle sense = l.2.elim t t.failingCheck := vectorCycle_alone hdue hplay hcycle hn hothers hdrive sense
  obtain ⟨hmode, harmed⟩ := eligible_cycled hn
  have hlane : ∀ m : LaneId, (s.vectorCycle sense).lane m = if m = n then l.1 else s.lane m := by
    rw [hrun]; exact elim_failingCheck_lane s vec n l.1 l.2
  have hlane_n : (s.vectorCycle sense).lane n = l.1 := (hlane n).trans (if_pos rfl)
  have hpass : l.2 = none → (s.vectorCycle sense).sockets = s.sockets ∧ (s.vectorCycle sense).reports = s.reports := fun h => by
    rw [hrun, h]
    exact ⟨rfl, rfl⟩
  refine ⟨s.vectorCycle sense, rfl, fun m hm => (hlane m).trans (if_neg hm), ?_, ?_, ?_⟩
  · rw [hlane_n]; exact cycle_row ..
  · rw [hlane_n]; exact cycle_gate
  intro fails passes
  have hfail : ∀ (kind : CheckKind) (expected observed : Bool),
      l.2 = some { kind, lane := n, source, repeatCycle := s.engine.cycle + 1, expected, observed } → fails kind expected observed :=
    fun kind expected observed h => by
      let f : Failing := { kind, lane := n, source, repeatCycle := s.engine.cycle + 1, expected, observed }
      have hu : s.vectorCycle sense = t.failingCheck f := by rw [hrun, h]; rfl
      have hscores := failingCheck_scores (s := t) (f := f) harmed
      dsimp only at hscores
      rw [show t.capture (laneSocket f.lane) f = _ from cycledLane_capture ..] at hscores
      dsimp only [fails]
      rw [hu]
      exact hscores
  rw [hlane_n]
  refine ⟨fun h => ?_, fun h => ?_, fun h => ?_, ?_⟩
  · have hcheck : l.2 = _ := (cycle_compare h).trans (compareCheck_eq ..)
    refine ⟨cycle_prbs_idle (by rw [show (s.lane n).row.mode = _ from h]; exact nofun), ?_⟩
    split <;> rename_i hmiss
    · exact hfail _ _ _ (hcheck.trans (if_pos hmiss))
    · exact hpass (hcheck.trans (if_neg hmiss))
  · obtain ⟨hprbs, hcheck⟩ := cycle_prbs (n := n) (sample := sample) (c := c) h
    intro length predicted shifted
    have hlength : length = (s.lane n).row.polynomial.length := (length_eq _).symm
    have hpredicted : predicted = (s.lane n).row.polynomial.predict p.register := (predict_eq ..).symm
    refine ⟨fun hfill => ?_, fun hfull => ?_⟩
    · rw [prbs_fills n _ c (hlength ▸ hfill)] at hprbs hcheck
      exact ⟨hprbs, hpass hcheck⟩
    · obtain ⟨hregister, herror⟩ := prbs_predicts n corrected c (hlength ▸ hfull)
      rw [← hpredicted] at hregister herror
      refine ⟨hprbs.trans hregister, ?_⟩
      split <;> rename_i hmiss
      · exact hfail _ _ _ (hcheck.trans (herror.trans (if_pos hmiss)))
      · exact hpass (hcheck.trans (herror.trans (if_neg hmiss)))
  · exact ⟨cycle_prbs_idle (by rw [show (s.lane n).row.mode = _ from h]; exact nofun), hpass (cycle_toggle h)⟩
  · refine (cycle_watch (c := c)).trans ?_
    by_cases hwatched : row.mode = .toggle ∨ row.watch = true
    · rw [if_pos ((watched_iff hmode).mpr hwatched), if_pos hwatched]
      cases row.edgeKind with
      | rising => exact watch_counts _ _ (counts_rising ..)
      | falling => exact watch_counts _ _ (counts_falling ..)
      | both => exact watch_counts _ _ (counts_both ..)
    · rw [if_neg (mt (watched_iff hmode).mp hwatched), if_neg hwatched]

end Sys2Proof.Machine
end

/-! ## The stale timers of present and watched values (R65 to R67)

Outside the rails, the heat controller and the intake nothing moves what the watches look at (`monitored`). The rails and the heat
controller keep every timer that is due, and the values they are handed (`Attends`). -/

section
namespace Sys2Proof.Machine

/-- What the watches look at in a zone: the rail's state and wait, the thermal state, and the values with their timers. -/
def Zone.monitored (v : Zone) : RailState × Waiting × ThermalState × Values :=
  (v.rail.state, v.rail.waiting, v.heat.state, v.values)

/-- The same of every zone. -/
def State.monitored (s : State) : ZoneId → RailState × Waiting × ThermalState × Values := fun z => (s.zone z).monitored

theorem monitored_eq {s t : State} (h : ∀ z, (t.zone z).monitored = (s.zone z).monitored) : t.monitored = s.monitored := funext h

theorem monitored_zone {s t : State} (h : t.monitored = s.monitored) (z : ZoneId) : (t.zone z).monitored = (s.zone z).monitored :=
  congrFun h z

theorem monitored_rail {s t : State} (h : t.monitored = s.monitored) (z : ZoneId) :
    (t.zone z).rail.state = (s.zone z).rail.state := congrArg Prod.fst (monitored_zone h z)

theorem monitored_heat {s t : State} (h : t.monitored = s.monitored) (z : ZoneId) :
    (t.zone z).heat.state = (s.zone z).heat.state := congrArg (fun m => m.2.2.1) (monitored_zone h z)

theorem monitored_values {s t : State} (h : t.monitored = s.monitored) (z : ZoneId) : (t.zone z).values = (s.zone z).values :=
  congrArg (fun m => m.2.2.2) (monitored_zone h z)

theorem State.CheckedTo.monitored {s t : State} (h : s.CheckedTo t) : t.monitored = s.monitored :=
  monitored_eq fun z => by rw [h.zone]

variable (s : State)

/-! ### What moves nothing that is monitored -/

theorem updZone_monitored (z : ZoneId) (f : Zone → Zone) (h : (f (s.zone z)).monitored = (s.zone z).monitored) :
    (s.updZone z f).monitored = s.monitored := monitored_eq fun w => by
  rw [State.updZone_zone]
  split
  · subst_vars; exact h
  · rfl

theorem setZones_monitored (f : ZoneId → Zone) (h : ∀ z, (f z).monitored = (s.zone z).monitored) :
    (s.setZones f).monitored = s.monitored := monitored_eq fun z => by rw [State.setZones_zone]; exact h z

theorem updRail_monitored (z : ZoneId) (f : Rail → Rail)
    (h : (f (s.zone z).rail).state = (s.zone z).rail.state ∧ (f (s.zone z).rail).waiting = (s.zone z).rail.waiting) :
    (s.updRail z f).monitored = s.monitored := updZone_monitored s z _ (by simp [Zone.monitored, h])

theorem updHeat_monitored (z : ZoneId) (f : Heat → Heat) (h : (f (s.zone z).heat).state = (s.zone z).heat.state) :
    (s.updHeat z f).monitored = s.monitored := updZone_monitored s z _ (by simp [Zone.monitored, h])

@[simp] theorem updSearch_monitored (z : ZoneId) (f : Search → Search) : (s.updSearch z f).monitored = s.monitored :=
  updZone_monitored s z _ rfl

@[simp] theorem updEngine_monitored (f : Engine → Engine) : (s.updEngine f).monitored = s.monitored := rfl
@[simp] theorem updStep_monitored (f : StepCtl → StepCtl) : (s.updStep f).monitored = s.monitored := rfl
@[simp] theorem updHalt_monitored (f : Halt → Halt) : (s.updHalt f).monitored = s.monitored := rfl
@[simp] theorem updLink_monitored (f : Link → Link) : (s.updLink f).monitored = s.monitored := rfl
@[simp] theorem evaluateOutput_monitored : s.evaluateOutput.monitored = s.monitored := rfl
@[simp] theorem evaluateSwitches_monitored (named : SocketId → Bool) : (s.evaluateSwitches named).monitored = s.monitored := rfl

@[simp] theorem report_monitored (r : Record) : (s.report r).monitored = s.monitored := (report_checked s r).monitored
@[simp] theorem reportZone_monitored (z : ZoneId) (e : ZoneEvent) : (s.reportZone z e).monitored = s.monitored :=
  report_monitored ..
@[simp] theorem reportStep_monitored (e : StepEvent) : (s.reportStep e).monitored = s.monitored := report_monitored ..
@[simp] theorem reportPattern_monitored (e : PatternEvent) (b x : Option Nat) : (s.reportPattern e b x).monitored = s.monitored :=
  report_monitored ..

@[simp] theorem notice_monitored (l : Latch) (named : ZoneId → Bool) : (s.notice l named).monitored = s.monitored :=
  monitored_eq fun z => by rw [notice_zone_cases]; rfl

@[simp] theorem noticeZone_monitored (l : Latch) (z : ZoneId) : (s.noticeZone l z).monitored = s.monitored := notice_monitored ..
@[simp] theorem noticeAll_monitored (l : Latch) : (s.noticeAll l).monitored = s.monitored := notice_monitored ..

@[simp] theorem testStopping_monitored : s.testStopping.monitored = s.monitored := monitored_eq fun z => by rw [testStopping_zone]

theorem forEach_monitored {α : Type} {xs : List α} {f : α → State → State} (h : ∀ x s, (f x s).monitored = s.monitored) :
    (forEach xs f s).monitored = s.monitored :=
  forEach_keeps (P := fun t => t.monitored = s.monitored) (fun x _ t ht => (h x t).trans ht) rfl

theorem freely_monitored {α : Type} (xs : List α) : (freely xs s).2.monitored = s.monitored := by rw [freely_state]; rfl

/-! ### The engine (08_pattern_drive.md) -/

@[simp] theorem watchExercise_monitored {f : State → State} (h : (f s).monitored = s.monitored) :
    (s.watchExercise f).monitored = s.monitored := (notice_monitored ..).trans h

@[simp] theorem stopEngine_monitored : s.stopEngine.monitored = s.monitored := watchExercise_monitored s rfl

@[simp] theorem stopEngineAtOnce_monitored : s.stopEngineAtOnce.monitored = s.monitored := stopEngine_monitored s

@[simp] theorem enterStarved_monitored : s.enterStarved.monitored = s.monitored :=
  (noticeAll_monitored ..).trans ((reportPattern_monitored ..).trans (watchExercise_monitored s rfl))

@[simp] theorem resume_monitored : s.resume.monitored = s.monitored := by
  unfold State.resume
  split <;> simp

@[simp] theorem chooseNext_monitored (was : EngineState) : (s.chooseNext was).monitored = s.monitored := by
  unfold State.chooseNext
  dsimp only
  (repeat' split) <;> simp

/-- A choice between a move that leaves all that is monitored and none. -/
theorem ite_monitored {p : Prop} [Decidable p] {s t : State} (h : t.monitored = s.monitored) :
    (if p then t else s).monitored = s.monitored := by
  split
  · exact h
  · rfl

@[simp] theorem boundary_monitored : s.boundary.monitored = s.monitored := ite_monitored (chooseNext_monitored ..)

@[simp] theorem trackBlock_monitored (b : Block) : (s.trackBlock b).monitored = s.monitored :=
  monitored_eq fun z => by rw [(trackBlock_engaged s b).zone]; split <;> rfl

@[simp] theorem refuseBlock_monitored (b : Block) (e : PatternEvent) : (s.refuseBlock b e).monitored = s.monitored :=
  (noticeAll_monitored ..).trans (reportPattern_monitored ..)

@[simp] theorem takeBlock_monitored (b : Block) : (s.takeBlock b).monitored = s.monitored := by
  rcases takeBlock_cases s b with ⟨-, e⟩ | ⟨-, -, e⟩ | ⟨-, -, ⟨-, e⟩ | ⟨-, e⟩⟩ <;> rw [e] <;> simp

@[simp] theorem loadLoop_monitored (first : Nat) (vs : List Vec) (isLast : Bool) :
    (s.loadLoop first vs isLast).monitored = s.monitored := by
  unfold State.loadLoop
  exact ite_monitored (resume_monitored _)

@[simp] theorem writeDrive_monitored (rows : List (Fin 64 × DriveRow)) : (s.writeDrive rows).monitored = s.monitored := by
  unfold State.writeDrive
  dsimp only
  split <;> rfl

@[simp] theorem driveCycle_monitored : s.driveCycle.monitored = s.monitored := by
  unfold State.driveCycle
  dsimp only
  rw [setZones_monitored]
  · exact watchExercise_monitored s rfl
  · exact fun _ => rfl

@[simp] theorem startCycle_monitored (sense : BitVec 64) : (s.startCycle sense).monitored = s.monitored := by
  unfold State.startCycle
  dsimp only
  split
  · exact (checkLanes_checked ..).monitored.trans (driveCycle_monitored s)
  · exact driveCycle_monitored s

@[simp] theorem endDueWindows_monitored : s.endDueWindows.monitored = s.monitored := (endDueWindows_checked s).monitored

@[simp] theorem vectorCycle_monitored (sense : BitVec 64) : (s.vectorCycle sense).monitored = s.monitored := by
  unfold State.vectorCycle
  dsimp only
  (repeat' split) <;> simp

@[simp] theorem chooseFirst_monitored : s.chooseFirst.monitored = s.monitored := by
  unfold State.chooseFirst
  dsimp only
  split <;> simp

@[simp] theorem firstCycle_monitored : s.firstCycle.monitored = s.monitored := startCycle_monitored ..

@[simp] theorem startEngine_monitored : s.startEngine.monitored = s.monitored := by
  have hrow : ∀ (t : State) (d : Table 64 DriveRow), ({ t with driveInEffect := d } : State).monitored = t.monitored :=
    fun _ _ => rfl
  unfold State.startEngine
  dsimp only
  rw [firstCycle_monitored, chooseFirst_monitored, hrow, endDueWindows_monitored]

@[simp] theorem enginePromoted_monitored (old : PatternSource) : (s.enginePromoted old).monitored = s.monitored := by
  unfold State.enginePromoted
  dsimp only
  (repeat' split) <;> simp

/-! ### Accounting -/

theorem transfer_monitored : s.transfer.monitored = s.monitored := monitored_eq fun z => by rw [transfer_zone]

theorem intervalWork_monitored : s.intervalWork.monitored = s.monitored := by
  have ha : ∀ t : State, t.accrue.monitored = t.monitored := fun t => (accrue_checked t).monitored
  have hc : ∀ t : State, t.closeInterval.monitored = t.monitored := fun t => monitored_eq fun z => by rw [closeInterval_zone]; rfl
  have hn : ({ s with freeIndex := s.freeIndex + 1 } : State).monitored = s.monitored := rfl
  rcases intervalWork_cases s with ⟨-, h⟩ | ⟨-, t, rfl, h | h | h⟩ <;> rw [h] <;> simp only [ha, hc, transfer_monitored, hn]

end Sys2Proof.Machine
end

section
namespace Sys2Proof.Machine

/-! ### Zones watched but for some quantities -/

/-- Does the intake hold a value of the quantity (R64)? -/
def Values.has (v : Values) : Quantity → Bool
  | .voltage => v.voltage.isSome
  | .current => v.current.isSome
  | .temperature => v.temperature.isSome

/-- Is the quantity watched: voltage and current while the rail is powered, the temperature under heat control (R67)? -/
def Zone.watches (v : Zone) : Quantity → Prop
  | .voltage | .current => v.rail.state.powered = true
  | .temperature => v.heat.state ≠ .off

/-- A running timer for every value present and every value watched, but for watches that are excused; with it, that a rail waits
POWER_DOWN only while it is powered, so that the start of its power-down puts no unwatched rail under power (R78). -/
structure Zone.WatchedBut (v : Zone) (excused : Quantity → Prop) : Prop where
  present (q : Quantity) : v.values.has q = true → v.values.timer q = true
  watched (q : Quantity) : v.watches q → v.values.timer q = true ∨ excused q
  waits : v.rail.waiting = .powerDown → v.rail.state.powered = true

/-- The same of every zone. -/
def State.WatchedBut (s : State) (x : ZoneId → Quantity → Prop) : Prop := ∀ z, (s.zone z).WatchedBut (x z)

/-- No watch is excused. -/
abbrev State.FullyWatched (s : State) : Prop := s.WatchedBut fun _ _ => False

theorem watched_iff_timers (v : Zone) :
    v.Watched ↔ (∀ q, v.values.has q = true → v.values.timer q = true) ∧ ∀ q, v.watches q → v.values.timer q = true := by
  constructor
  · rintro ⟨hv, hc, ht, hrail, hheat⟩
    refine ⟨fun q => ?_, fun q => ?_⟩ <;> cases q
    · exact hv
    · exact hc
    · exact ht
    · exact fun h => (hrail h).1
    · exact fun h => (hrail h).2
    · exact hheat
  · rintro ⟨hpresent, hwatched⟩
    exact ⟨hpresent .voltage, hpresent .current, hpresent .temperature,
      fun h => ⟨hwatched .voltage h, hwatched .current h⟩, hwatched .temperature⟩

/-- In consistent rail records this is what `TimersWatched` says. -/
theorem fullyWatched_of_timers {s : State} (hr : s.RailsConsistent) (h : s.TimersWatched) : s.FullyWatched := fun z => by
  obtain ⟨hpresent, hwatched⟩ := (watched_iff_timers _).mp (h z)
  obtain ⟨-, -, -, hwaits, -⟩ := hr z
  exact ⟨hpresent, fun q hq => .inl (hwatched q hq), hwaits⟩

theorem timers_of_fullyWatched {s : State} (h : s.FullyWatched) : s.TimersWatched := fun z =>
  (watched_iff_timers _).mpr ⟨(h z).present, fun q hq => ((h z).watched q hq).resolve_right id⟩

namespace Zone.WatchedBut

variable {v w : Zone} {e : Quantity → Prop}

theorem of_monitored (hv : v.WatchedBut e) (h : w.monitored = v.monitored) : w.WatchedBut e := by
  simp only [Zone.monitored, Prod.mk.injEq] at h
  obtain ⟨hstate, hwaiting, hheat, hvalues⟩ := h
  have hwatches : ∀ q, w.watches q → v.watches q := fun q => by
    cases q <;> simp only [Zone.watches, hstate, hheat] <;> exact id
  refine ⟨?_, fun q hq => ?_, ?_⟩
  · rw [hvalues]; exact hv.present
  · rw [hvalues]; exact hv.watched q (hwatches q hq)
  · rw [hwaiting, hstate]; exact hv.waits

/-- A rail that is not newly powered. -/
theorem rail (hv : v.WatchedBut e) {r : Rail} (hp : r.state.powered = true → v.rail.state.powered = true)
    (hw : r.waiting = .powerDown → r.state.powered = true) : ({ v with rail := r } : Zone).WatchedBut e where
  present := hv.present
  watched q hq := hv.watched q (by
    cases q with
    | voltage => exact hp hq
    | current => exact hp hq
    | temperature => exact hq)
  waits := hw

/-- A heater that is not newly at work, or whose watch is excused. -/
theorem heat (hv : v.WatchedBut e) {h : Heat} (hh : h.state ≠ .off → v.heat.state ≠ .off ∨ e .temperature) :
    ({ v with heat := h } : Zone).WatchedBut e where
  present := hv.present
  watched q hq := by
    cases q with
    | voltage => exact hv.watched .voltage hq
    | current => exact hv.watched .current hq
    | temperature => exact (hh hq).elim (hv.watched .temperature) .inr
  waits := hv.waits

/-- More timers run. -/
theorem values (hv : v.WatchedBut e) {x : Values} (hhas : ∀ q, x.has q = v.values.has q)
    (ht : ∀ q, v.values.timer q = true → x.timer q = true) : ({ v with values := x } : Zone).WatchedBut e where
  present q hq := ht q (hv.present q (hhas q ▸ hq))
  watched q hq := (hv.watched q hq).imp_left (ht q)
  waits := hv.waits

end Zone.WatchedBut

/-! ### Moves of the rails, the search and the heat controller -/

/-- From `v` to `w` the values stand, and the timers that run run on. -/
structure Values.RunsOn (v w : Values) : Prop where
  voltage : w.voltage = v.voltage
  current : w.current = v.current
  temperature : w.temperature = v.temperature
  timer (q : Quantity) : v.timer q = true → w.timer q = true

theorem Values.RunsOn.refl (v : Values) : v.RunsOn v := ⟨rfl, rfl, rfl, fun _ => id⟩

theorem Values.RunsOn.trans {v w u : Values} (h : v.RunsOn w) (h' : w.RunsOn u) : v.RunsOn u :=
  ⟨h'.voltage.trans h.voltage, h'.current.trans h.current, h'.temperature.trans h.temperature, fun q => h'.timer q ∘ h.timer q⟩

theorem Values.RunsOn.has {v w : Values} (h : v.RunsOn w) (q : Quantity) : w.has q = v.has q := by
  cases q <;> simp only [Values.has, h.voltage, h.current, h.temperature]

/-- From `s` to `t` every zone stays watched but for what `x` excuses, the values stand, and the timers that run run on. -/
structure State.Attends (s : State) (x : ZoneId → Quantity → Prop) (t : State) : Prop where
  watched : s.WatchedBut x → t.WatchedBut x
  values (z : ZoneId) : (s.zone z).values.RunsOn (t.zone z).values

variable {x : ZoneId → Quantity → Prop}

theorem State.Attends.refl (s : State) : s.Attends x s := ⟨id, fun _ => .refl _⟩

theorem State.Attends.trans {s t u : State} (h : s.Attends x t) (h' : t.Attends x u) : s.Attends x u :=
  ⟨h'.watched ∘ h.watched, fun z => (h.values z).trans (h'.values z)⟩

theorem attends_of_monitored {s t : State} (h : t.monitored = s.monitored) : s.Attends x t :=
  ⟨fun hs z => (hs z).of_monitored (monitored_zone h z), fun z => monitored_values h z ▸ .refl _⟩

/-- What leaves all that is monitored may follow a move. -/
theorem State.Attends.then {s t u : State} (h : s.Attends x t) (h' : u.monitored = t.monitored) : s.Attends x u :=
  h.trans (attends_of_monitored h')

theorem forEach_attends {α : Type} (xs : List α) {f : α → State → State} (h : ∀ (a : α) (s : State), s.Attends x (f a s))
    (s : State) : s.Attends x (forEach xs f s) :=
  forEach_keeps (P := s.Attends x) (fun a _ _ hs => hs.trans (h a _)) (.refl s)

theorem forEachFreely_attends {α : Type} (xs : List α) {f : α → State → State} 
    (h : ∀ (a : α) (s : State), s.Attends x (f a s)) (s : State) : s.Attends x (forEachFreely xs f s) :=
  forEachFreely_keeps (P := s.Attends x) (fun _ _ hs => hs.then rfl) (fun a _ _ hs => hs.trans (h a _)) (.refl s)

/-- A choice between a move and none. -/
theorem ite_attends {p : Prop} [Decidable p] {s t : State} (h : p → s.Attends x t) : s.Attends x (if p then t else s) := by
  split
  · exact h ‹_›
  · exact .refl s

/-- A move of one zone's record. -/
theorem attends_of_zone {s t : State} {z : ZoneId} (hother : ∀ w, w ≠ z → t.zone w = s.zone w)
    (h : (s.zone z).WatchedBut (x z) → (t.zone z).WatchedBut (x z)) (hv : (s.zone z).values.RunsOn (t.zone z).values) :
    s.Attends x t := by
  refine ⟨fun hs w => ?_, fun w => ?_⟩ <;> by_cases hw : w = z
  · exact hw ▸ h (hs z)
  · rw [hother w hw]; exact hs w
  · exact hw ▸ hv
  · rw [hother w hw]; exact .refl _

variable (s : State)

theorem updZone_attends (z : ZoneId) (f : Zone → Zone) (h : (s.zone z).WatchedBut (x z) → (f (s.zone z)).WatchedBut (x z))
    (hv : (s.zone z).values.RunsOn (f (s.zone z)).values) : s.Attends x (s.updZone z f) := by
  refine attends_of_zone (z := z) (fun w hw => ?_) ?_ ?_
  · rw [State.updZone_zone, if_neg hw.symm]
  · rw [State.updZone_zone_same]; exact h
  · rw [State.updZone_zone_same]; exact hv

theorem updRail_attends (z : ZoneId) (f : Rail → Rail) (h : (f (s.zone z).rail).state = (s.zone z).rail.state)
    (hw : (f (s.zone z).rail).waiting = .powerDown → (s.zone z).rail.state.powered = true) : s.Attends x (s.updRail z f) :=
  updZone_attends s z _ (fun hs => hs.rail (by rw [h]; exact id) (by rw [h]; exact hw)) (.refl _)

theorem updHeat_attends (z : ZoneId) (f : Heat → Heat)
    (h : (f (s.zone z).heat).state ≠ .off → (s.zone z).heat.state ≠ .off ∨ x z .temperature) : s.Attends x (s.updHeat z f) :=
  updZone_attends s z _ (·.heat h) (.refl _)

theorem updValues_attends (z : ZoneId) (f : Values → Values) (h : (s.zone z).values.RunsOn (f (s.zone z).values)) :
    s.Attends x (s.updValues z f) :=
  updZone_attends s z _ (·.values h.has h.timer) h

theorem watchRail_runsOn (v : Values) : v.RunsOn v.watchRail := by
  refine ⟨rfl, rfl, rfl, fun q => ?_⟩
  cases q with
  | voltage => exact fun _ => rfl
  | current => exact fun _ => rfl
  | temperature => exact id

theorem watchHeat_runsOn (v : Values) : v.RunsOn v.watchHeat := by
  refine ⟨rfl, rfl, rfl, fun q => ?_⟩
  cases q with
  | voltage => exact id
  | current => exact id
  | temperature => exact fun _ => rfl

/-! ### The rails (05_zone_rails.md) -/

/-- A rail enters a state out of a record that has just been written. -/
theorem updZone_enterRail_attends (z : ZoneId) (f : Zone → Zone) (new : RailState)
    (h : (s.zone z).WatchedBut (x z) →
      ({ f (s.zone z) with rail := { (f (s.zone z)).rail with state := new } } : Zone).WatchedBut (x z))
    (hv : (s.zone z).values.RunsOn (f (s.zone z)).values) : s.Attends x ((s.updZone z f).enterRail z new) := by
  refine attends_of_zone (z := z) (fun w hw => ?_) (fun hs => ?_) ?_
  · rw [enterRail_zone_other _ hw, State.updZone_zone, if_neg hw.symm]
  · rw [enterRail_zone_same, State.updZone_zone_same]
    exact (h hs).of_monitored rfl
  · rw [enterRail_zone_same, State.updZone_zone_same]; exact hv

/-- A rail enters a state that does not put it under power, with a wait only where it may have one (R78). -/
theorem enterRail_attends (z : ZoneId) (f : Rail → Rail) (new : RailState)
    (hp : new.powered = true → (s.zone z).WatchedBut (x z) → (s.zone z).rail.state.powered = true)
    (hw : (f (s.zone z).rail).waiting = .powerDown →
      new.powered = true ∨ ((s.zone z).rail.waiting = .powerDown ∧ (s.zone z).rail.state.powered = false)) :
    s.Attends x ((s.updRail z f).enterRail z new) :=
  updZone_enterRail_attends s z _ new (fun hs => hs.rail (hp · hs) fun hwait =>
    (hw hwait).elim id fun ⟨hw, hoff⟩ => absurd (hs.waits hw) (by simp [hoff])) (.refl _)

/-- A start of power-up starts the watch with it (R67, R74). -/
theorem startPowerUp_attends (z : ZoneId) : s.Attends x (s.startPowerUp z) := by
  have hrail : s.Attends x (s.updRail z fun r => { r with setpoint := 0, rampTimer := true, waiting := .none }) :=
    updRail_attends s z _ rfl (by simp)
  refine hrail.trans (updZone_enterRail_attends _ z (fun v => { v with values := v.values.watchRail }) .ramping (fun hs => ?_)
    (watchRail_runsOn _))
  obtain ⟨hpresent, hwatched, -⟩ := hs.values (watchRail_runsOn _).has (watchRail_runsOn _).timer
  refine ⟨hpresent, fun q hq => ?_, fun _ => rfl⟩
  cases q with
  | voltage => exact .inl rfl
  | current => exact .inl rfl
  | temperature => exact hwatched .temperature hq

theorem tryPowerUp_attends (z : ZoneId) : s.Attends x (s.tryPowerUp z) := by
  unfold State.tryPowerUp
  split
  · exact startPowerUp_attends s z
  · exact updRail_attends s z _ rfl (by simp)

theorem retestUp_attends (z : ZoneId) : s.Attends x (s.retestUp z) := ite_attends fun _ => startPowerUp_attends s z

theorem retestAllUp_attends : s.Attends x s.retestAllUp := forEach_attends _ (fun z t => retestUp_attends t z) s

@[simp] theorem endSearchAbandoned_monitored (z : ZoneId) : (s.endSearchAbandoned z).monitored = s.monitored := by
  simp [State.endSearchAbandoned]

@[simp] theorem abandonSearch_monitored (z : ZoneId) : (s.abandonSearch z).monitored = s.monitored := by
  simp [State.abandonSearch]

theorem enterOff_attends (z : ZoneId) : s.Attends x (s.enterOff z) :=
  (enterRail_attends s z _ .off nofun (by simp)).then (testStopping_monitored _)

/-- Power-down goes through RAMPING, in a rail that is powered already (R78). -/
theorem beginPowerDown_attends (z : ZoneId) (h : (s.zone z).WatchedBut (x z) → (s.zone z).rail.state.powered = true) :
    s.Attends x (s.beginPowerDown z) := by
  have habandon : (if (s.zone z).rail.state = .searching then s.abandonSearch z else s).monitored = s.monitored :=
    ite_monitored (abandonSearch_monitored s z)
  unfold State.beginPowerDown
  dsimp only
  generalize (if (s.zone z).rail.state = .searching then s.abandonSearch z else s) = t at habandon ⊢
  have hp : (t.zone z).WatchedBut (x z) → (t.zone z).rail.state.powered = true := fun ht => by
    rw [monitored_rail habandon]
    exact h (ht.of_monitored (monitored_zone habandon z).symm)
  exact ((attends_of_monitored habandon).trans (enterRail_attends t z _ .ramping (fun _ => hp) (by simp))).trans
    (ite_attends fun _ => enterOff_attends _ z)

/-- A watched rail that waits POWER_DOWN is powered. -/
theorem readyDown_powered {s : State} {z : ZoneId} (h : s.readyDown z = true) (hs : (s.zone z).WatchedBut (x z)) :
    (s.zone z).rail.state.powered = true := by
  simp only [State.readyDown, Bool.and_eq_true, decide_eq_true_eq] at h
  exact hs.waits h.1.1

theorem retestDown_attends (fuel : Nat) : s.Attends x (State.retestDown fuel s) := by
  induction fuel generalizing s with
  | zero => exact .refl s
  | succ fuel ih =>
    have hfree := freely_monitored s (allZones.filter fun z => s.readyDown z)
    have hperm := freely_perm (allZones.filter fun z => s.readyDown z) s
    unfold State.retestDown
    split <;> rename_i e <;> rw [e] at hfree hperm
    · exact attends_of_monitored hfree
    · rename_i z rest t
      have hready : s.readyDown z = true := (List.mem_filter.mp (hperm.subset List.mem_cons_self)).2
      have hp : (t.zone z).WatchedBut (x z) → (t.zone z).rail.state.powered = true := fun ht => by
        rw [monitored_rail hfree]
        exact readyDown_powered hready (ht.of_monitored (monitored_zone hfree z).symm)
      exact ((attends_of_monitored hfree).trans (beginPowerDown_attends t z hp)).trans (ih _)

theorem retestAllDown_attends : s.Attends x s.retestAllDown := retestDown_attends s 4

theorem rampedOff_attends (z : ZoneId) : s.Attends x (s.rampedOff z) := (enterOff_attends ..).trans (retestAllDown_attends _)

theorem trip_attends (z : ZoneId) (c : TripCause) : s.Attends x (s.trip z c) := by
  unfold State.trip
  dsimp only
  split
  · exact .refl s
  · have hsearch : (if (s.zone z).search.phase = .idle then s else s.endSearchAbandoned z).monitored = s.monitored := by
      split
      · rfl
      · exact endSearchAbandoned_monitored s z
    generalize (if (s.zone z).search.phase = .idle then s else s.endSearchAbandoned z) = t at hsearch ⊢
    have hentry := ((attends_of_monitored (x := x) hsearch).trans
      (enterRail_attends t z (fun r => r.cut c) .tripped nofun nofun)).then (reportZone_monitored _ z (.railTripped c))
    exact (hentry.trans (ite_attends fun _ => attends_of_monitored
      ((evaluateOutput_monitored _).trans (updRail_monitored _ z _ ⟨rfl, rfl⟩)))).trans
        ((attends_of_monitored (testStopping_monitored _)).trans (retestAllDown_attends _))

/-- A TRIPPED rail waits for no power-down, and none that is cleared does (R85). -/
theorem clearTrip_attends (z : ZoneId) : s.Attends x (s.clearTrip z) := by
  unfold State.clearTrip
  refine ite_attends fun htripped => ?_
  have hclear : s.Attends x ((s.updRail z fun r => { r with tripCause := none, haltSource := false }).enterRail z .off) :=
    enterRail_attends s z _ .off nofun fun hw => .inr ⟨hw, by rw [htripped]; rfl⟩
  exact ((hclear.then (evaluateOutput_monitored _)).trans (ite_attends fun _ => tryPowerUp_attends _ z)).trans
    ((attends_of_monitored (testStopping_monitored _)).trans (retestAllDown_attends _))

theorem enterConfirming_attends (z : ZoneId) (h : (s.zone z).rail.state.powered = true) : s.Attends x (s.enterConfirming z) :=
  enterRail_attends s z _ .confirming (fun _ _ => h) fun _ => .inl rfl

theorem enterHold_attends (z : ZoneId) (e : ZoneEvent) (h : (s.zone z).rail.state.powered = true) :
    s.Attends x (s.enterHold z e) :=
  ((enterRail_attends s z _ .hold (fun _ _ => h) fun _ => .inl rfl).then (reportZone_monitored ..)).trans (retestAllUp_attends _)

theorem voltageSample_attends (z : ZoneId) (mv : Nat) : s.Attends x (s.voltageSample z mv) := by
  have hnote : ∀ f : Rail → Rail, (∀ r, (f r).state = r.state ∧ (f r).waiting = r.waiting) →
      (s.updRail z f).monitored = s.monitored := fun f h => updRail_monitored s z f (h _)
  have hcount := (noticeZone_monitored _ .rail z).trans
    (hnote (fun r => { r with oowCount := r.oowCount + 1 }) fun _ => ⟨rfl, rfl⟩)
  unfold State.voltageSample
  dsimp only
  split <;> rename_i hstate
  · split
    · exact enterHold_attends s z _ (by rw [hstate]; rfl)
    · exact attends_of_monitored (hnote _ fun _ => ⟨rfl, rfl⟩)
  · split
    · exact attends_of_monitored (hnote _ fun _ => ⟨rfl, rfl⟩)
    · split
      · exact (attends_of_monitored hcount).trans (trip_attends ..)
      · exact attends_of_monitored hcount
  all_goals exact .refl s

theorem railStale_attends (z : ZoneId) : s.Attends x (s.railStale z) := ite_attends fun _ => trip_attends ..

theorem rampStep_attends (z : ZoneId) : s.Attends x (s.rampStep z) := by
  unfold State.rampStep
  refine ite_attends fun hramping => ?_
  dsimp only
  have hstep : (s.updRail z fun r => { r with
      setpoint := rampToward (s.zone z).cfg.rampRate (s.zone z).rail.setpoint ((s.zone z).rail.goal.getD 0) }).monitored =
      s.monitored := updRail_monitored s z _ ⟨rfl, rfl⟩
  refine (attends_of_monitored hstep).trans (ite_attends fun _ => ?_)
  split
  · exact enterConfirming_attends _ z (by rw [monitored_rail hstep, hramping.1]; rfl)
  · exact rampedOff_attends ..

theorem confirmExpired_attends (z : ZoneId) : s.Attends x (s.confirmExpired z) := ite_attends fun _ => trip_attends ..

/-- A powered rail that takes a new goal ramps toward it (R77). -/
theorem redirect_attends (z : ZoneId) (h : (s.zone z).rail.state.powered = true) : s.Attends x (s.redirect z) := by
  unfold State.redirect
  dsimp only
  have habandon : (if (s.zone z).rail.state = .searching then s.abandonSearch z else s).monitored = s.monitored :=
    ite_monitored (abandonSearch_monitored s z)
  generalize (if (s.zone z).rail.state = .searching then s.abandonSearch z else s) = t at habandon ⊢
  have hclear : (if (t.zone z).rail.state = .hold then t.updRail z fun r => { r with oowCount := 0 } else t).monitored =
      t.monitored := ite_monitored (updRail_monitored t z _ ⟨rfl, rfl⟩)
  generalize (if (t.zone z).rail.state = .hold then t.updRail z fun r => { r with oowCount := 0 } else t) = u at hclear ⊢
  have hu := hclear.trans habandon
  refine (attends_of_monitored hu).trans ((enterRail_attends u z _ .ramping (fun _ _ => by rwa [monitored_rail hu]) (by simp)).trans
    (ite_attends fun _ => enterConfirming_attends _ z ?_))
  rw [enterRail_zone_same]
  rfl

theorem goalChange_attends (z : ZoneId) : s.Attends x (s.goalChange z) := by
  unfold State.goalChange
  refine State.Attends.trans (?_ : s.Attends x _) ((retestAllUp_attends _).trans (retestAllDown_attends _))
  have hpowered : (s.zone z).rail.state ≠ .tripped → (s.zone z).rail.state ≠ .off → (s.zone z).rail.state.powered = true := by
    cases (s.zone z).rail.state <;> simp [RailState.powered]
  split
  · exact .refl s
  · exact tryPowerUp_attends ..
  · exact updRail_attends s z _ rfl (by simp)
  · exact redirect_attends s z (hpowered ‹_› ‹_›)
  · split
    · exact beginPowerDown_attends s z fun _ => hpowered ‹_› ‹_›
    · exact updRail_attends s z _ rfl fun _ => hpowered ‹_› ‹_›

theorem setGoals_monitored (goals : ZoneId → Option Nat) : (s.setGoals goals).monitored = s.monitored :=
  setZones_monitored s _ fun _ => rfl

theorem formGoals_attends (goals : ZoneId → Option Nat) : s.Attends x (s.formGoals goals) :=
  (attends_of_monitored (setGoals_monitored ..)).trans (forEachFreely_attends _ (fun z t => goalChange_attends t z) _)

theorem writeOrder_attends (zs : List ZoneId) : s.Attends x (s.writeOrder zs) := by
  have hw : ({ s with order := zs } : State).monitored = s.monitored := rfl
  unfold State.writeOrder
  refine (attends_of_monitored hw).trans ((forEachFreely_attends _ (fun z t => ?_) _).trans (retestAllDown_attends _))
  split
  · exact beginPowerDown_attends t z (readyDown_powered ‹_›)
  · exact retestUp_attends ..

/-! ### The search (06_isolation_search.md) -/

@[simp] theorem shedNext_monitored (z : ZoneId) : (s.shedNext z).monitored = s.monitored := by
  unfold State.shedNext
  dsimp only
  split <;> simp

theorem searchOn_attends (z : ZoneId) : s.Attends x (s.searchOn z) := by
  unfold State.searchOn State.exhaust
  split
  · exact (attends_of_monitored ((updSearch_monitored ..).trans (reportZone_monitored ..))).trans (trip_attends ..)
  · exact attends_of_monitored (shedNext_monitored s z)

theorem clearSearch_attends (z : ZoneId) (h : (s.zone z).rail.state.powered = true) : s.Attends x (s.clearSearch z) := by
  have hends : ∀ named : SocketId → Bool, ((s.updSearch z fun _ => {}).evaluateSwitches named).monitored = s.monitored :=
    fun _ => (evaluateSwitches_monitored ..).trans (updSearch_monitored ..)
  exact (attends_of_monitored (hends _)).trans (enterHold_attends _ z _ (by rwa [monitored_rail (hends _)]))

theorem startSearch_attends (z : ZoneId) (ma : Nat) (h : (s.zone z).rail.state.powered = true) :
    s.Attends x (s.startSearch z ma) :=
  (((enterRail_attends s z _ .searching (fun _ _ => h) fun _ => .inl rfl).then (updSearch_monitored ..)).then
    (reportZone_monitored ..)).trans (searchOn_attends ..)

theorem measure_attends (z : ZoneId) (ma : Nat) (h : (s.zone z).rail.state.powered = true) : s.Attends x (s.measure z ma) := by
  unfold State.measure
  dsimp only
  split
  · rename_i i _ _ _
    have hfound : ((s.finding i .short).reportZone z (.searchCulprit i)).monitored = s.monitored :=
      (reportZone_monitored ..).trans (finding_turns s i .short).checked.monitored
    (repeat' split)
    · exact (attends_of_monitored hfound).trans (clearSearch_attends _ z (by rwa [monitored_rail hfound]))
    · exact (attends_of_monitored ((updSearch_monitored ..).trans hfound)).trans (searchOn_attends ..)
    · exact searchOn_attends ..
  · exact .refl s

theorem currentSample_attends (z : ZoneId) (ma : Nat) : s.Attends x (s.currentSample z ma) := by
  unfold State.currentSample
  refine ite_attends fun hpowered => ?_
  (repeat' split)
  · exact trip_attends ..
  · exact startSearch_attends s z ma hpowered
  · exact measure_attends s z ma hpowered
  · exact .refl s

theorem settleExpired_attends (z : ZoneId) : s.Attends x (s.settleExpired z) :=
  ite_attends fun _ => attends_of_monitored (updSearch_monitored ..)

end Sys2Proof.Machine
end

section
namespace Sys2Proof.Machine

variable {x : ZoneId → Quantity → Prop} (s : State)

/-! ### The heat controller (07_zone_heat.md) -/

/-- A zone whose heat controller may be at work: it is already, or the watch on its temperature is excused. -/
def State.MayHeat (s : State) (x : ZoneId → Quantity → Prop) (z : ZoneId) : Prop :=
  (s.zone z).heat.state ≠ .off ∨ x z .temperature

theorem State.MayHeat.then {s t : State} {z : ZoneId} (h : s.MayHeat x z) (h' : t.monitored = s.monitored) : t.MayHeat x z := by
  rwa [State.MayHeat, monitored_heat h']

theorem heats_attends {s : State} {z : ZoneId} (h : s.MayHeat x z) (f : Heat → Heat) : s.Attends x (s.updHeat z f) :=
  updHeat_attends s z f fun _ => h

@[simp] theorem leaveStable_monitored (z : ZoneId) : (s.leaveStable z).monitored = s.monitored :=
  ite_monitored (noticeZone_monitored ..)

theorem heatOff_attends (z : ZoneId) : s.Attends x (s.heatOff z) := updHeat_attends s z _ fun h => absurd rfl h

variable {s}

theorem enterBlind_attends {z : ZoneId} (h : s.MayHeat x z) : s.Attends x (s.enterBlind z) :=
  ((attends_of_monitored (leaveStable_monitored s z)).trans (heats_attends (h.then (leaveStable_monitored s z)) _)).then
    (reportZone_monitored ..)

theorem enterOvertemp_attends {z : ZoneId} (h : s.MayHeat x z) : s.Attends x (s.enterOvertemp z) :=
  ((((attends_of_monitored (leaveStable_monitored s z)).trans (heats_attends (h.then (leaveStable_monitored s z)) _)).then
    (reportZone_monitored ..)).trans (trip_attends ..)).then (evaluateOutput_monitored _)

theorem enterStable_attends {z : ZoneId} (h : s.MayHeat x z) : s.Attends x (s.enterStable z) :=
  (heats_attends h _).then (reportZone_monitored ..)

theorem enterSide_attends {z : ZoneId} (h : s.MayHeat x z) (side : Side) : s.Attends x (s.enterSide z side) := heats_attends h _

theorem enterSoaking_attends {z : ZoneId} (h : s.MayHeat x z) : s.Attends x (s.enterSoaking z) := by
  unfold State.enterSoaking
  dsimp only
  split
  · exact enterStable_attends h
  · exact heats_attends h _

theorem place_attends {z : ZoneId} (h : s.MayHeat x z) (target : Int) (t : Option Int) : s.Attends x (s.place z target t) := by
  unfold State.place
  dsimp only
  (repeat' split)
  · exact enterBlind_attends h
  · exact enterOvertemp_attends h
  · exact enterSide_attends h _
  · exact enterSoaking_attends h

/-! ### Targets (R106 to R108) -/

/-- The watches that `x` excuses, and that on one quantity of one zone. -/
def excusing (x : ZoneId → Quantity → Prop) (z : ZoneId) (q : Quantity) (w : ZoneId) (r : Quantity) : Prop :=
  x w r ∨ (w = z ∧ r = q)

theorem State.WatchedBut.excuse (h : s.WatchedBut x) (z : ZoneId) (q : Quantity) : s.WatchedBut (excusing x z q) := fun w =>
  ⟨(h w).present, fun r hr => ((h w).watched r hr).imp_right .inl, (h w).waits⟩

/-- The heat controller's watch needs no excuse once it has started (R67). -/
theorem watchHeat_watched {z : ZoneId} (h : s.WatchedBut (excusing x z .temperature)) :
    (s.updValues z Values.watchHeat).WatchedBut x := fun w => by
  obtain ⟨hpresent, hwatched, hwaits⟩ := (updValues_attends s z _ (watchHeat_runsOn _)).watched h w
  refine ⟨hpresent, fun q hq => ?_, hwaits⟩
  rcases hwatched q hq with ht | hx | ⟨rfl, rfl⟩
  · exact .inl ht
  · exact .inr hx
  · exact .inl (by rw [State.updValues, State.updZone_zone_same]; rfl)

/-- The placing of a zone out of OFF, before the watch on its temperature starts. -/
def State.placedOff (s : State) (z : ZoneId) (g : Int) (t : Option Int) : State :=
  ((s.updHeat z fun h => { h with target := some g }).noticeZone .thermal z).place z g t

theorem placedOff_attends {z : ZoneId} (h : x z .temperature) (g : Int) (t : Option Int) : s.Attends x (s.placedOff z g t) :=
  (attends_of_monitored ((noticeZone_monitored ..).trans (updHeat_monitored s z _ rfl))).trans (place_attends (.inr h) g t)

/-- A zone is placed out of OFF, and then the watch on its temperature starts (R67, R107). -/
theorem placeOff_attends (z : ZoneId) (g : Int) (t : Option Int) :
    s.Attends x ((s.placedOff z g t).updValues z Values.watchHeat) := by
  have hplace : s.Attends (excusing x z .temperature) (s.placedOff z g t) := placedOff_attends (.inr ⟨rfl, rfl⟩) g t
  have hwatch : (s.placedOff z g t).Attends x ((s.placedOff z g t).updValues z Values.watchHeat) :=
    updValues_attends _ z _ (watchHeat_runsOn _)
  exact ⟨fun hs => watchHeat_watched (hplace.watched (hs.excuse z .temperature)), fun w =>
    (hplace.values w).trans (hwatch.values w)⟩

theorem targetChange_attends (s : State) (z : ZoneId) (target : Option Int) : s.Attends x (s.targetChange z target) := by
  unfold State.targetChange
  dsimp only
  split <;> rename_i hstate
  · exact .refl s
  · exact placeOff_attends ..
  · exact attends_of_monitored (updHeat_monitored s z _ rfl)
  · exact attends_of_monitored (updHeat_monitored s z _ rfl)
  · exact heatOff_attends ..
  · rename_i g hoff _
    have hready := (updHeat_monitored (s.leaveStable z) z (fun h => { h with target := some g, soak := none, grace := none })
      rfl).trans (leaveStable_monitored s z)
    exact (attends_of_monitored hready).trans (place_attends (State.MayHeat.then (.inl hoff) hready) g _)
  · exact (attends_of_monitored (leaveStable_monitored s z)).trans (heatOff_attends ..)

theorem formTargets_attends (s : State) (targets : ZoneId → Option Int) : s.Attends x (s.formTargets targets) :=
  forEachFreely_attends _ (fun z t => targetChange_attends t z (targets z)) s

/-! ### Temperature samples (R109 to R115) -/

@[simp] theorem applyLaw_monitored (s : State) (z : ZoneId) (t : Int) : (s.applyLaw z t).monitored = s.monitored := by
  unfold State.applyLaw
  dsimp only
  split
  · exact ite_monitored (updHeat_monitored s z _ rfl)
  · rfl

theorem excursion_attends {z : ZoneId} (h : s.MayHeat x z) (side : Side) : s.Attends x (s.excursion z side) := by
  have hnotice := (reportZone_monitored (s.noticeZone .thermal z) z .thermalExcursion).trans (noticeZone_monitored s .thermal z)
  unfold State.excursion
  dsimp only
  split
  · exact (attends_of_monitored hnotice).trans (enterSide_attends (h.then hnotice) side)
  · exact (attends_of_monitored hnotice).trans (heats_attends (h.then hnotice) _)

theorem bandSample_attends {z : ZoneId} (h : s.MayHeat x z) (target t : Int) : s.Attends x (s.bandSample z target t) := by
  unfold State.bandSample
  dsimp only
  split
  · exact enterSoaking_attends h
  · exact enterSoaking_attends h
  · exact enterSide_attends h _
  · exact enterSide_attends h _
  · exact enterSide_attends h _
  · exact excursion_attends h _
  · exact enterStable_attends h
  · exact heats_attends h _
  · exact place_attends h _ _
  all_goals exact .refl s

theorem sampleHeated_attends {z : ZoneId} (h : s.MayHeat x z) (hardLimit : Int) (target : Option Int) (t : Int) :
    s.Attends x (s.sampleHeated z hardLimit target t) := by
  unfold State.sampleHeated
  (repeat' split)
  · exact enterOvertemp_attends h
  · exact bandSample_attends h ..
  · exact .refl s

theorem leaveOvertemp_attends {z : ZoneId} (h : s.MayHeat x z) (t : Int) : s.Attends x (s.leaveOvertemp z t) := by
  have hreport := reportZone_monitored s z .overtempClear
  unfold State.leaveOvertemp
  refine ((attends_of_monitored hreport).trans ?_).then (evaluateOutput_monitored _)
  split
  · exact place_attends (h.then hreport) ..
  · exact heatOff_attends ..

theorem heatState_attends (s : State) (z : ZoneId) (t : Int) : s.Attends x (s.heatState z t) := by
  rw [heatState_eq]
  split
  · exact .refl s
  · rename_i hoff
    split
    · exact ite_attends fun _ => leaveOvertemp_attends (.inl hoff) t
    · have hnotice : (if (s.zone z).heat.state = .excursion then s.noticeZone .thermal z else s).monitored = s.monitored :=
        ite_monitored (noticeZone_monitored ..)
      exact (attends_of_monitored hnotice).trans (sampleHeated_attends (State.MayHeat.then (.inl hoff) hnotice) ..)

theorem temperatureSample_attends (s : State) (z : ZoneId) (t : Int) : s.Attends x (s.temperatureSample z t) :=
  (heatState_attends ..).then (applyLaw_monitored ..)

theorem soakExpired_attends (s : State) (z : ZoneId) : s.Attends x (s.soakExpired z) :=
  ite_attends fun h => enterStable_attends (.inl (by rw [h.1]; nofun))

theorem graceExpired_attends (s : State) (z : ZoneId) : s.Attends x (s.graceExpired z) :=
  ite_attends fun h => enterSide_attends (.inl (by rw [h.1]; nofun)) _

end Sys2Proof.Machine
end

section
namespace Sys2Proof.Machine

variable {x : ZoneId → Quantity → Prop} (s : State)

/-! ### The intake (04_monitor_samples.md) -/

theorem handOver_attends (z : ZoneId) (q : Quantity) (v : Int) : s.Attends x (s.handOver z q v) := by
  cases q with
  | voltage => exact voltageSample_attends ..
  | current => exact currentSample_attends ..
  | temperature => exact temperatureSample_attends ..

/-- A value stored starts its own timer (R62), -/
theorem store_timer (v : Values) (q : Quantity) (a : Int) : (v.store q a).timer q = true := by cases q <;> rfl

/-- and leaves the other two quantities. -/
theorem store_other {q r : Quantity} (h : r ≠ q) (v : Values) (a : Int) :
    (v.store q a).has r = v.has r ∧ (v.store q a).timer r = v.timer r := by
  cases q <;> cases r
  case voltage.voltage | current.current | temperature.temperature => exact absurd rfl h
  all_goals exact ⟨rfl, rfl⟩

/-- A value that expires is absent (R66), -/
theorem expire_has (v : Values) (q : Quantity) : (v.expire q).has q = false := by cases q <;> rfl

/-- and the other two quantities stand. -/
theorem expire_other {q r : Quantity} (h : r ≠ q) (v : Values) :
    (v.expire q).has r = v.has r ∧ (v.expire q).timer r = v.timer r := by
  cases q <;> cases r
  case voltage.voltage | current.current | temperature.temperature => exact absurd rfl h
  all_goals exact ⟨rfl, rfl⟩

theorem store_watched {s : State} (hs : s.WatchedBut x) (z : ZoneId) (q : Quantity) (a : Int) :
    (s.updValues z (·.store q a)).WatchedBut x := fun w => by
  rw [State.updValues, State.updZone_zone]
  split
  · rename_i e
    subst e
    refine ⟨fun r h => ?_, fun r h => ?_, (hs z).waits⟩ <;> by_cases he : r = q
    · exact he ▸ store_timer ..
    · obtain ⟨hhas, htimer⟩ := store_other he (s.zone z).values a
      exact htimer.trans ((hs z).present r (hhas ▸ h))
    · exact .inl (he ▸ store_timer ..)
    · exact ((hs z).watched r h).imp_left (store_other he (s.zone z).values a).2.trans
  · exact hs w

theorem sampleTaken_watched (hs : s.WatchedBut x) (word : BitVec 17) : (s.sampleTaken word).WatchedBut x := by
  have hraw : ∀ t : Table 16 Channel, ({ s with channels := t } : State).WatchedBut x := fun _ => hs
  unfold State.sampleTaken State.acceptSample
  dsimp only
  (repeat' split)
  · exact hraw _
  · exact (handOver_attends ..).watched (store_watched (hraw _) _ _ _)
  · exact hs

/-- A value that has expired has no timer: a watch on it needs an excuse (R66). -/
theorem expire_watched {s : State} (hs : s.WatchedBut x) (z : ZoneId) (q : Quantity) :
    (s.updValues z (·.expire q)).WatchedBut (excusing x z q) := fun w => by
  rw [State.updValues, State.updZone_zone]
  split
  · rename_i e
    subst e
    refine ⟨fun r h => ?_, fun r h => ?_, (hs z).waits⟩ <;> by_cases he : r = q
    · have hq : ((s.zone z).values.expire q).has q = true := he ▸ h
      exact absurd hq (by simp [expire_has])
    · obtain ⟨hhas, htimer⟩ := expire_other he (s.zone z).values
      exact htimer.trans ((hs z).present r (hhas ▸ h))
    · exact .inr (.inr ⟨rfl, he⟩)
    · exact ((hs z).watched r h).imp (expire_other he (s.zone z).values).2.trans .inl
  · exact hs.excuse z q w

/-- An excuse that no watch needs. -/
theorem State.WatchedBut.resolve {s : State} {z : ZoneId} {q : Quantity} (h : s.WatchedBut (excusing x z q))
    (hq : ¬ (s.zone z).watches q) : s.WatchedBut x := fun w =>
  ⟨(h w).present, fun r hr => ((h w).watched r hr).imp_right fun hx => hx.resolve_right fun ⟨hw, e⟩ => by
    subst hw e; exact hq hr, (h w).waits⟩

/-- A rail whose voltage or current has gone stale is not under power, or trips (R82). -/
theorem railStale_unpowered (z : ZoneId) : ((s.railStale z).zone z).rail.state.powered = false := by
  unfold State.railStale
  split
  · obtain ⟨-, hstate, -⟩ := trip_rail s z (cause := .sampleLoss) nofun
    rw [hstate]; rfl
  · exact Bool.eq_false_iff.mpr ‹_›

theorem heatStale_watched {s : State} {z : ZoneId} (h : s.WatchedBut (excusing x z .temperature)) :
    (s.heatStale z).WatchedBut x := by
  unfold State.heatStale
  dsimp only
  split
  · rename_i hoff
    exact h.resolve fun hw => hw hoff
  · rename_i hon
    exact watchHeat_watched ((ite_attends fun _ => enterBlind_attends (.inl hon)).watched h)

theorem staleExpired_watched (hs : s.WatchedBut x) (z : ZoneId) (q : Quantity) : (s.staleExpired z q).WatchedBut x := by
  have hexpired := expire_watched hs z q
  have hrail := (railStale_attends (s.updValues z (·.expire q)) z).watched hexpired
  have hoff := railStale_unpowered (s.updValues z (·.expire q)) z
  unfold State.staleExpired
  split
  · cases q with
    | voltage => exact hrail.resolve (Bool.eq_false_iff.mp hoff)
    | current => exact hrail.resolve (Bool.eq_false_iff.mp hoff)
    | temperature => exact heatStale_watched hexpired
  · exact hs

end Sys2Proof.Machine
end

section
namespace Sys2Proof.Machine

/-! ### What the commands do -/

/-- From `s` to `t` every zone stays watched. -/
structure State.Watches (s t : State) : Prop where
  keeps : s.FullyWatched → t.FullyWatched

theorem State.Watches.refl (s : State) : s.Watches s := ⟨id⟩

theorem State.Watches.trans {s t u : State} (h : s.Watches t) (h' : t.Watches u) : s.Watches u := ⟨h'.keeps ∘ h.keeps⟩

theorem State.Attends.watches {s t : State} (h : s.Attends (fun _ _ => False) t) : s.Watches t := ⟨h.watched⟩

theorem watches_of_monitored {s t : State} (h : t.monitored = s.monitored) : s.Watches t := (attends_of_monitored h).watches

theorem watches_of_zones {s t : State} (h : t.zones = s.zones) : s.Watches t :=
  watches_of_monitored (by unfold State.monitored State.zone; rw [h])

theorem State.CheckedTo.watches {s t : State} (h : s.CheckedTo t) : s.Watches t := watches_of_monitored h.monitored

theorem State.Sparing.watches {s t : State} (h : s.Sparing t) : s.Watches t := h.checked.watches

/-- A choice between a move and none. -/
theorem ite_watches {p : Prop} [Decidable p] {s t : State} (h : s.Watches t) : s.Watches (if p then t else s) := by
  split
  · exact h
  · exact .refl s

theorem forEachFreely_watches {α : Type} (xs : List α) {f : α → State → State} 
    (h : ∀ (a : α) (s : State), s.Watches (f a s)) (s : State) : s.Watches (forEachFreely xs f s) :=
  forEachFreely_keeps (P := s.Watches) (fun _ _ hs => hs.trans (watches_of_zones rfl)) (fun a _ _ hs => hs.trans (h a _)) (.refl s)

variable (s : State)

/-! ### Step control (10_step_control.md) -/

theorem formGoals_watches (goals : ZoneId → Option Nat) : s.Watches (s.formGoals goals) := (formGoals_attends s goals).watches

theorem formTargets_watches (targets : ZoneId → Option Int) : s.Watches (s.formTargets targets) :=
  (formTargets_attends s targets).watches

theorem reportStep_watches (event : StepEvent) : s.Watches (s.reportStep event) := watches_of_monitored (reportStep_monitored ..)

theorem updStep_watches (f : StepCtl → StepCtl) : s.Watches (s.updStep f) := watches_of_zones rfl

theorem promote_watches (event : StepEvent) : s.Watches (s.promote event) :=
  ((((updStep_watches s _).trans (reportStep_watches ..)).trans (formGoals_watches ..)).trans (formTargets_watches ..)).trans
    (watches_of_monitored (enginePromoted_monitored ..))

theorem enterHalted_watches : s.Watches s.enterHalted := by
  have hforce : ∀ t : State, t.forceDuties.monitored = t.monitored := fun t => setZones_monitored t _ fun _ => rfl
  unfold State.enterHalted
  split
  · exact .refl s
  · exact ((((updStep_watches s _).trans (reportStep_watches ..)).trans
      (forEach_attends allZones (fun z t => trip_attends t z .halt) _).watches).trans
        (watches_of_monitored (hforce _))).trans ((watches_of_monitored (stopEngineAtOnce_monitored _)).trans (updStep_watches ..))

theorem readLine_watches : s.Watches s.readLine := ite_watches (enterHalted_watches s)

theorem lineAsserted_watches (b : Bool) : s.Watches (s.lineAsserted b) :=
  State.Watches.trans (watches_of_monitored (updHalt_monitored ..)) (ite_watches (enterHalted_watches _))

theorem normalEnd_watches : s.Watches s.normalEnd := by
  unfold State.normalEnd
  split
  · exact promote_watches ..
  · exact watches_of_monitored (reportStep_monitored ..)

theorem stepTick_watches : s.Watches s.stepTick :=
  ite_watches (State.Watches.trans (watches_of_monitored (updStep_monitored ..)) (ite_watches (normalEnd_watches _)))

theorem intervalExpired_watches : s.Watches s.intervalExpired := by
  have hwork := intervalWork_monitored { s with runSeconds := satSucc Config.longTop s.runSeconds }
  exact State.Watches.trans (watches_of_monitored hwork) (stepTick_watches _)

theorem settleStage_watches : s.Watches s.settleStage.state := by
  unfold State.settleStage
  dsimp only
  (repeat' split)
  · exact .refl s
  · exact (updStep_watches s _).trans (promote_watches ..)
  · exact watches_of_zones rfl

theorem unsettleStage_watches : s.Watches s.unsettleStage.state := by
  unfold State.unsettleStage
  split
  · exact watches_of_zones rfl
  · exact .refl s

theorem startStep_watches : s.Watches s.startStep.state := by
  unfold State.startStep
  split
  · exact .refl s
  · exact .refl s
  · exact .refl s
  all_goals
    (repeat' split)
    · exact .refl s
    · exact promote_watches ..
    · exact .refl s

theorem enterStopping_watches : s.Watches s.enterStopping :=
  (((((updStep_watches s _).trans (reportStep_watches ..)).trans (formGoals_watches ..)).trans (formTargets_watches ..)).trans
    ((watches_of_monitored (stopEngineAtOnce_monitored _)).trans (updStep_watches ..))).trans
      (watches_of_monitored (testStopping_monitored _))

theorem stopStep_watches : s.Watches s.stopStep.state := by
  unfold State.stopStep
  split
  · exact .refl s
  · exact .refl s
  · exact .refl s
  all_goals exact enterStopping_watches s

theorem dropSources_monitored : s.dropSources.monitored = s.monitored :=
  (evaluateOutput_monitored _).trans (setZones_monitored s _ fun z => by split <;> rfl)

theorem recauseHalt_monitored (z : ZoneId) : (s.recauseHalt z).monitored = s.monitored :=
  (reportZone_monitored ..).trans (updRail_monitored s z _ ⟨rfl, rfl⟩)

theorem leaveHalted_watches : s.Watches s.leaveHalted :=
  ((((updStep_watches s _).trans (formGoals_watches ..)).trans (formTargets_watches ..)).trans
    (forEach_attends allZones (fun z t => clearTrip_attends t z) _).watches).trans (reportStep_watches ..)

theorem clearStep_watches : s.Watches s.clearStep.state := by
  have hdrop := dropSources_monitored s
  unfold State.clearStep
  dsimp only
  generalize s.dropSources = t at hdrop ⊢
  (repeat' split)
  · exact .refl s
  · exact (watches_of_monitored hdrop).trans (watches_of_monitored (forEach_monitored t fun z u => recauseHalt_monitored u z))
  · rw [accept_state]
    exact (watches_of_monitored hdrop).trans (leaveHalted_watches t)

/-! ### RUN_RESET and power-on -/

/-- RUN_RESET leaves values and timers, and no rail or heater at work (R90, R120). -/
theorem resetRun_watches : s.Watches s.resetRun.state := by
  rw [resetRun_eq]
  refine State.Watches.trans ⟨fun hs z => ?_⟩ (readLine_watches s.restarted)
  rw [restarted_zone]
  refine ⟨(hs z).present, fun q hq => ?_, nofun⟩
  cases q with
  | voltage => exact nomatch hq
  | current => exact nomatch hq
  | temperature => exact absurd rfl hq

theorem powerOn_watched (addr : BitVec 6) (o d u : Bool) : (s.powerOn addr o d u).FullyWatched := fun z => by
  have hz : (s.powerOn addr o d u).zone z = {} := reset_zone z
  rw [hz]
  refine ⟨fun q hq => ?_, fun q hq => ?_, nofun⟩ <;> cases q
  · exact nomatch hq
  · exact nomatch hq
  · exact nomatch hq
  · exact nomatch hq
  · exact nomatch hq
  · exact absurd rfl hq

/-! ### Tables (R182, R183) -/

theorem writeSettings_watches (w : RowWrite) : s.Watches (s.writeSettings w).state := by
  have hw : s.Watches { s with settings := w.apply Settings.put s.settings } := watches_of_zones rfl
  refine hw.trans (forEachFreely_watches _ (fun task t => ?_) _)
  cases task with
  | output => exact watches_of_zones rfl
  | input => exact readLine_watches t

theorem writeSockets_watches (rows : List (SocketId × RowWrite)) : s.Watches (s.writeSockets rows).state := by
  have hw : s.Watches (s.rowsWritten rows) := watches_of_zones rfl
  rw [writeSockets_eq]
  split
  · exact .refl s
  · exact hw.trans (forEachFreely_sparing _ socketWritten_sparing _).watches

/-- The ZONE rows with their configuration written. -/
def State.zonesWritten (s : State) (rows : List (ZoneId × RowWrite)) : State :=
  { s with zones := writeRows rows (fun w v => { v with cfg := w.apply ZoneCfg.put v.cfg }) s.zones }

theorem zonesWritten_monitored (rows : List (ZoneId × RowWrite)) : (s.zonesWritten rows).monitored = s.monitored :=
  funext fun z => writeRows_stands (f := fun w (v : Zone) => { v with cfg := w.apply ZoneCfg.put v.cfg }) Zone.monitored
    (fun _ _ => rfl) rows s.zones z

theorem writeZones_watches (rows : List (ZoneId × RowWrite)) : s.Watches (s.writeZones rows).state := by
  have hw := zonesWritten_monitored s rows
  unfold State.writeZones
  dsimp only
  rw [← State.zonesWritten]
  generalize s.zonesWritten rows = t at hw ⊢
  (repeat' split)
  · exact .refl s
  · exact .refl s
  · refine ((attends_of_monitored ((setGoals_monitored ..).trans hw)).trans (forEachFreely_attends _ (fun task u => ?_) _)).watches
    cases task with
    | goal z => exact goalChange_attends u z
    | target z new => exact targetChange_attends u z new

theorem writePolicies_watches (rows : List (Fin 4 × RowWrite)) : s.Watches (s.writePolicies rows).state := by
  unfold State.writePolicies
  split
  · exact .refl s
  · exact watches_of_zones rfl

theorem writeSense_watches (rows : List (LaneId × RowWrite)) : s.Watches (s.writeSense rows).state := by
  have hw : s.Watches (s.senseWritten rows) := watches_of_zones rfl
  rw [writeSense_eq]
  split
  · exact .refl s
  · exact hw.trans (forEachFreely_sparing _ (fun i t => reviewReasons_sparing t i) _).watches

theorem tableWrite_watches (table first count : Byte) (mask : BitVec 64) (values : List Byte) :
    s.Watches (State.tableWrite table first count mask values s).state := by
  unfold State.tableWrite
  split
  · exact .refl s
  · unfold State.writeTable
    split
    · exact writeSettings_watches ..
    · exact writeSockets_watches ..
    · exact writeZones_watches ..
    · exact writePolicies_watches ..
    · exact watches_of_zones rfl
    · exact watches_of_zones rfl
    · exact watches_of_monitored (writeDrive_monitored ..)
    · exact writeSense_watches ..
    · exact watches_of_zones rfl
    · exact (writeOrder_attends ..).watches
    · exact watches_of_zones rfl

/-! ### The other management commands -/

theorem tableRead_watches (table first count : Byte) (mask : BitVec 64) :
    s.Watches (State.tableRead table first count mask s).state := by
  rw [tableRead_state]; exact .refl s

theorem loopLoad_watches (first count flags : Byte) (vectors : List Byte) :
    s.Watches (State.loopLoad first count flags vectors s).state := by
  unfold State.loopLoad
  dsimp only
  (repeat' split)
  · exact .refl s
  · exact .refl s
  · exact .refl s
  · exact .refl s
  · exact .refl s
  · exact watches_of_monitored (loadLoop_monitored ..)

theorem clearZones_watches (set : Byte) : s.Watches (State.clearZones set s).state := by
  unfold State.clearZones
  (repeat' split)
  · exact .refl s
  · exact .refl s
  · exact .refl s
  · exact (forEach_attends _ (fun z t => clearTrip_attends t z) s).watches

theorem takeSnapshot_watches : s.Watches s.takeSnapshot.state := by
  unfold State.takeSnapshot
  split
  · exact .refl s
  · exact watches_of_monitored (transfer_monitored s)

/-- The socket commands move no zone (R6). -/
theorem socketCommand_watches (set : BitVec 32) (refuses : SocketState → Bool) {act : SocketId → State → State}
    (h : ∀ i (s : State), s.CheckedTo (act i s)) : s.Watches (State.socketCommand set refuses act s).state := by
  unfold State.socketCommand
  split
  · exact .refl s
  · exact watches_of_monitored (forEach_monitored s fun i t => (h i t).monitored)

theorem armSockets_watches (set : BitVec 32) (options : Byte) : s.Watches (State.armSockets set options s).state :=
  socketCommand_watches s set _ fun i t => (armSocket_turns _ i t).checked

theorem releaseSockets_watches (set : BitVec 32) : s.Watches (State.releaseSockets set s).state :=
  socketCommand_watches s set _ fun i t => (releaseSocket_turns i t).checked

theorem holdSockets_watches (set : BitVec 32) : s.Watches (State.holdSockets set s).state :=
  socketCommand_watches s set _ fun i t => (placeHold_quiet t i .forced).checked

theorem restoreSockets_watches (set : BitVec 32) : s.Watches (State.restoreSockets set s).state :=
  socketCommand_watches s set _ fun i t => (restoreSocket_quiet i t).checked

theorem failSockets_watches (set : BitVec 32) : s.Watches (State.failSockets set s).state :=
  socketCommand_watches s set _ fun i t => (finding_turns t i .forced).checked

theorem bare_watches {cmd : State → CmdOut} (h : ∀ s : State, s.Watches (cmd s).state) (args : List Byte) :
    s.Watches (bare args cmd s).state := by
  unfold bare
  split
  · exact h s
  · exact .refl s

theorem withSockets_watches {cmd : BitVec 32 → State → CmdOut} (h : ∀ (s : State) set, s.Watches (cmd set s).state)
    (args : List Byte) : s.Watches (withSockets args cmd s).state := by
  unfold withSockets
  split
  · exact h s _
  · exact .refl s

/-- Every command by its code (R180). -/
theorem command_watches (code : Byte) (args : List Byte) : s.Watches (State.command code args s).state := by
  unfold State.command
  split
  · unfold tableWriteArgs
    (repeat' split)
    · exact .refl s
    · exact tableWrite_watches ..
    · exact .refl s
  · unfold tableReadArgs
    (repeat' split)
    · exact .refl s
    · exact tableRead_watches ..
    · exact .refl s
  · unfold loopLoadArgs
    split
    · exact loopLoad_watches ..
    · exact .refl s
  · exact bare_watches s settleStage_watches args
  · exact bare_watches s unsettleStage_watches args
  · exact bare_watches s startStep_watches args
  · exact bare_watches s stopStep_watches args
  · exact bare_watches s enterHalted_watches args
  · exact bare_watches s clearStep_watches args
  · unfold clearZonesArgs
    split
    · exact clearZones_watches ..
    · exact .refl s
  · unfold armSocketsArgs
    split
    · exact armSockets_watches ..
    · exact .refl s
  · exact withSockets_watches s releaseSockets_watches args
  · exact withSockets_watches s holdSockets_watches args
  · exact withSockets_watches s restoreSockets_watches args
  · exact withSockets_watches s failSockets_watches args
  · exact bare_watches s takeSnapshot_watches args
  · exact bare_watches s (fun s => .refl s) args
  · exact bare_watches s resetRun_watches args
  · exact .refl s

end Sys2Proof.Machine
end

section
namespace Sys2Proof.Machine

variable (s : State)

/-! ### The link (11_the_oven_link.md) -/

@[simp] theorem arbitrate_monitored : s.arbitrate.monitored = s.monitored := by rw [arbitrate_state]; rfl

theorem answer_watches {cmd : State → CmdOut} (h : ∀ s : State, s.Watches (cmd s).state) (src tag code : Byte) :
    s.Watches (s.answer src tag code cmd) := by
  unfold State.answer
  dsimp only
  split
  · exact watches_of_monitored (updLink_monitored ..)
  · exact (h s).trans (watches_of_monitored (updLink_monitored ..))

theorem deliver_watches {cmd : State → CmdOut} (h : ∀ s : State, s.Watches (cmd s).state) (src tag code : Byte) :
    s.Watches (s.deliver src tag code cmd) :=
  ite_watches ((answer_watches s h ..).trans (watches_of_monitored (arbitrate_monitored _)))

theorem deliverFrame_watches (f : Frame) : s.Watches (s.deliverFrame f) := by
  have hn : s.Watches { s with freeIndex := s.freeIndex + 1 } := watches_of_zones rfl
  unfold State.deliverFrame State.deliverVector State.deliverMgmt
  (repeat' split)
  · exact watches_of_monitored (takeBlock_monitored ..)
  · exact watches_of_monitored (updLink_monitored ..)
  · exact .refl s
  · exact hn.trans (answer_watches _ (fun s => .refl s) ..)
  · exact answer_watches s (fun s => command_watches s _ _) ..
  · exact .refl s
  · exact watches_of_monitored (updLink_monitored ..)

@[simp] theorem forwardDown_monitored (bytes : List Byte) : (s.forwardDown bytes).monitored = s.monitored := by
  unfold State.forwardDown
  (repeat' split) <;> rfl

theorem upFrame_watches (bytes : List Byte) : s.Watches (s.upFrame bytes) := by
  unfold State.upFrame State.route
  (repeat' split)
  · exact (watches_of_monitored (forwardDown_monitored ..)).trans (deliverFrame_watches ..)
  · exact deliverFrame_watches ..
  · exact watches_of_monitored (forwardDown_monitored ..)
  · exact watches_of_monitored (updLink_monitored ..)

@[simp] theorem downFrame_monitored (bytes : List Byte) : (s.downFrame bytes).monitored = s.monitored := by
  unfold State.downFrame
  (repeat' split) <;> rfl

@[simp] theorem downPartner_monitored (present : Bool) : (s.downPartner present).monitored = s.monitored := by
  unfold State.downPartner
  split <;> rfl

@[simp] theorem upReceiver_monitored (present : Bool) : (s.upReceiver present).monitored = s.monitored := by
  unfold State.upReceiver
  split <;> rfl

/-! ### Every command and every step -/

theorem exec_watches {i : Instr} {s t : State} (h : exec i s = .next t) : s.Watches t := by
  have hn : ∀ {u : State}, s.Watches u → Host.Outcome.next (ρ := Refusal) (φ := Fault) u = .next t → s.Watches t :=
    fun hu h => Host.Outcome.next.inj h ▸ hu
  have ha : ∀ {u : State}, s.Watches u → Host.Outcome.next (ρ := Refusal) (φ := Fault) u.arbitrate = .next t → s.Watches t :=
    fun hu h => hn (hu.trans (watches_of_monitored (arbitrate_monitored _))) h
  have hd : ∀ {src tag code : Byte} {cmd : State → CmdOut}, (∀ s : State, s.Watches (cmd s).state) →
      Host.Outcome.next (ρ := Refusal) (φ := Fault) (s.deliver src tag code cmd) = .next t → s.Watches t :=
    fun hc h => hn (deliver_watches s hc ..) h
  cases i with
  | powerOnReset addr othersPull downPartner upReceiver =>
    have hreset : s.Watches (s.powerOn addr othersPull downPartner upReceiver) := ⟨fun _ z => powerOn_watched s _ _ _ _ z⟩
    exact ha (hreset.trans (readLine_watches _)) h
  | upFrameTaken bytes => exact ha (upFrame_watches s bytes) h
  | downFrameTaken bytes => exact ha (watches_of_monitored (downFrame_monitored s bytes)) h
  | downTransmitEnd => exact hn (watches_of_monitored (updLink_monitored s _)) h
  | upTransmitEnd => exact ha (watches_of_monitored (updLink_monitored s _)) h
  | downPartnerChange present => exact hn (watches_of_monitored (downPartner_monitored s present)) h
  | upReceiverChange present => exact ha (watches_of_monitored (upReceiver_monitored s present)) h
  | tblWrite src tag table first count mask values => exact hd (fun s => tableWrite_watches s _ _ _ _ _) h
  | socketTableWrite src tag first count mask values => exact hd (fun s => tableWrite_watches s _ _ _ _ _) h
  | zoneTableWrite src tag first count mask values => exact hd (fun s => tableWrite_watches s _ _ _ _ _) h
  | orderWrite src tag first count mask values => exact hd (fun s => tableWrite_watches s _ _ _ _ _) h
  | stepStageWrite src tag first count mask values => exact hd (fun s => tableWrite_watches s _ _ _ _ _) h
  | senseModeWrite src tag first count mask values => exact hd (fun s => tableWrite_watches s _ _ _ _ _) h
  | settingsWrite src tag first count mask values => exact hd (fun s => tableWrite_watches s _ _ _ _ _) h
  | tblRead src tag table first count mask => exact hd (fun s => tableRead_watches s _ _ _ _) h
  | loopLoad src tag first count flags vectors => exact hd (fun s => loopLoad_watches s _ _ _ _) h
  | stageSettle src tag => exact hd settleStage_watches h
  | stageUnsettle src tag => exact hd unsettleStage_watches h
  | stepStart src tag => exact hd startStep_watches h
  | stepStop src tag => exact hd stopStep_watches h
  | stepAbort src tag => exact hd enterHalted_watches h
  | stepClear src tag => exact hd clearStep_watches h
  | zoneClear src tag zones => exact hd (fun s => clearZones_watches s zones) h
  | socketArm src tag sockets options => exact hd (fun s => armSockets_watches s sockets options) h
  | socketRelease src tag sockets => exact hd (fun s => releaseSockets_watches s sockets) h
  | socketHold src tag sockets => exact hd (fun s => holdSockets_watches s sockets) h
  | socketRestore src tag sockets => exact hd (fun s => restoreSockets_watches s sockets) h
  | socketFail src tag sockets => exact hd (fun s => failSockets_watches s sockets) h
  | snapshot src tag => exact hd takeSnapshot_watches h
  | statusRead src tag => exact hd (fun s => .refl s) h
  | runReset src tag => exact hd resetRun_watches h
  | sampleWord word => exact ha ⟨fun hs => sampleTaken_watched s hs word⟩ h
  | staleTimerExpiry zone quantity => exact ha ⟨fun hs => staleExpired_watched s hs zone quantity⟩ h
  | intervalExpiry => exact ha (intervalExpired_watches s) h
  | rampStepExpiry zone => exact ha (rampStep_attends s zone).watches h
  | confirmTimerExpiry zone => exact ha (confirmExpired_attends s zone).watches h
  | settleTimerExpiry zone => exact hn (settleExpired_attends s zone).watches h
  | soakTimerExpiry zone => exact ha (soakExpired_attends s zone).watches h
  | graceTimerExpiry zone => exact hn (graceExpired_attends s zone).watches h
  | vectorCycle sense => exact ha (watches_of_monitored (vectorCycle_monitored s sense)) h
  | vectorBoundary => exact ha (watches_of_monitored (boundary_monitored s)) h
  | prbsWindowEnd lane => exact ha (endPrbsWindow_checked s lane).watches h
  | toggleWindowEnd lane => exact ha (endToggleWindow_checked s lane).watches h
  | gateExpiry socket => exact ha (gateExpired_sparing s socket).watches h
  | haltLineAsserted othersPull => exact ha (lineAsserted_watches s othersPull) h
  | haltLineReleased => exact hn (watches_of_monitored (updHalt_monitored s _)) h
  | freqLaneRisingEdge socket => exact hn (risingEdge_sparing s socket).watches h

/-- Settles O10: every command keeps every zone watched, with POWER_DOWN waited for only under power. -/
theorem stepKeepsTimersWatched : Obligations.StepKeepsTimersWatched := by
  intro s t hrails _ htimers h
  unfold step at h
  split at h
  · obtain rfl := Host.Outcome.next.inj h
    exact htimers
  · exact timers_of_fullyWatched ((exec_watches h).keeps (fullyWatched_of_timers hrails htimers))

end Sys2Proof.Machine
end

/-! ## Samples and stale timers (04_monitor_samples.md) -/

section
namespace Sys2Proof.Machine

variable (s : State)

/-! ### Sample words (R58 to R62) -/

theorem sampleTaken_even {word : BitVec 17} (h : sampleParityOdd word = false) :
    s.sampleTaken word = { s with badWords := satSucc Config.countTop s.badWords } :=
  if_neg (Bool.eq_false_iff.mp h)

theorem sampleTaken_odd {word : BitVec 17} (h : sampleParityOdd word = true) :
    s.sampleTaken word = s.acceptSample (sampleChannel word) (sampleRaw word) := if_pos h

/-- The last raw value of a channel is taken (R59). -/
def State.rawTaken (s : State) (m : Fin 16) (raw : Nat) : State :=
  { s with channels := s.channels.upd m fun c => { c with lastRaw := some raw } }

variable {s} {m : Fin 16}

/-- Under quantity NONE only the last raw value is taken (R59). -/
theorem acceptSample_none (h : (s.channels.get m).quantity.quantity = none) (raw : Nat) :
    s.acceptSample m raw = s.rawTaken m raw := by
  simp only [State.acceptSample, State.rawTaken, h]

/-- Under a quantity the converted value is stored and then handed over (R61, R62). -/
theorem acceptSample_some {q : Quantity} (h : (s.channels.get m).quantity.quantity = some q) (raw : Nat) :
    s.acceptSample m raw =
      ((s.rawTaken m raw).updValues (s.channels.get m).zone (·.store q ((s.channels.get m).convert q raw))).handOver
        (s.channels.get m).zone q ((s.channels.get m).convert q raw) := by
  simp only [State.acceptSample, State.rawTaken, h]

@[simp] theorem handOver_setup (z : ZoneId) (q : Quantity) (a : Int) : (s.handOver z q a).setup = s.setup := by
  cases q with
  | voltage => exact voltageSample_setup ..
  | current => exact currentSample_setup ..
  | temperature => exact temperatureSample_setup ..

theorem acceptSample_channels (m : Fin 16) (raw : Nat) :
    (s.acceptSample m raw).channels = s.channels.upd m fun c => { c with lastRaw := some raw } := by
  cases h : (s.channels.get m).quantity.quantity with
  | none =>
    rw [acceptSample_none h]
    rfl
  | some q =>
    rw [acceptSample_some h]
    exact congrArg Setup.channels ((handOver_setup ..).trans (updValues_setup ..))

/-- What acts on a value leaves it stored, with its timer running (R62). -/
theorem acceptSample_values {q : Quantity} (h : (s.channels.get m).quantity.quantity = some q) (raw : Nat) :
    ((s.zone (s.channels.get m).zone).values.store q ((s.channels.get m).convert q raw)).RunsOn
      ((s.acceptSample m raw).zone (s.channels.get m).zone).values := by
  have hvalues := (handOver_attends (x := fun _ _ => True)
    ((s.rawTaken m raw).updValues (s.channels.get m).zone (·.store q ((s.channels.get m).convert q raw)))
    (s.channels.get m).zone q ((s.channels.get m).convert q raw)).values (s.channels.get m).zone
  rw [State.updValues_zone_same] at hvalues
  rw [acceptSample_some h]
  exact hvalues

/-- Nothing acts on a value while the zone's rail and heat are OFF (R79, R109). -/
theorem handOver_idle {z : ZoneId} (hrail : (s.zone z).rail.state = .off) (hheat : (s.zone z).heat.state = .off) (q : Quantity)
    (a : Int) : s.handOver z q a = s := by
  cases q with
  | voltage => simp only [State.handOver, State.voltageSample, hrail]
  | current => simp [State.handOver, State.currentSample, hrail, RailState.powered]
  | temperature => exact temperatureSample_idle (.inl hheat)

/-- While the rail and heat of its zone are OFF, an accepted word moves nothing of the zones but values (R62). -/
theorem acceptSample_idle (raw : Nat) (hrail : (s.zone (s.channels.get m).zone).rail.state = .off)
    (hheat : (s.zone (s.channels.get m).zone).heat.state = .off) :
    (∀ z, (s.acceptSample m raw).zone z = { s.zone z with values := ((s.acceptSample m raw).zone z).values }) ∧
      (s.acceptSample m raw).sockets = s.sockets ∧ (s.acceptSample m raw).reports = s.reports ∧
        (s.acceptSample m raw).step = s.step := by
  cases h : (s.channels.get m).quantity.quantity with
  | none =>
    rw [acceptSample_none h]
    exact ⟨fun _ => rfl, rfl, rfl, rfl⟩
  | some q =>
    rw [acceptSample_some h, handOver_idle (by rw [State.updValues_zone_same]; exact hrail)
      (by rw [State.updValues_zone_same]; exact hheat)]
    refine ⟨fun z => ?_, rfl, rfl, rfl⟩
    rw [State.updValues_zone]
    split
    · subst_vars; rfl
    · rfl

/-- Settles O49: by parity, and then what the channel's quantity has the word accepted do. -/
theorem sampleIsConvertedAndStored : Obligations.SampleIsConvertedAndStored := by
  intro word s
  refine ⟨fun heven => congrArg (fun t : State => Host.Outcome.next t.arbitrate) (sampleTaken_even s heven), fun hodd => ?_⟩
  dsimp only
  have hquantity : ∀ {o : ChannelQuantity} {q : Option Quantity}, o.quantity = q →
      (s.channels.get (sampleChannel word)).quantity = o → (s.channels.get (sampleChannel word)).quantity.quantity = q :=
    fun ho h => h ▸ ho
  refine ⟨s.acceptSample (sampleChannel word) (sampleRaw word),
    congrArg (fun t : State => Host.Outcome.next t.arbitrate) (sampleTaken_odd s hodd), acceptSample_channels .., ?_, ?_, ?_, ?_,
    acceptSample_idle _⟩
  · intro hnone
    rw [acceptSample_none (hquantity rfl hnone)]
    rfl
  · intro hvoltage
    have hstored := acceptSample_values (hquantity rfl hvoltage) (sampleRaw word)
    exact ⟨acceptSample_some (hquantity rfl hvoltage) _, hstored.voltage, hstored.timer .voltage rfl⟩
  · intro hcurrent
    have hstored := acceptSample_values (hquantity rfl hcurrent) (sampleRaw word)
    exact ⟨acceptSample_some (hquantity rfl hcurrent) _, hstored.current, hstored.timer .current rfl⟩
  · intro htemperature
    have hstored := acceptSample_values (hquantity rfl htemperature) (sampleRaw word)
    exact ⟨acceptSample_some (hquantity rfl htemperature) _, hstored.temperature, hstored.timer .temperature rfl⟩

end Sys2Proof.Machine
end

section
namespace Sys2Proof.Machine

/-! ### Stale timers (R66) -/

variable {s : State} {z : ZoneId}

/-- A stopped timer does not expire (log 2). -/
theorem staleExpired_stopped {q : Quantity} (h : (s.zone z).values.timer q = false) : s.staleExpired z q = s :=
  if_neg (Bool.eq_false_iff.mp h)

/-- What a loss of the value is handed to: the rail, or the heat controller (R66). -/
def State.handLoss (s : State) (z : ZoneId) : Quantity → State
  | .voltage | .current => s.railStale z
  | .temperature => s.heatStale z

theorem staleExpired_running {q : Quantity} (h : (s.zone z).values.timer q = true) :
    s.staleExpired z q = (s.updValues z (·.expire q)).handLoss z q := by
  rw [State.staleExpired, if_pos h]
  cases q <;> rfl

theorem handLoss_rail {q : Quantity} (h : q ≠ .temperature) : s.handLoss z q = s.railStale z := by
  cases q with
  | voltage => rfl
  | current => rfl
  | temperature => exact absurd rfl h

theorem heatStale_attends {x : ZoneId → Quantity → Prop} : s.Attends x (s.heatStale z) := by
  unfold State.heatStale
  dsimp only
  split
  · exact .refl s
  · rename_i hon
    exact (ite_attends fun _ => enterBlind_attends (.inl hon)).trans (updValues_attends _ z _ (watchHeat_runsOn _))

theorem handLoss_attends {x : ZoneId → Quantity → Prop} (q : Quantity) : s.Attends x (s.handLoss z q) := by
  cases q with
  | voltage => exact railStale_attends s z
  | current => exact railStale_attends s z
  | temperature => exact heatStale_attends

/-- The value is absent and stays so (R66). -/
theorem staleExpired_has {q : Quantity} (h : (s.zone z).values.timer q = true) :
    ((s.staleExpired z q).zone z).values.has q = false := by
  have hvalues := (handLoss_attends (s := s.updValues z (·.expire q)) (z := z) (x := fun _ _ => True) q).values z
  rw [staleExpired_running h, hvalues.has, State.updValues_zone_same]
  exact expire_has _ q

/-- A powered rail trips (R82). -/
theorem railStale_trips (h : (s.zone z).rail.state.powered = true) :
    ((s.railStale z).zone z).rail.state = .tripped ∧ ((s.railStale z).zone z).rail.tripCause = some .sampleLoss ∧
      ((s.railStale z).zone z).heat = (s.zone z).heat := by
  obtain ⟨hheat, hstate, hcause⟩ := trip_rail s z (cause := .sampleLoss) nofun
  have htripped : (s.zone z).rail.state ≠ .tripped := fun e => by simp [e, RailState.powered] at h
  rw [State.railStale, if_pos h]
  exact ⟨hstate, hcause htripped, hheat⟩

theorem railStale_idle (h : (s.zone z).rail.state.powered = false) : s.railStale z = s := if_neg (Bool.eq_false_iff.mp h)

theorem heatStale_off (h : (s.zone z).heat.state = .off) : s.heatStale z = s := if_pos h

/-- Entry to BLIND keeps target and integral (R114). -/
theorem State.Heated.blind (s : State) (z : ZoneId) :
    s.Heated z (decide ((s.zone z).heat.state = .stable))
      { state := .blind, target := (s.zone z).heat.target, integral := (s.zone z).heat.integral } [s.zoneRecord z .blind]
      (s.enterBlind z) := by
  have hleft := (State.Heated.refl s z).leave
  rw [Bool.false_or] at hleft
  exact (hleft.upd fun h => { h with state := .blind, duty := 0, soak := none, grace := none, side := none }).record .blind

theorem heatStale_lawful (h : (s.zone z).heat.state.lawful = true) :
    s.heatStale z = (s.enterBlind z).updValues z Values.watchHeat := by
  have hon : (s.zone z).heat.state ≠ .off := fun e => by simp [e, ThermalState.lawful] at h
  simp [State.heatStale, hon, h]

/-- A zone under heat control enters BLIND and is watched again (R114). -/
theorem heatStale_blinds (h : (s.zone z).heat.state.lawful = true) :
    ((s.heatStale z).zone z).heat =
        { state := .blind, target := (s.zone z).heat.target, integral := (s.zone z).heat.integral } ∧
      ((s.heatStale z).zone z).values.temperatureTimer = true ∧ ((s.heatStale z).zone z).rail = (s.zone z).rail := by
  have hblind := State.Heated.blind s z
  rw [heatStale_lawful h, State.updValues_zone_same]
  exact ⟨hblind.heat, rfl, hblind.rail⟩

/-- Settles O51: by what the loss is handed to. -/
theorem staleExpiryLosesValue : Obligations.StaleExpiryLosesValue := by
  intro z q s
  have hzone : (s.updValues z (·.expire q)).zone z = { s.zone z with values := (s.zone z).values.expire q } :=
    State.updValues_zone_same ..
  refine ⟨fun hstopped => congrArg (fun t : State => Host.Outcome.next t.arbitrate) (staleExpired_stopped hstopped),
    fun hrunning => ⟨s.staleExpired z q, rfl, ?_, ?_⟩⟩
  · have hlost := staleExpired_has hrunning
    cases q <;> exact Option.isSome_eq_false_iff.mp hlost |> Option.isNone_iff_eq_none.mp
  rw [staleExpired_running hrunning]
  refine ⟨fun hq hpowered => ?_, fun hq hoff => ?_, fun hq hoff => ?_, fun hq hlawful => ?_⟩
  · have htrips := railStale_trips (s := s.updValues z (·.expire q)) (z := z) (by rw [hzone]; exact hpowered)
    rw [handLoss_rail hq]
    rw [hzone] at htrips
    exact htrips
  · rw [handLoss_rail hq, railStale_idle (by rw [hzone]; exact hoff)]
  · subst hq
    exact heatStale_off (by rw [hzone]; exact hoff)
  · subst hq
    have hblinds := heatStale_blinds (s := s.updValues z (·.expire .temperature)) (z := z) (by rw [hzone]; exact hlawful)
    rw [hzone] at hblinds
    exact hblinds

end Sys2Proof.Machine
end

/-! ## Switches, gates, the own output, rails and heat in every step (05_zone_rails.md to 09_response_checking.md)

Most of the part moves nothing that these invariants look at (`works`). What does is an orderly move: it leaves every switch, gate
and the own output as their rules derive them, and every rail, search and thermal record consistent (`Orderly`). -/

section
namespace Sys2Proof.Machine

/-- What the invariants look at: rails, searches and heat, the inputs of the switches with switches and estimates, modes and
gates, and the own output with its enable. -/
structure Works where
  zones : ZoneId → Rail × Search × Heat
  sockets : SocketId → Bool × ZoneId × Option Hold × Bool × Option Int
  lanes : LaneId → SenseMode × FreqGate
  own : Bool
  haltOut : Bool

def Zone.works (v : Zone) : Rail × Search × Heat := (v.rail, v.search, v.heat)

def Socket.works (k : Socket) : Bool × ZoneId × Option Hold × Bool × Option Int :=
  (k.populated, k.zone, k.hold, k.switch, k.estimate)

def Lane.works (l : Lane) : SenseMode × FreqGate := (l.row.mode, l.gate)

def State.works (s : State) : Works where
  zones := fun z => (s.zone z).works
  sockets := fun i => (s.socket i).works
  lanes := fun n => (s.lane n).works
  own := s.halt.own
  haltOut := s.settings.haltOut

section Fields

variable {s t : State} (h : t.works = s.works)
include h

theorem works_zone (z : ZoneId) :
    (t.zone z).rail = (s.zone z).rail ∧ (t.zone z).search = (s.zone z).search ∧ (t.zone z).heat = (s.zone z).heat := by
  simpa only [State.works, Zone.works, Prod.mk.injEq] using congrFun (congrArg Works.zones h) z

theorem works_rail (z : ZoneId) : (t.zone z).rail = (s.zone z).rail := (works_zone h z).1

theorem works_search (z : ZoneId) : (t.zone z).search = (s.zone z).search := (works_zone h z).2.1

theorem works_heat (z : ZoneId) : (t.zone z).heat = (s.zone z).heat := (works_zone h z).2.2

theorem works_socket (i : SocketId) :
    (t.socket i).populated = (s.socket i).populated ∧ (t.socket i).zone = (s.socket i).zone ∧
      (t.socket i).hold = (s.socket i).hold ∧ (t.socket i).switch = (s.socket i).switch ∧
        (t.socket i).estimate = (s.socket i).estimate := by
  simpa only [State.works, Socket.works, Prod.mk.injEq] using congrFun (congrArg Works.sockets h) i

theorem works_lane (n : LaneId) : (t.lane n).row.mode = (s.lane n).row.mode ∧ (t.lane n).gate = (s.lane n).gate := by
  simpa only [State.works, Lane.works, Prod.mk.injEq] using congrFun (congrArg Works.lanes h) n

theorem works_halt : t.halt.own = s.halt.own ∧ t.settings.haltOut = s.settings.haltOut :=
  ⟨congrArg Works.own h, congrArg Works.haltOut h⟩

end Fields

theorem works_eq {s t : State} (hz : ∀ z, (t.zone z).works = (s.zone z).works)
    (hk : ∀ i, (t.socket i).works = (s.socket i).works) (hl : ∀ n, (t.lane n).works = (s.lane n).works)
    (hh : t.halt.own = s.halt.own ∧ t.settings.haltOut = s.settings.haltOut) : t.works = s.works := by
  obtain ⟨hown, hout⟩ := hh
  simp only [State.works, hz, hk, hl, hown, hout]

/-- In a move of sockets and lanes alone it is enough to look at those. -/
theorem State.CheckedTo.works {s t : State} (h : s.CheckedTo t) (hk : ∀ i, (t.socket i).works = (s.socket i).works)
    (hl : ∀ n, (t.lane n).works = (s.lane n).works) : t.works = s.works :=
  works_eq (fun z => by rw [h.zone]) hk hl (by rw [h.halt, h.settings]; exact ⟨rfl, rfl⟩)

/-! ### What the invariants have from it -/

theorem switchRule_of_works {s t : State} (h : t.works = s.works) (i : SocketId) : t.switchRule i = s.switchRule i := by
  obtain ⟨hpop, hzone, hhold, -⟩ := works_socket h i
  simp only [State.switchRule, hpop, hzone, hhold, works_rail h, works_search h]

theorem anyHaltSource_of_works {s t : State} (h : t.works = s.works) : t.anyHaltSource = s.anyHaltSource := by
  simp only [State.anyHaltSource, Zone.haltSource, works_rail h, works_heat h]

theorem switchesFollow_of_works {s t : State} (h : t.works = s.works) (hs : s.SwitchesFollow) : t.SwitchesFollow := fun i => by
  obtain ⟨-, -, -, hswitch, -⟩ := works_socket h i
  rw [hswitch, switchRule_of_works h, hs i]

theorem gatesRun_of_works {s t : State} (h : t.works = s.works) (hs : s.GatesRun) : t.GatesRun := by
  obtain ⟨hprimary, hraw, hplain, hestimate⟩ := hs
  have hfreq : ∀ i, t.freqLane i = s.freqLane i := fun i => by rw [State.freqLane, (works_lane h _).1]; rfl
  refine ⟨fun i => ?_, fun i => ?_, fun n => ?_, fun i => ?_⟩
  · rw [(works_lane h _).1]; exact hprimary i
  · obtain ⟨-, -, -, hswitch, -⟩ := works_socket h i
    rw [(works_lane h _).2, hfreq, hswitch]; exact hraw i
  · rw [(works_lane h n).1, (works_lane h n).2]; exact hplain n
  · obtain ⟨-, -, -, hswitch, hest⟩ := works_socket h i
    rw [hest, hfreq, hswitch, (works_lane h _).2]; exact hestimate i

theorem outputFollows_of_works {s t : State} (h : t.works = s.works) (hs : s.OutputFollows) : t.OutputFollows := by
  obtain ⟨hown, hout⟩ := works_halt h
  rw [State.OutputFollows, hown, hout, anyHaltSource_of_works h]
  exact hs

theorem railConsistent_of_eq {v w : Zone} (hr : w.rail = v.rail) (hq : w.search = v.search) (hv : v.RailConsistent) :
    w.RailConsistent := by
  rw [Zone.RailConsistent, hr, hq]; exact hv

theorem railsConsistent_of_works {s t : State} (h : t.works = s.works) (hs : s.RailsConsistent) : t.RailsConsistent := fun z =>
  railConsistent_of_eq (works_rail h z) (works_search h z) (hs z)

theorem heatConsistent_of_works {s t : State} (h : t.works = s.works) (hs : s.HeatConsistent) : t.HeatConsistent := fun z => by
  rw [works_heat h]; exact hs z

end Sys2Proof.Machine
end

section
namespace Sys2Proof.Machine

variable (s : State)

/-! ### What leaves the works alone -/

theorem updZone_works (z : ZoneId) (f : Zone → Zone) (h : (f (s.zone z)).works = (s.zone z).works) :
    (s.updZone z f).works = s.works := by
  refine works_eq (fun w => ?_) (fun _ => rfl) (fun _ => rfl) ⟨rfl, rfl⟩
  rw [State.updZone_zone]
  split
  · subst_vars; exact h
  · rfl

theorem updSocket_works (i : SocketId) (f : Socket → Socket) (h : (f (s.socket i)).works = (s.socket i).works) :
    (s.updSocket i f).works = s.works := by
  refine works_eq (fun _ => rfl) (fun j => ?_) (fun _ => rfl) ⟨rfl, rfl⟩
  rw [State.updSocket_socket]
  split
  · subst_vars; exact h
  · rfl

theorem updLane_works (n : LaneId) (f : Lane → Lane) (h : (f (s.lane n)).works = (s.lane n).works) :
    (s.updLane n f).works = s.works := by
  refine works_eq (fun _ => rfl) (fun _ => rfl) (fun m => ?_) ⟨rfl, rfl⟩
  rw [State.updLane_lane]
  split
  · subst_vars; exact h
  · rfl

theorem setZones_works (f : ZoneId → Zone) (h : ∀ z, (f z).works = (s.zone z).works) : (s.setZones f).works = s.works :=
  works_eq (fun z => by rw [State.setZones_zone]; exact h z) (fun _ => rfl) (fun _ => rfl) ⟨rfl, rfl⟩

theorem setSockets_works (f : SocketId → Socket) (h : ∀ i, (f i).works = (s.socket i).works) : (s.setSockets f).works = s.works :=
  works_eq (fun _ => rfl) (fun i => by rw [State.setSockets_socket]; exact h i) (fun _ => rfl) ⟨rfl, rfl⟩

theorem setLanes_works (f : LaneId → Lane) (h : ∀ n, (f n).works = (s.lane n).works) : (s.setLanes f).works = s.works :=
  works_eq (fun _ => rfl) (fun _ => rfl) (fun n => by rw [State.setLanes_lane]; exact h n) ⟨rfl, rfl⟩

@[simp] theorem updValues_works (z : ZoneId) (f : Values → Values) : (s.updValues z f).works = s.works := updZone_works s z _ rfl
@[simp] theorem updEngine_works (f : Engine → Engine) : (s.updEngine f).works = s.works := rfl
@[simp] theorem updStep_works (f : StepCtl → StepCtl) : (s.updStep f).works = s.works := rfl
@[simp] theorem updReports_works (f : Reports → Reports) : (s.updReports f).works = s.works := rfl
@[simp] theorem updLink_works (f : Link → Link) : (s.updLink f).works = s.works := rfl

@[simp] theorem report_works (r : Record) : (s.report r).works = s.works := by rw [report_state]; rfl
@[simp] theorem reportZone_works (z : ZoneId) (e : ZoneEvent) : (s.reportZone z e).works = s.works := report_works ..
@[simp] theorem reportStep_works (e : StepEvent) : (s.reportStep e).works = s.works := report_works ..
@[simp] theorem reportLane_works (n : LaneId) (e : LaneEvent) : (s.reportLane n e).works = s.works := report_works ..
@[simp] theorem reportPattern_works (e : PatternEvent) (b x : Option Nat) : (s.reportPattern e b x).works = s.works :=
  report_works ..

@[simp] theorem notice_works (l : Latch) (named : ZoneId → Bool) : (s.notice l named).works = s.works :=
  works_eq (fun z => by rw [notice_zone_cases]; rfl) (fun i => by rw [notice_socket_cases]; rfl) (fun _ => rfl) ⟨rfl, rfl⟩

@[simp] theorem noticeZone_works (l : Latch) (z : ZoneId) : (s.noticeZone l z).works = s.works := notice_works ..
@[simp] theorem noticeAll_works (l : Latch) : (s.noticeAll l).works = s.works := notice_works ..

@[simp] theorem arbitrate_works : s.arbitrate.works = s.works := by rw [arbitrate_state]; rfl

/-- A choice between a move that leaves the works alone and none. -/
theorem ite_works {p : Prop} [Decidable p] {s t : State} (h : t.works = s.works) : (if p then t else s).works = s.works := by
  split
  · exact h
  · rfl

@[simp] theorem testStopping_works : s.testStopping.works = s.works :=
  ite_works ((reportStep_works ..).trans (updStep_works ..))

theorem forEachFreely_works {α : Type} {xs : List α} {f : α → State → State} (h : ∀ x s, (f x s).works = s.works) :
    (forEachFreely xs f s).works = s.works :=
  forEachFreely_keeps (P := fun t => t.works = s.works) (fun _ _ ht => ht) (fun x _ t ht => (h x t).trans ht) rfl

theorem freely_works {α : Type} (xs : List α) : (freely xs s).2.works = s.works := by rw [freely_state]; rfl

/-! ### The sockets' states -/

@[simp] theorem changeState_works (i : SocketId) (new : SocketState) (c : Option FailCause) :
    (s.changeState i new c).works = s.works := by
  refine (changeState_checked ..).works (fun j => ?_) fun n => by rw [changeState_lane]
  rw [changeState_socket_eq]
  split
  · subst_vars; rfl
  · rfl

@[simp] theorem setReasons_works (i : SocketId) (f : Reasons → Reasons) : (s.setReasons i f).works = s.works := by
  unfold State.setReasons
  exact ite_works ((changeState_works ..).trans (updSocket_works s i _ rfl))

@[simp] theorem reviewReasons_works (i : SocketId) : (s.reviewReasons i).works = s.works := setReasons_works ..

@[simp] theorem failingCheck_works (f : Failing) : (s.failingCheck f).works = s.works := by
  unfold State.failingCheck
  dsimp only
  (repeat' split)
  · exact (report_works ..).trans (updSocket_works s _ _ rfl)
  · exact updSocket_works s _ _ rfl
  · rfl

/-! ### The checker (09_response_checking.md) -/

/-- The checks of a cycle leave a lane's mode and gate. -/
theorem cycle_works (l : Lane) (n : LaneId) (sample : Bool) (c : CycleWords) : (l.cycle n sample c).1.works = l.works := by
  unfold Lane.cycle
  dsimp only
  split <;> rfl

@[simp] theorem checkLanes_works (c : CycleWords) (sense : BitVec 64) : (s.checkLanes c sense).works = s.works := by
  unfold State.checkLanes
  dsimp only
  rw [forEachFreely_works _ fun f t => failingCheck_works t f]
  refine setLanes_works s _ fun n => ?_
  split
  · exact cycle_works ..
  · rfl

@[simp] theorem lockChanged_works (n : LaneId) (e : Option LaneEvent) : (s.lockChanged n e).works = s.works := by
  unfold State.lockChanged
  split <;> simp

@[simp] theorem stuckChanged_works (n : LaneId) (e : Option LaneEvent) : (s.stuckChanged n e).works = s.works := by
  unfold State.stuckChanged
  split <;> simp

@[simp] theorem endPrbsWindow_works (n : LaneId) : (s.endPrbsWindow n).works = s.works := by
  rw [endPrbsWindow_eq]
  exact ite_works ((lockChanged_works ..).trans (updLane_works s n _ rfl))

@[simp] theorem endToggleWindow_works (n : LaneId) : (s.endToggleWindow n).works = s.works := by
  rw [endToggleWindow_eq]
  exact ite_works ((stuckChanged_works ..).trans (updLane_works s n _ rfl))

@[simp] theorem endDueWindows_works : s.endDueWindows.works = s.works := by
  unfold State.endDueWindows
  dsimp only
  rw [forEachFreely_works _ fun n t => endToggleWindow_works t n, forEachFreely_works _ fun n t => endPrbsWindow_works t n]

/-! ### The engine (08_pattern_drive.md) -/

theorem watchExercise_works {f : State → State} (h : (f s).works = s.works) : (s.watchExercise f).works = s.works :=
  (notice_works ..).trans h

@[simp] theorem stopEngine_works : s.stopEngine.works = s.works := watchExercise_works s rfl

@[simp] theorem stopEngineAtOnce_works : s.stopEngineAtOnce.works = s.works := stopEngine_works s

@[simp] theorem enterStarved_works : s.enterStarved.works = s.works :=
  (noticeAll_works ..).trans ((reportPattern_works ..).trans (watchExercise_works s rfl))

@[simp] theorem resume_works : s.resume.works = s.works := by
  unfold State.resume
  split <;> simp

@[simp] theorem chooseNext_works (was : EngineState) : (s.chooseNext was).works = s.works := by
  unfold State.chooseNext
  dsimp only
  (repeat' split) <;> simp

@[simp] theorem boundary_works : s.boundary.works = s.works := ite_works (chooseNext_works ..)

@[simp] theorem trackBlock_works (b : Block) : (s.trackBlock b).works = s.works :=
  (updEngine_works ..).trans (ite_works ((noticeAll_works ..).trans (reportPattern_works ..)))

@[simp] theorem refuseBlock_works (b : Block) (e : PatternEvent) : (s.refuseBlock b e).works = s.works :=
  (noticeAll_works ..).trans (reportPattern_works ..)

@[simp] theorem takeBlock_works (b : Block) : (s.takeBlock b).works = s.works := by
  rcases takeBlock_cases s b with ⟨-, e⟩ | ⟨-, -, e⟩ | ⟨-, -, ⟨-, e⟩ | ⟨-, e⟩⟩ <;> rw [e] <;> simp

@[simp] theorem loadLoop_works (first : Nat) (vs : List Vec) (isLast : Bool) : (s.loadLoop first vs isLast).works = s.works :=
  ite_works (resume_works _)

@[simp] theorem writeDrive_works (rows : List (Fin 64 × DriveRow)) : (s.writeDrive rows).works = s.works := by
  unfold State.writeDrive
  dsimp only
  split <;> rfl

@[simp] theorem driveCycle_works : s.driveCycle.works = s.works := by
  unfold State.driveCycle
  dsimp only
  rw [setZones_works]
  · exact watchExercise_works s rfl
  · exact fun _ => rfl

@[simp] theorem startCycle_works (sense : BitVec 64) : (s.startCycle sense).works = s.works := by
  unfold State.startCycle
  dsimp only
  split <;> simp

@[simp] theorem vectorCycle_works (sense : BitVec 64) : (s.vectorCycle sense).works = s.works := by
  unfold State.vectorCycle
  dsimp only
  (repeat' split) <;> simp

@[simp] theorem chooseFirst_works : s.chooseFirst.works = s.works := by
  unfold State.chooseFirst
  dsimp only
  split <;> simp

@[simp] theorem firstCycle_works : s.firstCycle.works = s.works := startCycle_works ..

@[simp] theorem startEngine_works : s.startEngine.works = s.works :=
  (firstCycle_works _).trans ((chooseFirst_works _).trans (endDueWindows_works s))

@[simp] theorem enginePromoted_works (old : PatternSource) : (s.enginePromoted old).works = s.works := by
  unfold State.enginePromoted
  dsimp only
  (repeat' split) <;> simp

/-! ### Accounting -/

@[simp] theorem closeInterval_works : s.closeInterval.works = s.works := by
  unfold State.closeInterval
  rw [setSockets_works, setZones_works]
  · exact fun _ => rfl
  · exact fun _ => rfl

end Sys2Proof.Machine
end

section
namespace Sys2Proof.Machine

/-! ### The switches (R87) -/

variable {s t : State}

/-- An evaluation of switches moves none of the rule's inputs. -/
theorem evaluateSwitches_rule (s : State) (named : SocketId → Bool) (i : SocketId) :
    (s.evaluateSwitches named).switchRule i = s.switchRule i := by
  have hinput : ((s.evaluateSwitches named).socket i).populated = (s.socket i).populated ∧
      ((s.evaluateSwitches named).socket i).hold = (s.socket i).hold ∧
        ((s.evaluateSwitches named).socket i).zone = (s.socket i).zone := by
    rw [evaluateSwitches_socket]
    split
    · rw [switched_cases]; exact ⟨rfl, rfl, rfl⟩
    · exact ⟨rfl, rfl, rfl⟩
  obtain ⟨hpop, hhold, hzone⟩ := hinput
  simp only [State.switchRule, hpop, hhold, hzone]
  rfl

/-- Every switch follows once those are evaluated that may not (R87). -/
theorem evaluateSwitches_follows {named : SocketId → Bool} (h : ∀ i, named i = false → (s.socket i).switch = s.switchRule i) :
    (s.evaluateSwitches named).SwitchesFollow := fun i => by
  rw [evaluateSwitches_rule, evaluateSwitches_socket]
  split
  · rw [switched_switch]
  · exact h i (Bool.eq_false_iff.mpr ‹_›)

/-- A socket whose own inputs to the rule and switch stand, in a zone of which the rule sees the same. -/
theorem switch_stands {i : SocketId} (hk : (t.socket i).works = (s.socket i).works)
    (hz : (t.zone (s.socket i).zone).search.candidate = (s.zone (s.socket i).zone).search.candidate ∧
      (t.zone (s.socket i).zone).rail.state.powered = (s.zone (s.socket i).zone).rail.state.powered)
    (h : (s.socket i).switch = s.switchRule i) : (t.socket i).switch = t.switchRule i := by
  simp only [Socket.works, Prod.mk.injEq] at hk
  obtain ⟨hpop, hzone, hhold, hswitch, -⟩ := hk
  obtain ⟨hcandidate, hpowered⟩ := hz
  rw [hswitch, h]
  simp only [State.switchRule, hpop, hzone, hhold, hcandidate, hpowered]

/-! ### The gates (R140, R141, R150) -/

/-- A lane on which no gate runs and none may. -/
def Lane.Plain (p : Lane) : Prop := p.row.mode ≠ .freq ∧ p.gate = {}

/-- A socket and its secondary lane hang together. -/
structure Socket.GateRuns (k : Socket) (q : Lane) : Prop where
  raw : q.gate.raw.isSome = (decide (q.row.mode = .freq) && k.switch)
  plain : q.row.mode ≠ .freq → q.gate = {}
  estimate : k.estimate.isSome = true → q.row.mode = .freq ∧ k.switch = true ∧ q.gate.monitor = .valid

theorem gatesRun_iff (s : State) :
    s.GatesRun ↔ ∀ i, (s.lane (primaryLane i)).Plain ∧ (s.socket i).GateRuns (s.lane (secondaryLane i)) := by
  constructor
  · rintro ⟨hprimary, hraw, hplain, hestimate⟩ i
    refine ⟨⟨hprimary i, hplain _ (hprimary i)⟩, hraw i, hplain _, fun h => ?_⟩
    obtain ⟨hfreq, hswitch, hvalid⟩ := hestimate i h
    exact ⟨of_decide_eq_true hfreq, hswitch, hvalid⟩
  · intro h
    refine ⟨fun i => (h i).1.1, fun i => (h i).2.raw, fun n hn => ?_, fun i hi => ?_⟩
    · rcases lane_cases n with e | e
      · rw [e]; exact (h _).1.2
      · rw [e]; exact (h _).2.plain (e ▸ hn)
    · obtain ⟨hfreq, hswitch, hvalid⟩ := (h i).2.estimate hi
      exact ⟨decide_eq_true hfreq, hswitch, hvalid⟩

namespace Socket.GateRuns

variable {k j : Socket} {q p : Lane}

theorem of_eq (h : k.GateRuns q) (hs : j.switch = k.switch) (he : j.estimate = k.estimate) (hp : p.works = q.works) :
    j.GateRuns p := by
  simp only [Lane.works, Prod.mk.injEq] at hp
  obtain ⟨hmode, hgate⟩ := hp
  exact ⟨by rw [hgate, hmode, hs]; exact h.raw, by rw [hgate, hmode]; exact h.plain,
    by rw [hgate, hmode, hs, he]; exact h.estimate⟩

/-- A switch change starts or abandons the gate, and an open switch has no estimate (R150). -/
theorem switched (h : k.GateRuns q) (on : Bool) : (k.switched on).GateRuns (q.switched k.switch on) := by
  obtain ⟨hraw, hplain, hestimate⟩ := h
  by_cases hsame : k.switch = on
  · rw [Socket.switched, Lane.switched, if_pos hsame, if_pos hsame]
    exact ⟨hraw, hplain, hestimate⟩
  rw [Socket.switched, Lane.switched, if_neg hsame, if_neg hsame]
  cases on with
  | true =>
    have hnone : k.estimate.isSome ≠ true := fun he => hsame (hestimate he).2.1
    simp only [if_true]
    split
    · rename_i hfreq
      exact ⟨by simp [hfreq], fun hn => absurd hfreq hn, fun he => absurd he hnone⟩
    · rename_i hfreq
      exact ⟨by simp [hfreq, hplain hfreq], hplain, fun he => absurd he hnone⟩
  | false =>
    simp only [Bool.false_eq_true, if_false]
    exact ⟨by simp, fun hn => by simp [hplain hn], nofun⟩

/-- A lane that is reset begins a new gate if it runs one, without an estimate (R142). -/
theorem reset (k : Socket) (q : Lane) : ({ k with estimate := none } : Socket).GateRuns (q.resetState true k.switch) := by
  refine ⟨?_, fun hn => ?_, nofun⟩
  · by_cases hfreq : q.row.mode = .freq <;> cases k.switch <;> simp [Lane.resetState, hfreq]
  · have hmode : q.row.mode ≠ .freq := hn
    simp [Lane.resetState, hmode]

end Socket.GateRuns

theorem evaluateSwitches_gates (named : SocketId → Bool) (hs : s.GatesRun) : (s.evaluateSwitches named).GatesRun := by
  rw [gatesRun_iff] at hs ⊢
  intro i
  obtain ⟨hprimary, hgate⟩ := hs i
  have hp : (primaryLane i).val % 2 ≠ 1 := by simp only [primaryLane]; omega
  have hq : (secondaryLane i).val % 2 = 1 := by simp only [secondaryLane]; omega
  refine ⟨?_, ?_⟩
  · rw [evaluateSwitches_lane, if_neg (by simp [hp])]; exact hprimary
  · rw [evaluateSwitches_lane, evaluateSwitches_socket, laneSocket_secondary]
    cases hn : named i with
    | true => simpa [hq] using hgate.switched _
    | false => simpa using hgate

theorem resetLanes_gates (named : LaneId → Bool) (hs : s.GatesRun) : (s.resetLanes named).GatesRun := by
  rw [gatesRun_iff] at hs ⊢
  intro i
  obtain ⟨hprimary, hgate⟩ := hs i
  have hp : (primaryLane i).val % 2 ≠ 1 := by simp only [primaryLane]; omega
  have hq : (secondaryLane i).val % 2 = 1 := by simp only [secondaryLane]; omega
  refine ⟨?_, ?_⟩
  · rw [resetLanes_lane]
    split
    · exact ⟨hprimary.1, by simp [Lane.resetState, hp]⟩
    · exact hprimary
  · rw [resetLanes_lane, resetLanes_socket, laneSocket_secondary]
    split
    · simpa [hq] using Socket.GateRuns.reset (s.socket i) (s.lane (secondaryLane i))
    · exact hgate

end Sys2Proof.Machine
end

section
namespace Sys2Proof.Machine

/-! ### Orderly moves -/

/-- From `s` to `t` switches, own output and gates stay as their rules derive them, and rail, search and thermal records
consistent. -/
structure State.Orderly (s t : State) : Prop where
  switches : s.SwitchesFollow → t.SwitchesFollow
  output : s.OutputFollows → t.OutputFollows
  gates : s.GatesRun → t.GatesRun
  rails : s.RailsConsistent → t.RailsConsistent
  heat : s.HeatConsistent → t.HeatConsistent

theorem State.Orderly.refl (s : State) : s.Orderly s := ⟨id, id, id, id, id⟩

theorem State.Orderly.trans {s t u : State} (h : s.Orderly t) (h' : t.Orderly u) : s.Orderly u :=
  ⟨h'.switches ∘ h.switches, h'.output ∘ h.output, h'.gates ∘ h.gates, h'.rails ∘ h.rails, h'.heat ∘ h.heat⟩

theorem orderly_of_works {s t : State} (h : t.works = s.works) : s.Orderly t :=
  ⟨switchesFollow_of_works h, outputFollows_of_works h, gatesRun_of_works h, railsConsistent_of_works h,
    heatConsistent_of_works h⟩

/-- What leaves the works alone may follow a move. -/
theorem State.Orderly.then {s t u : State} (h : s.Orderly t) (h' : u.works = t.works) : s.Orderly u :=
  h.trans (orderly_of_works h')

/-- A choice between a move and none. -/
theorem ite_orderly {p : Prop} [Decidable p] {s t : State} (h : p → s.Orderly t) : s.Orderly (if p then t else s) := by
  split
  · exact h ‹_›
  · exact .refl s

theorem forEach_orderly {α : Type} (xs : List α) {f : α → State → State} (h : ∀ (x : α) (s : State), s.Orderly (f x s))
    (s : State) : s.Orderly (forEach xs f s) :=
  forEach_keeps (P := s.Orderly) (fun x _ _ hs => hs.trans (h x _)) (.refl s)

theorem forEachFreely_orderly {α : Type} (xs : List α) {f : α → State → State} (h : ∀ (x : α) (s : State), s.Orderly (f x s))
    (s : State) : s.Orderly (forEachFreely xs f s) :=
  forEachFreely_keeps (P := s.Orderly) (fun _ _ hs => hs.then rfl) (fun x _ _ hs => hs.trans (h x _)) (.refl s)

/-- In a move of sockets and lanes alone it is enough to look at switches and gates. -/
theorem State.CheckedTo.orderly {s t : State} (h : s.CheckedTo t) (hs : s.SwitchesFollow → t.SwitchesFollow)
    (hg : s.GatesRun → t.GatesRun) : s.Orderly t where
  switches := hs
  output ho := by
    have hsource : t.anyHaltSource = s.anyHaltSource := by simp only [State.anyHaltSource, h.zone]
    rw [State.OutputFollows, h.halt, h.settings, hsource]
    exact ho
  gates := hg
  rails hr z := by rw [h.zone]; exact hr z
  heat hh z := by rw [h.zone]; exact hh z

variable (s : State)

theorem evaluateSwitches_orderly (named : SocketId → Bool) : s.Orderly (s.evaluateSwitches named) :=
  State.CheckedTo.orderly rfl (fun hs => evaluateSwitches_follows fun i _ => hs i) (evaluateSwitches_gates named)

/-! ### Sockets: switches, holds, findings and completion -/

/-- A socket takes new inputs to the rule and its switch is evaluated again. -/
theorem updSocket_evaluateSwitch_orderly (i : SocketId) (f : Socket → Socket)
    (h : (f (s.socket i)).switch = (s.socket i).switch ∧ (f (s.socket i)).estimate = (s.socket i).estimate) :
    s.Orderly ((s.updSocket i f).evaluateSwitch i) := by
  obtain ⟨hswitch, hestimate⟩ := h
  refine State.CheckedTo.orderly rfl (fun hs => evaluateSwitches_follows fun j hj => ?_) fun hs => evaluateSwitches_gates _ ?_
  · have hne : i ≠ j := fun e => by simp [e] at hj
    exact switch_stands (s := s) (by rw [State.updSocket_socket, if_neg hne]) ⟨rfl, rfl⟩ (hs j)
  · rw [gatesRun_iff] at hs ⊢
    intro j
    refine ⟨(hs j).1, ?_⟩
    rw [State.updSocket_socket]
    split
    · rename_i e
      exact e ▸ (hs i).2.of_eq hswitch hestimate rfl
    · exact (hs j).2

theorem placeHold_orderly (i : SocketId) (h : Hold) : s.Orderly (s.placeHold i h) :=
  updSocket_evaluateSwitch_orderly s i _ ⟨rfl, rfl⟩

theorem placeHold?_orderly (i : SocketId) (h : Option Hold) : s.Orderly (s.placeHold? i h) := by
  cases h with
  | none => exact .refl s
  | some h => exact placeHold_orderly ..

theorem finding_orderly (i : SocketId) (c : FailCause) : s.Orderly (s.finding i c) := by
  unfold State.finding
  dsimp only
  have hheld := placeHold?_orderly s i (c.hold (s.policyOf i).isolateOnFail)
  split
  · exact hheld.then ((changeState_works ..).trans (updSocket_works _ i _ rfl))
  · exact hheld

theorem complete_orderly (i : SocketId) : s.Orderly (s.complete i) := (placeHold?_orderly ..).then (changeState_works ..)

theorem testCompletion_orderly (i : SocketId) : s.Orderly (s.testCompletion i) := ite_orderly fun _ => complete_orderly s i

theorem restoreSocket_orderly (i : SocketId) : s.Orderly (s.restoreSocket i) := by
  unfold State.restoreSocket
  split
  · exact .refl s
  · exact updSocket_evaluateSwitch_orderly s i _ ⟨rfl, rfl⟩

theorem releaseSocket_orderly (i : SocketId) : s.Orderly (s.releaseSocket i) :=
  (updSocket_evaluateSwitch_orderly s i _ ⟨rfl, rfl⟩).then (changeState_works ..)

theorem resetLanes_orderly (named : LaneId → Bool) : s.Orderly (s.resetLanes named) := by
  refine State.CheckedTo.orderly rfl (fun hs i => ?_) (resetLanes_gates named)
  have hsocket : (s.resetLanes named).socket i = { s.socket i with estimate := ((s.resetLanes named).socket i).estimate } := by
    rw [resetLanes_socket]; split <;> rfl
  have hrule : (s.resetLanes named).switchRule i = s.switchRule i := by
    unfold State.switchRule
    rw [hsocket]
    rfl
  rw [hrule, hsocket]
  exact hs i

theorem armSocket_orderly (clear : Bool) (i : SocketId) : s.Orderly (State.armSocket clear i s) := by
  unfold State.armSocket
  dsimp only
  have hreset : s.Orderly ((s.updSocket i (·.armCleared clear)).resetLanes fun n => laneSocket n == i) :=
    (orderly_of_works (updSocket_works s i _ rfl)).trans (resetLanes_orderly ..)
  (repeat' split)
  · exact .refl s
  · exact hreset.trans (complete_orderly ..)
  · exact hreset.then (changeState_works ..)

/-! ### Accounting's passes -/

theorem judgeScore_works (i : SocketId) : (s.judgeScore i).works = s.works := by
  have hclean : ∀ f : Socket → Nat, (s.updSocket i fun k => { k with clean := f k }).works = s.works := fun f =>
    updSocket_works s i _ rfl
  unfold State.judgeScore
  dsimp only
  (repeat' split)
  · exact hclean _
  · exact setReasons_works ..
  · exact (setReasons_works ..).trans (hclean _)
  · exact hclean _
  · rfl

theorem judge_orderly (i : SocketId) : s.Orderly (s.judge i) := by
  unfold State.judge
  split
  · exact finding_orderly ..
  · exact orderly_of_works (judgeScore_works s i)

theorem transferSocket_orderly (i : SocketId) : s.Orderly (s.transferSocket i) := by
  unfold State.transferSocket
  split
  · exact (orderly_of_works (updSocket_works s i _ rfl)).trans (judge_orderly ..)
  · exact orderly_of_works (updSocket_works s i _ rfl)

theorem transfer_orderly : s.Orderly s.transfer := by
  have hn : s.Orderly { s with transferNumber := satSucc Config.longTop s.transferNumber } := orderly_of_works rfl
  have hdone := hn.trans (forEach_orderly allSockets (fun i t => transferSocket_orderly t i) _)
  unfold State.transfer
  dsimp only
  split
  · exact hdone
  · exact hdone.then (report_works ..)

theorem accrue_orderly : s.Orderly s.accrue := by
  have hcredit : ∀ k : Socket, ∀ n, (k.accrue n).works = k.works := fun k n => by unfold Socket.accrue; dsimp only; split <;> rfl
  unfold State.accrue
  dsimp only
  refine State.Orderly.trans (orderly_of_works (setSockets_works s _ fun i => ?_))
    (forEachFreely_orderly _ (fun i t => testCompletion_orderly t i) _)
  split
  · exact hcredit ..
  · rfl

theorem intervalWork_orderly : s.Orderly s.intervalWork := by
  have hclose : ∀ {t u : State}, t.Orderly u → t.Orderly u.closeInterval := fun h => h.then (closeInterval_works _)
  have hn : s.Orderly { s with freeIndex := s.freeIndex + 1 } := orderly_of_works rfl
  rcases intervalWork_cases s with ⟨-, h⟩ | ⟨-, t, rfl, h | h | h⟩ <;> rw [h]
  · exact hclose (accrue_orderly s)
  · exact hclose (hn.trans ((transfer_orderly _).trans (accrue_orderly _)))
  · exact hclose (hn.trans ((accrue_orderly _).trans (transfer_orderly _)))
  · exact (hclose (hn.trans (accrue_orderly _))).trans (transfer_orderly _)

/-! ### The frequency gates (R150 to R152) -/

/-- A gate's counts move and the socket's estimate with them, while the gate runs on. -/
theorem State.Local.gate_orderly {s t : State} {i : SocketId} (h : s.Local i t)
    (hk : t.socket i = { s.socket i with estimate := (t.socket i).estimate })
    (hp : t.lane (primaryLane i) = s.lane (primaryLane i))
    (hq : (s.socket i).GateRuns (s.lane (secondaryLane i)) → (t.socket i).GateRuns (t.lane (secondaryLane i))) :
    s.Orderly t := by
  refine h.checked.orderly (fun hs j => ?_) fun hs => ?_
  · have hsocket : t.socket j = { s.socket j with estimate := (t.socket j).estimate } := by
      by_cases e : j = i
      · rw [e]; exact hk
      · rw [h.sockets j e]
    have hrule : t.switchRule j = s.switchRule j := by
      unfold State.switchRule
      rw [hsocket]
      simp only [h.checked.zone]
    rw [hrule, hsocket]
    exact hs j
  · rw [gatesRun_iff] at hs ⊢
    intro j
    by_cases e : j = i
    · rw [e, hp]; exact ⟨(hs i).1, hq (hs i).2⟩
    · rw [h.sockets j e, h.lanes _ (by simpa using e), h.lanes _ (by simpa using e)]; exact hs j

/-- The lane of a gate takes a new form of it. -/
theorem updGate_orderly (i : SocketId) (f : FreqGate → FreqGate)
    (h : (s.socket i).GateRuns (s.lane (secondaryLane i)) →
      (s.socket i).GateRuns { s.lane (secondaryLane i) with gate := f (s.lane (secondaryLane i)).gate }) :
    s.Orderly (s.updLane (secondaryLane i) fun l => { l with gate := f l.gate }) := by
  have hlocal := updLane_local s (secondaryLane i) fun l => { l with gate := f l.gate }
  have hne : secondaryLane i ≠ primaryLane i := fun e => by simp [secondaryLane, primaryLane, Fin.ext_iff] at e
  rw [laneSocket_secondary] at hlocal
  refine hlocal.gate_orderly rfl (by rw [State.updLane_lane, if_neg hne]) fun hs => ?_
  rw [State.updLane_lane_same]
  exact h hs

/-- The gate takes a new form and its socket a new estimate. -/
theorem updEstimate_orderly (i : SocketId) (e : Option Int) (f : FreqGate → FreqGate)
    (h : (s.socket i).GateRuns (s.lane (secondaryLane i)) →
      ({ s.socket i with estimate := e } : Socket).GateRuns
        { s.lane (secondaryLane i) with gate := f (s.lane (secondaryLane i)).gate }) :
    s.Orderly ((s.updSocket i fun k => { k with estimate := e }).updLane (secondaryLane i) fun l => { l with gate := f l.gate }) := by
  have hlane := updLane_local (s.updSocket i fun k => { k with estimate := e }) (secondaryLane i) fun l => { l with gate := f l.gate }
  have hne : secondaryLane i ≠ primaryLane i := fun e => by simp [secondaryLane, primaryLane, Fin.ext_iff] at e
  rw [laneSocket_secondary] at hlane
  refine ((updSocket_local s i _).trans hlane).gate_orderly ?_ ?_ fun hs => ?_
  · rw [State.updLane_socket, State.updSocket_socket_same]
  · rw [State.updLane_lane, if_neg hne]; rfl
  · rw [State.updLane_socket, State.updSocket_socket_same, State.updLane_lane_same]
    exact h hs

/-- A gate that runs is a FREQ lane's, with the switch on (R150). -/
theorem Socket.GateRuns.running {k : Socket} {q : Lane} (h : k.GateRuns q) (hraw : q.gate.raw.isSome = true) :
    q.row.mode = .freq ∧ k.switch = true := by
  simpa [hraw] using h.raw.symm

/-- Whatever else a running gate holds, it runs on. -/
theorem Socket.GateRuns.runsOn {k : Socket} {q : Lane} {g : FreqGate} {e : Option Int} (h : k.GateRuns q)
    (hraw : q.gate.raw.isSome = true) (hg : g.raw.isSome = true) (he : e.isSome = true → g.monitor = .valid) :
    ({ k with estimate := e } : Socket).GateRuns { q with gate := g } := by
  obtain ⟨hfreq, hswitch⟩ := h.running hraw
  exact ⟨by simp [hg, hfreq, hswitch], fun hn => absurd hfreq hn, fun hs => ⟨hfreq, hswitch, he hs⟩⟩

variable {s} {i : SocketId}

theorem invalidGate_orderly (hraw : (s.lane (secondaryLane i)).gate.raw.isSome = true) : s.Orderly (s.invalidGate i) := by
  have hgate := updEstimate_orderly s i none (fun g => { g with monitor := .lost }) fun h => h.runsOn hraw hraw nofun
  unfold State.invalidGate
  dsimp only
  split
  · exact hgate
  · exact hgate.then (reportLane_works ..)

theorem validGate_orderly (hraw : (s.lane (secondaryLane i)).gate.raw.isSome = true) (count : Nat) :
    s.Orderly (s.validGate i count) := by
  have hgate := updEstimate_orderly s i (some ((s.socket i).estimateOf count)) (fun g => { g with monitor := .valid }) fun h =>
    h.runsOn hraw hraw fun _ => rfl
  unfold State.validGate
  dsimp only
  exact (hgate.trans (ite_orderly fun _ => orderly_of_works (reportLane_works ..))).trans
    (ite_orderly fun _ => finding_orderly ..)

theorem gateExpired_orderly (s : State) (i : SocketId) : s.Orderly (s.gateExpired i) := by
  unfold State.gateExpired
  dsimp only
  split
  · exact .refl s
  · rename_i raw hraw
    have hcounted := updGate_orderly s i
      (fun g => { g with raw := some 0, lastCount := some (gateCount raw (s.lane (secondaryLane i)).row.prescale) }) fun h => by
        obtain ⟨hfreq, hswitch⟩ := h.running (by rw [hraw]; rfl)
        exact ⟨by simp [hfreq, hswitch], fun hn => absurd hfreq hn, fun he => ⟨hfreq, hswitch, (h.estimate he).2.2⟩⟩
    refine hcounted.trans ?_
    split
    · exact invalidGate_orderly (by rw [State.updLane_lane_same]; rfl)
    · exact validGate_orderly (by rw [State.updLane_lane_same]; rfl) _

theorem risingEdge_orderly (s : State) (i : SocketId) : s.Orderly (s.risingEdge i) :=
  updGate_orderly s i (fun g => { g with raw := g.raw.map (satSucc Config.longTop) }) fun h =>
    ⟨by rw [← h.raw]; exact Option.isSome_map .., fun hn => by simp [h.plain hn], h.estimate⟩

end Sys2Proof.Machine
end

section
namespace Sys2Proof.Machine

/-! ### Moves of the rails -/

/-- From `s` to `t` the goals and the zones' heat stand, and the gates run where they may. -/
structure State.Kept (s t : State) : Prop where
  goal (z : ZoneId) : (t.zone z).rail.goal = (s.zone z).rail.goal
  heat (z : ZoneId) : (t.zone z).heat = (s.zone z).heat
  gates : s.GatesRun → t.GatesRun

/-- A move of the rails that also leaves switches and own output as their rules derive them. -/
structure State.Railed (s t : State) : Prop extends s.Kept t where
  output : s.OutputFollows → t.OutputFollows
  switches : s.SwitchesFollow → t.SwitchesFollow

theorem State.Kept.refl (s : State) : s.Kept s := ⟨fun _ => rfl, fun _ => rfl, id⟩

theorem State.Kept.trans {s t u : State} (h : s.Kept t) (h' : t.Kept u) : s.Kept u :=
  ⟨fun z => (h'.goal z).trans (h.goal z), fun z => (h'.heat z).trans (h.heat z), h'.gates ∘ h.gates⟩

theorem State.Railed.refl (s : State) : s.Railed s := ⟨.refl s, id, id⟩

theorem State.Railed.trans {s t u : State} (h : s.Railed t) (h' : t.Railed u) : s.Railed u :=
  ⟨h.toKept.trans h'.toKept, h'.output ∘ h.output, h'.switches ∘ h.switches⟩

theorem railed_of_works {s t : State} (h : t.works = s.works) : s.Railed t :=
  ⟨⟨fun z => by rw [works_rail h], fun z => works_heat h z, gatesRun_of_works h⟩, outputFollows_of_works h,
    switchesFollow_of_works h⟩

/-- What leaves the works alone may follow a move. -/
theorem State.Railed.then {s t u : State} (h : s.Railed t) (h' : u.works = t.works) : s.Railed u :=
  h.trans (railed_of_works h')

theorem ite_railed {p : Prop} [Decidable p] {s t : State} (h : s.Railed t) : s.Railed (if p then t else s) := by
  split
  · exact h
  · exact .refl s

theorem ite_kept {p : Prop} [Decidable p] {s t : State} (h : s.Kept t) : s.Kept (if p then t else s) := by
  split
  · exact h
  · exact .refl s

theorem forEach_railed {α : Type} (xs : List α) {f : α → State → State} (h : ∀ (x : α) (s : State), s.Railed (f x s))
    (s : State) :
    s.Railed (forEach xs f s) :=
  forEach_keeps (P := s.Railed) (fun x _ _ hs => hs.trans (h x _)) (.refl s)

theorem forEachFreely_railed {α : Type} (xs : List α) {f : α → State → State} (h : ∀ (x : α) (s : State), s.Railed (f x s))
    (s : State) : s.Railed (forEachFreely xs f s) :=
  forEachFreely_keeps (P := s.Railed) (fun _ _ hs => hs.then rfl) (fun x _ _ hs => hs.trans (h x _)) (.refl s)

/-- The switches follow but for those of zone `z`, which do where its rail is not powered. -/
def State.SwitchesBut (s : State) (z : ZoneId) : Prop :=
  ∀ i, (s.socket i).zone ≠ z ∨ (s.zone z).rail.state.powered = false → (s.socket i).switch = s.switchRule i

variable (s : State)

/-! #### Updates -/

theorem updZone_gates {s : State} (z : ZoneId) (f : Zone → Zone) (h : s.GatesRun) : (s.updZone z f).GatesRun := h

theorem updZone_kept (z : ZoneId) (f : Zone → Zone)
    (h : (f (s.zone z)).rail.goal = (s.zone z).rail.goal ∧ (f (s.zone z)).heat = (s.zone z).heat) : s.Kept (s.updZone z f) := by
  refine ⟨fun w => ?_, fun w => ?_, id⟩ <;> rw [State.updZone_zone]
  · split
    · subst_vars; exact h.1
    · rfl
  · split
    · subst_vars; exact h.2
    · rfl

/-- A zone's record moves, and its sources with it do not (R86, R112). -/
theorem updZone_output {s : State} (z : ZoneId) (f : Zone → Zone) (h : (f (s.zone z)).haltSource = (s.zone z).haltSource)
    (hs : s.OutputFollows) : (s.updZone z f).OutputFollows := by
  have hsource : (s.updZone z f).anyHaltSource = s.anyHaltSource := by
    refine congrArg allZones.any (funext fun w => ?_)
    rw [State.updZone_zone]
    split
    · subst_vars; exact h
    · rfl
  rw [State.OutputFollows, hsource]
  exact hs

/-- A zone's record moves, and what the rule sees of it does not (R87). -/
theorem updZone_switches {s : State} (z : ZoneId) (f : Zone → Zone)
    (h : (f (s.zone z)).search.candidate = (s.zone z).search.candidate ∧
      (f (s.zone z)).rail.state.powered = (s.zone z).rail.state.powered)
    (hs : s.SwitchesFollow) : (s.updZone z f).SwitchesFollow := fun i => by
  refine switch_stands (s := s) rfl ?_ (hs i)
  rw [State.updZone_zone]
  split
  · rename_i e; rw [← e]; exact h
  · exact ⟨rfl, rfl⟩

theorem updRail_railed (z : ZoneId) (f : Rail → Rail)
    (h : (f (s.zone z).rail).goal = (s.zone z).rail.goal ∧ (f (s.zone z).rail).haltSource = (s.zone z).rail.haltSource ∧
      (f (s.zone z).rail).state = (s.zone z).rail.state) : s.Railed (s.updRail z f) :=
  ⟨updZone_kept s z _ ⟨h.1, rfl⟩, updZone_output z _ (by simp only [Zone.haltSource, h.2.1]),
    updZone_switches z _ ⟨rfl, by dsimp only; rw [h.2.2]⟩⟩

theorem updValues_railed (z : ZoneId) (f : Values → Values) : s.Railed (s.updValues z f) := railed_of_works (updValues_works ..)

theorem updSearch_kept (z : ZoneId) (f : Search → Search) : s.Kept (s.updSearch z f) := updZone_kept s z _ ⟨rfl, rfl⟩

theorem updSearch_output {s : State} (z : ZoneId) (f : Search → Search) : s.OutputFollows → (s.updSearch z f).OutputFollows :=
  updZone_output z _ rfl

/-- A search record moves but for its candidate. -/
theorem updSearch_railed (z : ZoneId) (f : Search → Search) (h : (f (s.zone z).search).candidate = (s.zone z).search.candidate) :
    s.Railed (s.updSearch z f) :=
  ⟨updSearch_kept .., updSearch_output z f, updZone_switches z _ ⟨h, rfl⟩⟩

/-- A change of candidate moves the rule for sockets of a powered zone alone. -/
theorem updSearch_switchesBut {s : State} (z : ZoneId) (f : Search → Search) (hs : s.SwitchesBut z) :
    (s.updSearch z f).SwitchesBut z := fun i hi => by
  have hzone : (s.updSearch z f).zone z = { s.zone z with search := f (s.zone z).search } := State.updZone_zone_same ..
  rw [hzone] at hi
  have hfollows := hs i hi
  by_cases hz : (s.socket i).zone = z
  · have hoff : (s.zone z).rail.state.powered = false := hi.resolve_left fun h => h hz
    have hrule : ∀ t : State, t.socket i = s.socket i → (t.zone z).rail = (s.zone z).rail → t.switchRule i = false := fun t hk hr => by
      simp only [State.switchRule, hk, hz, hr, hoff, Bool.and_false]
    rw [hrule (s.updSearch z f) rfl (by rw [hzone])]
    exact hfollows.trans (hrule s rfl rfl)
  · refine switch_stands (s := s) rfl ?_ hfollows
    rw [State.updSearch, State.updZone_zone, if_neg (Ne.symm hz)]
    exact ⟨rfl, rfl⟩

theorem evaluateSwitches_railed (named : SocketId → Bool) : s.Railed (s.evaluateSwitches named) :=
  have h := evaluateSwitches_orderly s named
  ⟨⟨fun _ => rfl, fun _ => rfl, h.gates⟩, h.output, h.switches⟩

/-- The candidate moves, and the switches of the old and the new one are evaluated again (R93, R97, R98). -/
theorem updSearch_evaluateSwitches_railed (z : ZoneId) (f : Search → Search) (named : SocketId → Bool)
    (h : ∀ i, named i = false → (s.zone z).search.candidate ≠ some i ∧ (f (s.zone z).search).candidate ≠ some i) :
    s.Railed ((s.updSearch z f).evaluateSwitches named) := by
  have hkept : s.Kept ((s.updSearch z f).evaluateSwitches named) :=
    (updSearch_kept s z f).trans (evaluateSwitches_railed _ named).toKept
  refine ⟨hkept, fun ho => (evaluateSwitches_railed _ named).output (updSearch_output z f ho), fun hs =>
    evaluateSwitches_follows fun i hi => ?_⟩
  have hrule : (s.updSearch z f).switchRule i = s.switchRule i := by
    obtain ⟨hold, hnew⟩ := h i hi
    by_cases hz : z = (s.socket i).zone
    · have hzone : (s.updSearch z f).zone z = { s.zone z with search := f (s.zone z).search } := State.updZone_zone_same ..
      have hne : ∀ c : Option SocketId, c ≠ some i → (c != some i) = true := fun c hc => by simpa using hc
      simp only [State.switchRule, State.updSearch_socket, hzone, ← hz, hne _ hold, hne _ hnew]
    · have hzone : (s.updSearch z f).zone (s.socket i).zone = s.zone (s.socket i).zone := by
        rw [State.updSearch, State.updZone_zone, if_neg hz]
      simp only [State.switchRule, State.updSearch_socket, hzone]
  rw [hrule, ← hs i]
  rfl

theorem evaluateOutput_kept : s.Kept s.evaluateOutput := ⟨fun _ => rfl, fun _ => rfl, id⟩

theorem evaluateOutput_switches {s : State} (h : s.SwitchesFollow) : s.evaluateOutput.SwitchesFollow := h

theorem evaluateOutput_railed : s.Railed s.evaluateOutput := ⟨evaluateOutput_kept s, fun _ => evaluateOutput_follows s, id⟩

/-- A source moves, and the own output is evaluated again (R166). -/
theorem updRail_evaluateOutput_railed (z : ZoneId) (f : Rail → Rail)
    (h : (f (s.zone z).rail).goal = (s.zone z).rail.goal ∧ (f (s.zone z).rail).state = (s.zone z).rail.state) :
    s.Railed (s.updRail z f).evaluateOutput :=
  ⟨(updZone_kept s z _ ⟨h.1, rfl⟩).trans (evaluateOutput_kept _), fun _ => evaluateOutput_follows _,
    fun hs => evaluateOutput_switches (updZone_switches z _ ⟨rfl, by dsimp only; rw [h.2]⟩ hs)⟩

/-! #### Entries to rail states -/

/-- A rail that enters a state, before the switches of its zone are evaluated. -/
def State.railEntered (s : State) (z : ZoneId) (new : RailState) : State :=
  let old := (s.zone z).rail.state
  let entered := s.updZone z fun v =>
    { v with
      rail := { v.rail with state := new }
      driving := new.ungated && (v.driving || (!old.ungated && decide (s.engine.state = .stopped))) }
  if old = .hold ∧ new ≠ .hold then entered.noticeZone .rail z else entered

theorem enterRail_eq (z : ZoneId) (new : RailState) :
    s.enterRail z new =
      if (s.zone z).rail.state.powered != new.powered then (s.railEntered z new).evaluateZoneSwitches z
      else s.railEntered z new := rfl

/-- It is the rail's state that has moved. -/
theorem railEntered_works (z : ZoneId) (new : RailState) :
    (s.railEntered z new).works = (s.updRail z fun r => { r with state := new }).works := by
  have hentered : ∀ b : Bool, (s.updZone z fun v => { v with
      rail := { v.rail with state := new }
      driving := new.ungated && (v.driving || b) }).works = (s.updRail z fun r => { r with state := new }).works := fun b => by
    refine works_eq (fun w => ?_) (fun _ => rfl) (fun _ => rfl) ⟨rfl, rfl⟩
    rw [State.updRail, State.updZone_zone, State.updZone_zone]
    split <;> rfl
  unfold State.railEntered
  dsimp only
  rw [ite_works (noticeZone_works ..), hentered]

theorem railEntered_kept (z : ZoneId) (new : RailState) : s.Kept (s.railEntered z new) :=
  (updZone_kept s z (fun v => { v with rail := { v.rail with state := new } }) ⟨rfl, rfl⟩).trans
    (railed_of_works (railEntered_works s z new)).toKept

theorem enterRail_kept (z : ZoneId) (new : RailState) : s.Kept (s.enterRail z new) := by
  rw [enterRail_eq]
  exact (railEntered_kept ..).trans (ite_kept (evaluateSwitches_railed ..).toKept)

theorem enterRail_output {s : State} (z : ZoneId) (new : RailState) (h : s.OutputFollows) :
    (s.enterRail z new).OutputFollows := by
  have hentered : (s.railEntered z new).OutputFollows :=
    outputFollows_of_works (railEntered_works s z new) (updZone_output z _ rfl h)
  rw [enterRail_eq]
  split
  · exact (evaluateSwitches_railed ..).output hentered
  · exact hentered

/-- The entry evaluates the switches of a zone that gains or loses its power (R87). -/
theorem enterRail_follows {s : State} {z : ZoneId} {new : RailState}
    (hother : ∀ i, (s.socket i).zone ≠ z → (s.socket i).switch = s.switchRule i)
    (hsame : (s.zone z).rail.state.powered = new.powered → s.SwitchesFollow) : (s.enterRail z new).SwitchesFollow := by
  have hsocket := works_socket (railEntered_works s z new)
  have hstands : ∀ i, ((s.socket i).zone = z → (s.zone z).rail.state.powered = new.powered) →
      (s.socket i).switch = s.switchRule i → ((s.railEntered z new).socket i).switch = (s.railEntered z new).switchRule i := by
    intro i hp h
    rw [switchRule_of_works (railEntered_works s z new)]
    refine (hsocket i).2.2.2.1.trans (switch_stands (s := s) rfl ?_ h)
    rw [State.updRail, State.updZone_zone]
    split
    · rename_i e
      rw [← e]
      exact ⟨rfl, (hp e.symm).symm⟩
    · exact ⟨rfl, rfl⟩
  rw [enterRail_eq]
  split
  · rename_i hchange
    refine evaluateSwitches_follows fun i hi => ?_
    have hzone : (s.socket i).zone ≠ z := by
      rw [(hsocket i).2.1] at hi
      simpa using hi
    exact hstands i (fun e => absurd e hzone) (hother i hzone)
  · rename_i hkeep
    have hpowered : (s.zone z).rail.state.powered = new.powered := by simpa using hkeep
    exact fun i => hstands i (fun _ => hpowered) (hsame hpowered i)

theorem enterRail_railed (z : ZoneId) (new : RailState) : s.Railed (s.enterRail z new) :=
  ⟨enterRail_kept .., enterRail_output z new, fun h => enterRail_follows (fun i _ => h i) fun _ => h⟩

end Sys2Proof.Machine
end

section
namespace Sys2Proof.Machine

variable (s : State)

/-! #### The rails (05_zone_rails.md) -/

theorem startPowerUp_railed (z : ZoneId) : s.Railed (s.startPowerUp z) :=
  ((updRail_railed s z _ ⟨rfl, rfl, rfl⟩).trans (updValues_railed _ z _)).trans (enterRail_railed ..)

theorem tryPowerUp_railed (z : ZoneId) : s.Railed (s.tryPowerUp z) := by
  unfold State.tryPowerUp
  split
  · exact startPowerUp_railed s z
  · exact updRail_railed s z _ ⟨rfl, rfl, rfl⟩

theorem retestUp_railed (z : ZoneId) : s.Railed (s.retestUp z) := ite_railed (startPowerUp_railed s z)

theorem retestAllUp_railed : s.Railed s.retestAllUp := forEach_railed _ (fun z t => retestUp_railed t z) s

theorem endSearchAbandoned_kept (z : ZoneId) : s.Kept (s.endSearchAbandoned z) :=
  (railed_of_works (reportZone_works ..)).toKept.trans (updSearch_kept ..)

theorem abandonSearch_railed (z : ZoneId) : s.Railed (s.abandonSearch z) := by
  have hreport := reportZone_works s z .searchAbandoned
  refine (railed_of_works hreport).trans (updSearch_evaluateSwitches_railed _ z _ _ fun i hi => ?_)
  rw [works_search hreport]
  exact ⟨by simpa using hi, nofun⟩

theorem enterOff_railed (z : ZoneId) : s.Railed (s.enterOff z) :=
  ((updRail_railed s z _ ⟨rfl, rfl, rfl⟩).trans (enterRail_railed ..)).then (testStopping_works _)

theorem beginPowerDown_railed (z : ZoneId) : s.Railed (s.beginPowerDown z) :=
  (((ite_railed (abandonSearch_railed s z)).trans (updRail_railed _ z _ ⟨rfl, rfl, rfl⟩)).trans (enterRail_railed ..)).trans
    (ite_railed (enterOff_railed ..))

theorem retestDown_railed (fuel : Nat) : s.Railed (State.retestDown fuel s) := by
  induction fuel generalizing s with
  | zero => exact .refl s
  | succ fuel ih =>
    have h : s.Railed (freely (allZones.filter fun z => s.readyDown z) s).2 := railed_of_works (freely_works ..)
    unfold State.retestDown
    split <;> rename_i e <;> rw [e] at h
    · exact h
    · exact (h.trans (beginPowerDown_railed ..)).trans (ih _)

theorem retestAllDown_railed : s.Railed s.retestAllDown := retestDown_railed ..

theorem rampedOff_railed (z : ZoneId) : s.Railed (s.rampedOff z) := (enterOff_railed ..).trans (retestAllDown_railed _)

theorem State.SwitchesFollow.but {s : State} (h : s.SwitchesFollow) (z : ZoneId) : s.SwitchesBut z := fun i _ => h i

theorem switchesBut_of_works {s t : State} {z : ZoneId} (h : t.works = s.works) (hs : s.SwitchesBut z) : t.SwitchesBut z :=
  fun i hi => by
    obtain ⟨-, hzone, -, hswitch, -⟩ := works_socket h i
    rw [hzone, works_rail h] at hi
    rw [hswitch, switchRule_of_works h]
    exact hs i hi

theorem enterTripped_kept (z : ZoneId) (c : TripCause) : s.Kept (s.enterTripped z c) :=
  (((updRail_railed s z (fun r => r.cut c) ⟨rfl, rfl, rfl⟩).toKept).trans (enterRail_kept _ z .tripped)).trans
    (railed_of_works (reportZone_works ..)).toKept

theorem enterTripped_output {s : State} (z : ZoneId) (c : TripCause) (h : s.OutputFollows) : (s.enterTripped z c).OutputFollows :=
  outputFollows_of_works (reportZone_works ..)
    (enterRail_output z .tripped ((updRail_railed s z (fun r => r.cut c) ⟨rfl, rfl, rfl⟩).output h))

/-- A rail that trips opens the switches of its zone, whatever its search had become (R84, R87). -/
theorem enterTripped_switches {s : State} {z : ZoneId} (c : TripCause) (h : s.SwitchesBut z) :
    (s.enterTripped z c).SwitchesFollow := by
  have hcut : ∀ i, ((s.socket i).switch = s.switchRule i) →
      ((s.updRail z fun r => r.cut c).socket i).switch = (s.updRail z fun r => r.cut c).switchRule i := fun i hi => by
    refine switch_stands (s := s) rfl ?_ hi
    rw [State.updRail, State.updZone_zone]
    split
    · subst_vars; exact ⟨rfl, rfl⟩
    · exact ⟨rfl, rfl⟩
  have hstate : ((s.updRail z fun r => r.cut c).zone z).rail.state = (s.zone z).rail.state := by
    rw [State.updRail, State.updZone_zone_same]; rfl
  refine switchesFollow_of_works (reportZone_works ..) (enterRail_follows (fun i hi => hcut i (h i (.inl hi))) fun hp i => ?_)
  rw [hstate] at hp
  exact hcut i (h i (.inr hp))

/-- A trip in its parts: a search ends first, an overcurrent is a source, and the zones that the trip releases are tested last
(R84, R86). -/
theorem trip_parts {s : State} {z : ZoneId} (h : (s.zone z).rail.state ≠ .tripped) (c : TripCause) :
    let entered := (if (s.zone z).search.phase = .idle then s else s.endSearchAbandoned z).enterTripped z c
    s.trip z c =
      (if c = .overcurrent then (entered.updRail z fun r => { r with haltSource := true }).evaluateOutput
        else entered).testStopping.retestAllDown := by
  unfold State.trip
  dsimp only
  rw [if_neg h]
  rfl

/-- What follows the entry to TRIPPED. -/
theorem tripped_railed (z : ZoneId) (c : TripCause) :
    s.Railed (if c = .overcurrent then (s.updRail z fun r => { r with haltSource := true }).evaluateOutput
      else s).testStopping.retestAllDown :=
  ((ite_railed (updRail_evaluateOutput_railed s z _ ⟨rfl, rfl⟩)).then (testStopping_works _)).trans (retestAllDown_railed _)

theorem endSearch_kept (z : ZoneId) : s.Kept (if (s.zone z).search.phase = .idle then s else s.endSearchAbandoned z) := by
  split
  · exact .refl s
  · exact endSearchAbandoned_kept s z

theorem trip_kept (z : ZoneId) (c : TripCause) : s.Kept (s.trip z c) := by
  by_cases h : (s.zone z).rail.state = .tripped
  · rw [trip_tripped h]; exact .refl s
  · rw [trip_parts h]
    exact ((endSearch_kept s z).trans (enterTripped_kept ..)).trans (tripped_railed ..).toKept

theorem trip_output {s : State} (z : ZoneId) (c : TripCause) (ho : s.OutputFollows) : (s.trip z c).OutputFollows := by
  by_cases h : (s.zone z).rail.state = .tripped
  · rw [trip_tripped h]; exact ho
  · have hsearch : (if (s.zone z).search.phase = .idle then s else s.endSearchAbandoned z).OutputFollows := by
      split
      · exact ho
      · exact updSearch_output z _ (outputFollows_of_works (reportZone_works ..) ho)
    rw [trip_parts h]
    exact (tripped_railed ..).output (enterTripped_output z c hsearch)

theorem trip_switches {s : State} {z : ZoneId} (c : TripCause) (hs : s.SwitchesBut z) : (s.trip z c).SwitchesFollow := by
  by_cases h : (s.zone z).rail.state = .tripped
  · rw [trip_tripped h]; exact fun i => hs i (.inr (by rw [h]; rfl))
  · have hsearch : (if (s.zone z).search.phase = .idle then s else s.endSearchAbandoned z).SwitchesBut z := by
      split
      · exact hs
      · exact updSearch_switchesBut z _ (switchesBut_of_works (reportZone_works ..) hs)
    rw [trip_parts h]
    exact (tripped_railed ..).switches (enterTripped_switches c hsearch)

theorem trip_railed (z : ZoneId) (c : TripCause) : s.Railed (s.trip z c) :=
  ⟨trip_kept .., trip_output z c, fun h => trip_switches c (h.but z)⟩

/-- The source of a cleared trip is released at once (R85). -/
theorem clearTrip_railed (z : ZoneId) : s.Railed (s.clearTrip z) := by
  have hcleared : s.Railed
      ((s.updRail z fun r => { r with tripCause := none, haltSource := false }).enterRail z .off).evaluateOutput :=
    ⟨((updZone_kept s z _ ⟨rfl, rfl⟩).trans (enterRail_kept ..)).trans (evaluateOutput_kept _), fun _ => evaluateOutput_follows _,
      fun h => evaluateOutput_switches ((enterRail_railed ..).switches (updZone_switches z _ ⟨rfl, rfl⟩ h))⟩
  unfold State.clearTrip
  exact ite_railed ((hcleared.trans (ite_railed (tryPowerUp_railed _ z))).trans
    ((railed_of_works (testStopping_works _)).trans (retestAllDown_railed _)))

theorem enterConfirming_railed (z : ZoneId) : s.Railed (s.enterConfirming z) :=
  (updRail_railed s z _ ⟨rfl, rfl, rfl⟩).trans (enterRail_railed ..)

theorem enterHold_railed (z : ZoneId) (e : ZoneEvent) : s.Railed (s.enterHold z e) :=
  (((updRail_railed s z _ ⟨rfl, rfl, rfl⟩).trans (enterRail_railed ..)).then (reportZone_works ..)).trans (retestAllUp_railed _)

theorem voltageSample_railed (z : ZoneId) (mv : Nat) : s.Railed (s.voltageSample z mv) := by
  unfold State.voltageSample
  dsimp only
  (repeat' split)
  · exact enterHold_railed ..
  · exact updRail_railed s z _ ⟨rfl, rfl, rfl⟩
  · exact updRail_railed s z _ ⟨rfl, rfl, rfl⟩
  · exact ((updRail_railed s z _ ⟨rfl, rfl, rfl⟩).then (noticeZone_works ..)).trans (trip_railed ..)
  · exact (updRail_railed s z _ ⟨rfl, rfl, rfl⟩).then (noticeZone_works ..)
  all_goals exact .refl s

theorem railStale_railed (z : ZoneId) : s.Railed (s.railStale z) := ite_railed (trip_railed ..)

theorem rampStep_railed (z : ZoneId) : s.Railed (s.rampStep z) := by
  unfold State.rampStep
  dsimp only
  (repeat' split)
  · exact (updRail_railed s z _ ⟨rfl, rfl, rfl⟩).trans (enterConfirming_railed ..)
  · exact (updRail_railed s z _ ⟨rfl, rfl, rfl⟩).trans (rampedOff_railed ..)
  · exact updRail_railed s z _ ⟨rfl, rfl, rfl⟩
  · exact .refl s

theorem confirmExpired_railed (z : ZoneId) : s.Railed (s.confirmExpired z) := ite_railed (trip_railed ..)

theorem redirect_railed (z : ZoneId) : s.Railed (s.redirect z) :=
  ((((ite_railed (abandonSearch_railed s z)).trans (ite_railed (updRail_railed _ z _ ⟨rfl, rfl, rfl⟩))).trans
    (updRail_railed _ z _ ⟨rfl, rfl, rfl⟩)).trans (enterRail_railed ..)).trans (ite_railed (enterConfirming_railed ..))

theorem goalChange_railed (z : ZoneId) : s.Railed (s.goalChange z) := by
  unfold State.goalChange
  refine State.Railed.trans (?_ : s.Railed _) ((retestAllUp_railed _).trans (retestAllDown_railed _))
  split
  · exact .refl s
  · exact tryPowerUp_railed ..
  · exact updRail_railed s z _ ⟨rfl, rfl, rfl⟩
  · exact redirect_railed ..
  · split
    · exact beginPowerDown_railed ..
    · exact updRail_railed s z _ ⟨rfl, rfl, rfl⟩

theorem writeOrder_railed (zs : List ZoneId) : s.Railed (s.writeOrder zs) := by
  have hw : s.Railed { s with order := zs } := railed_of_works rfl
  unfold State.writeOrder
  refine hw.trans ((forEachFreely_railed _ (fun z t => ?_) _).trans (retestAllDown_railed _))
  split
  · exact beginPowerDown_railed ..
  · exact retestUp_railed ..

/-! #### The search (06_isolation_search.md) -/

theorem shedNext_railed (z : ZoneId) : s.Railed (s.shedNext z) := by
  unfold State.shedNext
  dsimp only
  split
  · exact .refl s
  · refine updSearch_evaluateSwitches_railed s z _ _ fun i hi => ?_
    obtain ⟨hnew, hold⟩ := Bool.or_eq_false_iff.mp hi
    exact ⟨by simpa using hold, fun e => by simp [Option.some.inj e] at hnew⟩

theorem exhaust_railed (z : ZoneId) : s.Railed (s.exhaust z) := by
  have hreport := reportZone_works s z .searchExhausted
  refine ⟨((railed_of_works hreport).toKept.trans (updSearch_kept ..)).trans (trip_kept ..), fun ho =>
    trip_output z _ (updSearch_output z _ (outputFollows_of_works hreport ho)), fun hs => trip_switches _ ?_⟩
  exact updSearch_switchesBut z _ (switchesBut_of_works hreport (hs.but z))

theorem searchOn_railed (z : ZoneId) : s.Railed (s.searchOn z) := by
  unfold State.searchOn
  split
  · exact exhaust_railed ..
  · exact shedNext_railed ..

theorem clearSearch_railed (z : ZoneId) : s.Railed (s.clearSearch z) :=
  (updSearch_evaluateSwitches_railed s z (fun _ => {}) _ fun i hi => ⟨by simpa using hi, nofun⟩).trans (enterHold_railed ..)

theorem startSearch_railed (z : ZoneId) (ma : Nat) : s.Railed (s.startSearch z ma) :=
  ((((updRail_railed s z _ ⟨rfl, rfl, rfl⟩).trans (enterRail_railed ..)).trans (updSearch_railed _ z _ rfl)).then
    (reportZone_works ..)).trans (searchOn_railed ..)

theorem finding_railed (i : SocketId) (c : FailCause) : s.Railed (s.finding i c) := by
  have h := finding_orderly s i c
  have hz := (finding_turns s i c).checked.zone
  exact ⟨⟨fun z => by rw [hz], fun z => by rw [hz], h.gates⟩, h.output, h.switches⟩

theorem measure_railed (z : ZoneId) (ma : Nat) : s.Railed (s.measure z ma) := by
  unfold State.measure
  dsimp only
  split
  · rename_i i _ _ _
    have hfound : s.Railed ((s.finding i .short).reportZone z (.searchCulprit i)) :=
      (finding_railed ..).then (reportZone_works ..)
    (repeat' split)
    · exact hfound.trans (clearSearch_railed ..)
    · exact (hfound.trans (updSearch_railed _ z _ rfl)).trans (searchOn_railed ..)
    · exact searchOn_railed ..
  · exact .refl s

theorem currentSample_railed (z : ZoneId) (ma : Nat) : s.Railed (s.currentSample z ma) := by
  unfold State.currentSample
  dsimp only
  (repeat' split)
  · exact trip_railed ..
  · exact startSearch_railed ..
  · exact measure_railed ..
  all_goals exact .refl s

theorem settleExpired_railed (z : ZoneId) : s.Railed (s.settleExpired z) := ite_railed (updSearch_railed s z _ rfl)

end Sys2Proof.Machine
end

section
namespace Sys2Proof.Machine

/-! ### Rail and search records that hang together (R70 to R91) -/

/-- A rail record and a search record hang together. -/
def Rail.Fits (r : Rail) (q : Search) : Prop := ({ rail := r, search := q } : Zone).RailConsistent

theorem Zone.RailConsistent.fits {v : Zone} (h : v.RailConsistent) : v.rail.Fits v.search := h

theorem Rail.Fits.consistent {v : Zone} {r : Rail} {q : Search} (h : r.Fits q) (hr : v.rail = r) (hq : v.search = q) :
    v.RailConsistent := by
  subst hr hq; exact h

/-- A rail that starts power-up (R74). -/
def Rail.poweredUp (r : Rail) : Rail := { r with state := .ramping, setpoint := 0, rampTimer := true, waiting := .none }

/-- A rail that ramps toward 0 or a new goal (R77, R78). -/
def Rail.turned (r : Rail) : Rail := { r with state := .ramping, rampTimer := true, confirmTimer := false, waiting := .none }

/-- A rail at the end of its power-down (R78). -/
def Rail.ended (r : Rail) : Rail :=
  { r with state := .off, setpoint := 0, rampTimer := false, confirmTimer := false, waiting := .none }

/-- A rail that begins power-down; one that stands at 0 is at its end at once (R78, log 32). -/
def Rail.poweredDown (r : Rail) : Rail := if r.setpoint = 0 then r.turned.ended else r.turned

/-- A rail that confirms its setpoint (R79). -/
def Rail.confirming (r : Rail) : Rail := { r with state := .confirming, rampTimer := false, confirmTimer := true, side := none }

/-- A rail that has been handed a new goal while it is powered (R77); one that stands on it confirms at once (log 29). -/
def Rail.redirected (r : Rail) : Rail :=
  let turned := ({ r with oowCount := if r.state = .hold then 0 else r.oowCount } : Rail).turned
  if r.goal = some r.setpoint then turned.confirming else turned

/-- A rail in HOLD, from confirmation or from a cleared search (R79, R97). -/
def Rail.held (r : Rail) : Rail := { r with state := .hold, confirmTimer := false, oowCount := 0 }

/-- A rail that has tripped, as a HALT source for OVERCURRENT (R84, R86). -/
def Rail.tripped (r : Rail) (c : TripCause) : Rail :=
  { r.cut c with state := .tripped, haltSource := if c = .overcurrent then true else r.haltSource }

/-- A rail whose trip is cleared (R85). -/
def Rail.cleared (r : Rail) : Rail := { r with state := .off, tripCause := none, haltSource := false }

namespace Rail.Fits

variable {r : Rail} {q : Search}

/-- Goal, count and side are free. -/
theorem free (h : r.Fits q) (goal : Option Nat) (oowCount : Nat) (side : Option Side) :
    ({ r with goal, oowCount, side } : Rail).Fits q := h

/-- Out of SEARCHING there is no search (R91). -/
theorem idle (h : r.Fits q) (hs : r.state ≠ .searching) : q = {} := by
  obtain ⟨-, -, -, -, hphase, hidle, -⟩ := h
  exact hidle (by rw [hphase]; exact hs)

theorem poweredUp (h : r.Fits q) (hs : r.state = .off) : r.poweredUp.Fits q := by
  obtain ⟨hcause, hsource, -, -, hphase, hidle, -, -, hconfirm⟩ := h
  rw [hs] at *
  refine ⟨?_, ?_, nofun, nofun, ?_, hidle, fun hp => (nomatch (show true = false from hp)), fun _ => rfl, ?_⟩
  all_goals simp_all [Rail.poweredUp]

theorem waitsUp (h : r.Fits q) (hs : r.state = .off) : ({ r with waiting := .powerUp } : Rail).Fits q := by
  obtain ⟨hcause, hsource, -, -, hphase, hidle, hset, hramp, hconfirm⟩ := h
  exact ⟨hcause, hsource, fun _ => hs, nofun, hphase, hidle, hset, hramp, hconfirm⟩

theorem waitsNot (h : r.Fits q) : ({ r with waiting := .none } : Rail).Fits q := by
  obtain ⟨hcause, hsource, -, -, hphase, hidle, hset, hramp, hconfirm⟩ := h
  exact ⟨hcause, hsource, nofun, nofun, hphase, hidle, hset, hramp, hconfirm⟩

theorem waitsDown (h : r.Fits q) (hs : r.state.powered = true) (b : Bool) (hb : b = true → r.rampTimer = true) :
    ({ r with waiting := .powerDown, rampTimer := b } : Rail).Fits q := by
  obtain ⟨hcause, hsource, -, -, hphase, hidle, hset, hramp, hconfirm⟩ := h
  exact ⟨hcause, hsource, nofun, fun _ => hs, hphase, hidle, hset, fun h => hramp (hb h), hconfirm⟩

/-- What a powered rail has: no trip cause and no source. -/
theorem sound (h : r.Fits q) (hs : r.state ≠ .tripped) : r.tripCause = none ∧ r.haltSource = false := by
  obtain ⟨hcause, hsource, -⟩ := h
  refine ⟨by simpa [hs] using hcause, Bool.eq_false_iff.mpr fun e => hs (hsource e).1⟩

theorem turned (h : r.Fits q) (hs : r.state.powered = true) : r.turned.Fits {} := by
  obtain ⟨hcause, hsource⟩ := h.sound fun e => by simp [e, RailState.powered] at hs
  refine ⟨?_, ?_, nofun, nofun, ?_, fun _ => rfl, fun hp => (nomatch (show true = false from hp)), fun _ => rfl, rfl⟩
  · simp [Rail.turned, hcause]
  · simp [Rail.turned, hsource]
  · simp [Rail.turned]

theorem ended (h : r.Fits q) (hs : r.state.powered = true) : r.ended.Fits {} := by
  obtain ⟨hcause, hsource⟩ := h.sound fun e => by simp [e, RailState.powered] at hs
  refine ⟨?_, ?_, nofun, nofun, ?_, fun _ => rfl, fun _ => rfl, nofun, rfl⟩
  · simp [Rail.ended, hcause]
  · simp [Rail.ended, hsource]
  · simp [Rail.ended]

theorem poweredDown (h : r.Fits q) (hs : r.state.powered = true) : r.poweredDown.Fits {} := by
  rw [Rail.poweredDown]
  split
  · exact (h.turned hs).ended rfl
  · exact h.turned hs

theorem confirming (h : r.Fits q) (hs : r.state = .ramping) : r.confirming.Fits q := by
  obtain ⟨hcause, hsource⟩ := h.sound (by rw [hs]; exact nofun)
  obtain ⟨-, -, hup, -, hphase, hidle, -⟩ := h
  have hwaits : r.waiting ≠ .powerUp := fun e => by simp [hs] at hup; exact hup e
  refine ⟨?_, ?_, fun e => absurd e hwaits, fun _ => rfl, ?_, hidle, fun hp => (nomatch (show true = false from hp)), nofun, rfl⟩
  · simp [Rail.confirming, hcause]
  · simp [Rail.confirming, hsource]
  · simpa [Rail.confirming, hs] using hphase

theorem redirected (h : r.Fits q) (hs : r.state.powered = true) : r.redirected.Fits {} := by
  have hturned := (h.free r.goal (if r.state = .hold then 0 else r.oowCount) r.side).turned hs
  rw [Rail.redirected]
  split
  · exact hturned.confirming rfl
  · exact hturned

theorem held (h : r.Fits q) (hs : r.state = .confirming ∨ r.state = .searching) : r.held.Fits {} := by
  obtain ⟨hcause, hsource⟩ := h.sound (by rcases hs with e | e <;> rw [e] <;> exact nofun)
  obtain ⟨-, -, hup, -, -, -, -, hramp, -⟩ := h
  have hwaits : r.waiting ≠ .powerUp := fun e => by rcases hs with h | h <;> simp [h] at hup <;> exact hup e
  have htimer : r.rampTimer ≠ true := fun e => by rcases hs with h | h <;> simp [h] at hramp <;> simp [hramp] at e
  refine ⟨?_, ?_, fun e => absurd e hwaits, fun _ => rfl, ?_, fun _ => rfl, fun hp => (nomatch (show true = false from hp)),
    fun e => absurd e htimer, rfl⟩
  · simp [Rail.held, hcause]
  · simp [Rail.held, hsource]
  · simp [Rail.held]

theorem tripped (h : r.haltSource = false) (c : TripCause) : (r.tripped c).Fits {} := by
  refine ⟨rfl, fun e => ⟨rfl, ?_⟩, nofun, nofun, ?_, fun _ => rfl, fun _ => rfl, nofun, rfl⟩
  · by_cases hc : c = .overcurrent
    · simp [Rail.tripped, Rail.cut, hc]
    · simp [Rail.tripped, hc, h] at e
  · simp [Rail.tripped]

theorem cleared (h : r.Fits q) (hs : r.state = .tripped) : r.cleared.Fits q := by
  obtain ⟨-, -, hup, hdown, hphase, hidle, hset, hramp, hconfirm⟩ := h
  simp only [hs] at *
  exact ⟨rfl, nofun, fun _ => rfl, fun e => absurd (hdown e) (by decide), by simpa [Rail.cleared] using hphase, hidle,
    fun _ => hset rfl,
    fun e => absurd (hramp e) (by decide), by simpa [Rail.cleared] using hconfirm⟩

/-- A search that has begun (R92). -/
theorem searching (h : r.Fits q) (hs : r.state = .hold ∨ r.state = .searching) {p : Search} (hp : p.phase ≠ .idle) (n : Nat) :
    ({ r with state := .searching, oowCount := n } : Rail).Fits p := by
  obtain ⟨hcause, hsource⟩ := h.sound (by rcases hs with e | e <;> rw [e] <;> exact nofun)
  obtain ⟨-, -, hup, -, -, -, -, hramp, hconfirm⟩ := h
  have hwaits : r.waiting ≠ .powerUp := fun e => by rcases hs with h | h <;> simp [h] at hup <;> exact hup e
  have htimer : r.rampTimer ≠ true := fun e => by rcases hs with h | h <;> simp [h] at hramp <;> simp [hramp] at e
  refine ⟨?_, ?_, fun e => absurd e hwaits, fun _ => rfl, ?_, fun e => absurd e hp,
    fun hp => (nomatch (show true = false from hp)), fun e => absurd e htimer, ?_⟩
  · simp [hcause]
  · simp [hsource]
  · simp [hp]
  · rcases hs with h | h <;> simpa [h] using hconfirm

/-- A search that goes on (R93, R94). -/
theorem searchesOn (h : r.Fits q) (hs : r.state = .searching) {p : Search} (hp : p.phase ≠ .idle) : r.Fits p := by
  cases r with
  | mk state =>
    cases hs
    exact h.searching (.inr rfl) hp _

/-- The setpoint moves while the rail is powered (R75). -/
theorem setpoint (h : r.Fits q) (hs : r.state.powered = true) (n : Nat) : ({ r with setpoint := n } : Rail).Fits q := by
  obtain ⟨hcause, hsource, hup, hdown, hphase, hidle, -, hramp, hconfirm⟩ := h
  exact ⟨hcause, hsource, hup, hdown, hphase, hidle, fun e => by simp [hs] at e, hramp, hconfirm⟩

end Rail.Fits

/-! ### Moves of one zone's rail -/

/-- From `s` to `t` the rail and search records of zone `z` become `r` and `q`, and those of the others stand. -/
structure State.Rerailed (s : State) (z : ZoneId) (t : State) (r : Rail) (q : Search) : Prop where
  rail : (t.zone z).rail = r
  search : (t.zone z).search = q
  other (w : ZoneId) : w ≠ z → (t.zone w).rail = (s.zone w).rail ∧ (t.zone w).search = (s.zone w).search

namespace State.Rerailed

variable {s t u : State} {z : ZoneId} {r : Rail} {q : Search}

theorem refl (s : State) (z : ZoneId) : s.Rerailed z s (s.zone z).rail (s.zone z).search := ⟨rfl, rfl, fun _ _ => ⟨rfl, rfl⟩⟩

theorem works (h : s.Rerailed z t r q) (h' : u.works = t.works) : s.Rerailed z u r q :=
  ⟨(works_rail h' z).trans h.rail, (works_search h' z).trans h.search, fun w hw =>
    ⟨(works_rail h' w).trans (h.other w hw).1, (works_search h' w).trans (h.other w hw).2⟩⟩

theorem zones (h : s.Rerailed z t r q) (h' : u.zones = t.zones) : s.Rerailed z u r q := by
  have hz : ∀ w, u.zone w = t.zone w := fun w => by rw [State.zone, h']; rfl
  exact ⟨by rw [hz]; exact h.rail, by rw [hz]; exact h.search, fun w hw => by rw [hz]; exact h.other w hw⟩

theorem evaluate (h : s.Rerailed z t r q) (named : SocketId → Bool) : s.Rerailed z (t.evaluateSwitches named) r q := h.zones rfl

theorem output (h : s.Rerailed z t r q) : s.Rerailed z t.evaluateOutput r q := h.zones rfl

theorem upd (h : s.Rerailed z t r q) (f : Rail → Rail) : s.Rerailed z (t.updRail z f) (f r) q := by
  refine ⟨?_, ?_, fun w hw => ?_⟩
  · rw [State.updRail, State.updZone_zone_same, h.rail]
  · rw [State.updRail, State.updZone_zone_same]; exact h.search
  · rw [State.updRail, State.updZone_zone, if_neg hw.symm]; exact h.other w hw

theorem searches (h : s.Rerailed z t r q) (f : Search → Search) : s.Rerailed z (t.updSearch z f) r (f q) := by
  refine ⟨?_, ?_, fun w hw => ?_⟩
  · rw [State.updSearch, State.updZone_zone_same]; exact h.rail
  · rw [State.updSearch, State.updZone_zone_same, h.search]
  · rw [State.updSearch, State.updZone_zone, if_neg hw.symm]; exact h.other w hw

theorem enter (h : s.Rerailed z t r q) (new : RailState) : s.Rerailed z (t.enterRail z new) { r with state := new } q := by
  refine ⟨?_, ?_, fun w hw => ?_⟩
  · rw [enterRail_zone_same, h.rail]
  · rw [enterRail_zone_same]; exact h.search
  · rw [enterRail_zone_other _ hw]; exact h.other w hw

theorem consistent_of_other (h : s.Rerailed z t r q) (hf : r.Fits q) (hs : ∀ w, w ≠ z → (s.zone w).RailConsistent) :
    t.RailsConsistent := fun w => by
  by_cases hw : w = z
  · rw [hw]; exact hf.consistent h.rail h.search
  · exact railConsistent_of_eq (h.other w hw).1 (h.other w hw).2 (hs w hw)

theorem consistent (h : s.Rerailed z t r q) (hf : r.Fits q) (hs : s.RailsConsistent) : t.RailsConsistent :=
  h.consistent_of_other hf fun w _ => hs w

end State.Rerailed

variable {s : State} {z : ZoneId}

/-! #### The rails (05_zone_rails.md) -/

theorem startPowerUp_rerailed : s.Rerailed z (s.startPowerUp z) (s.zone z).rail.poweredUp (s.zone z).search :=
  (((State.Rerailed.refl s z).upd _).works (updValues_works ..)).enter .ramping

/-- The search record that a zone is left with when its search is abandoned, if it is searching (R98). -/
def Zone.searchLeft (v : Zone) : Search := if v.rail.state = .searching then {} else v.search

theorem searchLeft_idle (h : (s.zone z).RailConsistent) : (s.zone z).searchLeft = {} := by
  rw [Zone.searchLeft]
  split
  · rfl
  · exact h.fits.idle ‹_›

theorem abandoned_rerailed : s.Rerailed z
    (if (s.zone z).rail.state = .searching then s.abandonSearch z else s) (s.zone z).rail (s.zone z).searchLeft := by
  unfold Zone.searchLeft
  split
  · exact (((State.Rerailed.refl s z).works (reportZone_works ..)).searches _).evaluate _
  · exact .refl s z

theorem State.Rerailed.off {t : State} {r : Rail} {q : Search} (h : s.Rerailed z t r q) : s.Rerailed z (t.enterOff z) r.ended q :=
  ((h.upd _).enter .off).works (testStopping_works _)

theorem beginPowerDown_rerailed : s.Rerailed z (s.beginPowerDown z) (s.zone z).rail.poweredDown (s.zone z).searchLeft := by
  unfold State.beginPowerDown
  dsimp only
  have hturned := (abandoned_rerailed (s := s) (z := z)).upd
    (fun r => { r with waiting := .none, rampTimer := true, confirmTimer := false }) |>.enter .ramping
  rw [hturned.rail]
  unfold Rail.poweredDown
  split
  · exact hturned.off
  · exact hturned

theorem redirect_rerailed : s.Rerailed z (s.redirect z) (s.zone z).rail.redirected (s.zone z).searchLeft := by
  unfold State.redirect
  dsimp only
  have habandoned := abandoned_rerailed (s := s) (z := z)
  generalize (if (s.zone z).rail.state = .searching then s.abandonSearch z else s) = t at habandoned ⊢
  have hcounted : s.Rerailed z
      (if (t.zone z).rail.state = .hold then t.updRail z fun r => { r with oowCount := 0 } else t)
      { (s.zone z).rail with oowCount := if (s.zone z).rail.state = .hold then 0 else (s.zone z).rail.oowCount }
      (s.zone z).searchLeft := by
    rw [habandoned.rail]
    split
    · exact habandoned.upd _
    · exact habandoned
  have hturned := (hcounted.upd fun r => { r with waiting := .none, rampTimer := true, confirmTimer := false }).enter .ramping
  rw [hturned.rail]
  unfold Rail.redirected
  dsimp only
  split
  · exact (hturned.upd _).enter .confirming
  · exact hturned

theorem State.Rerailed.hold {t : State} {r : Rail} {q : Search} (h : s.Rerailed z t r q) (e : ZoneEvent) :
    s.Rerailed z (((t.updRail z fun r => { r with confirmTimer := false, oowCount := 0 }).enterRail z .hold).reportZone z e)
      r.held q :=
  ((h.upd _).enter .hold).works (reportZone_works ..)

/-- The search record left by a trip: an IDLE one stands (R84, R99). -/
def Search.tripped (q : Search) : Search := if q.phase = .idle then q else {}

/-- The entry to TRIPPED, before the zones that it releases are tested (R84). -/
theorem tripped_rerailed (c : TripCause) :
    let entered := (if (s.zone z).search.phase = .idle then s else s.endSearchAbandoned z).enterTripped z c
    s.Rerailed z
      (if c = .overcurrent then (entered.updRail z fun r => { r with haltSource := true }).evaluateOutput else entered)
      ((s.zone z).rail.tripped c) (s.zone z).search.tripped := by
  have hsearch : s.Rerailed z
      (if (s.zone z).search.phase = .idle then s else s.endSearchAbandoned z) (s.zone z).rail (s.zone z).search.tripped := by
    unfold Search.tripped
    split
    · exact .refl s z
    · exact ((State.Rerailed.refl s z).works (reportZone_works ..)).searches _
  have hentered := ((hsearch.upd fun r => r.cut c).enter .tripped).works (reportZone_works _ z (.railTripped c))
  intro entered
  unfold Rail.tripped
  split
  · exact (hentered.upd fun r => { r with haltSource := true }).output
  · exact hentered

end Sys2Proof.Machine
end

section
namespace Sys2Proof.Machine

variable {s : State} {z : ZoneId}

/-! ### The rails keep their records consistent -/

theorem startPowerUp_rails (hs : s.RailsConsistent) (h : (s.zone z).rail.state = .off) : (s.startPowerUp z).RailsConsistent :=
  startPowerUp_rerailed.consistent ((hs z).fits.poweredUp h) hs

theorem tryPowerUp_rails (hs : s.RailsConsistent) (h : (s.zone z).rail.state = .off) : (s.tryPowerUp z).RailsConsistent := by
  unfold State.tryPowerUp
  split
  · exact startPowerUp_rails hs h
  · exact ((State.Rerailed.refl s z).upd _).consistent ((hs z).fits.waitsUp h) hs

/-- A rail that waits POWER_UP is OFF (R73). -/
theorem readyUp_off (hs : s.RailsConsistent) (h : s.readyUp z = true) : (s.zone z).rail.state = .off := by
  simp only [State.readyUp, Bool.and_eq_true, decide_eq_true_eq] at h
  obtain ⟨-, -, hup, -⟩ := hs z
  exact hup h.1.1

/-- A rail that waits POWER_DOWN is powered (R78). -/
theorem readyDown_on (hs : s.RailsConsistent) (h : s.readyDown z = true) : (s.zone z).rail.state.powered = true := by
  simp only [State.readyDown, Bool.and_eq_true, decide_eq_true_eq] at h
  obtain ⟨-, -, -, hdown, -⟩ := hs z
  exact hdown h.1.1

theorem retestUp_rails (z : ZoneId) (hs : s.RailsConsistent) : (s.retestUp z).RailsConsistent := by
  unfold State.retestUp
  split
  · exact startPowerUp_rails hs (readyUp_off hs ‹_›)
  · exact hs

theorem retestAllUp_rails (hs : s.RailsConsistent) : s.retestAllUp.RailsConsistent :=
  forEach_keeps (P := State.RailsConsistent) (fun z _ _ ht => retestUp_rails z ht) hs

theorem beginPowerDown_rails (hs : s.RailsConsistent) (h : (s.zone z).rail.state.powered = true) :
    (s.beginPowerDown z).RailsConsistent := by
  have hdown := beginPowerDown_rerailed (s := s) (z := z)
  rw [searchLeft_idle (hs z)] at hdown
  exact hdown.consistent ((hs z).fits.poweredDown h) hs

theorem retestDown_rails (fuel : Nat) (hs : s.RailsConsistent) : (State.retestDown fuel s).RailsConsistent := by
  induction fuel generalizing s with
  | zero => exact hs
  | succ fuel ih =>
    have hfree := freely_works s (allZones.filter fun z => s.readyDown z)
    have hperm := freely_perm (allZones.filter fun z => s.readyDown z) s
    unfold State.retestDown
    split <;> rename_i e <;> rw [e] at hfree hperm
    · exact railsConsistent_of_works hfree hs
    · have hready := (List.mem_filter.mp (hperm.subset List.mem_cons_self)).2
      exact ih (beginPowerDown_rails (railsConsistent_of_works hfree hs) (by rw [works_rail hfree]; exact readyDown_on hs hready))

theorem retestAllDown_rails (hs : s.RailsConsistent) : s.retestAllDown.RailsConsistent := retestDown_rails 4 hs

theorem rampedOff_rails (hs : s.RailsConsistent) (h : (s.zone z).rail.state = .ramping) : (s.rampedOff z).RailsConsistent := by
  have hoff := (State.Rerailed.refl s z).off
  rw [(hs z).fits.idle (by rw [h]; exact nofun)] at hoff
  exact retestAllDown_rails (hoff.consistent ((hs z).fits.ended (by rw [h]; rfl)) hs)

/-- A trip out of an IDLE search record, or out of a record in which the rest hangs together (R84). -/
theorem trip_rails_but (hother : ∀ w, w ≠ z → (s.zone w).RailConsistent)
    (hz : (s.zone z).rail.state ≠ .tripped ∧ (s.zone z).rail.haltSource = false ∧
      ((s.zone z).search.phase = .idle → (s.zone z).search = {})) (c : TripCause) : (s.trip z c).RailsConsistent := by
  obtain ⟨hstate, hsource, hsearch⟩ := hz
  have htripped := tripped_rerailed (s := s) (z := z) c
  have hidle : (s.zone z).search.tripped = {} := by
    rw [Search.tripped]
    split
    · exact hsearch ‹_›
    · rfl
  rw [hidle] at htripped
  rw [trip_parts hstate]
  exact retestAllDown_rails (railsConsistent_of_works (testStopping_works _)
    (htripped.consistent_of_other (Rail.Fits.tripped hsource c) hother))

theorem trip_rails (hs : s.RailsConsistent) (z : ZoneId) (c : TripCause) : (s.trip z c).RailsConsistent := by
  by_cases h : (s.zone z).rail.state = .tripped
  · rw [trip_tripped h]; exact hs
  · obtain ⟨-, -, -, -, -, hidle, -⟩ := hs z
    exact trip_rails_but (fun w _ => hs w) ⟨h, ((hs z).fits.sound h).2, hidle⟩ c

theorem clearTrip_rails (hs : s.RailsConsistent) (z : ZoneId) : (s.clearTrip z).RailsConsistent := by
  unfold State.clearTrip
  split
  · rename_i htripped
    have hcleared : s.Rerailed z
        ((s.updRail z fun r => { r with tripCause := none, haltSource := false }).enterRail z .off).evaluateOutput
        (s.zone z).rail.cleared (s.zone z).search :=
      (((State.Rerailed.refl s z).upd _).enter .off).output
    have hrails := hcleared.consistent ((hs z).fits.cleared htripped) hs
    dsimp only
    refine retestAllDown_rails (railsConsistent_of_works (testStopping_works _) ?_)
    split
    · exact tryPowerUp_rails hrails (by rw [hcleared.rail]; rfl)
    · exact hrails
  · exact hs

theorem enterConfirming_rails (hs : s.RailsConsistent) (h : (s.zone z).rail.state = .ramping) :
    (s.enterConfirming z).RailsConsistent :=
  (((State.Rerailed.refl s z).upd _).enter .confirming).consistent ((hs z).fits.confirming h) hs

theorem enterHold_rails (hs : s.RailsConsistent) (h : (s.zone z).rail.state = .confirming) (e : ZoneEvent) :
    (s.enterHold z e).RailsConsistent := by
  have hheld := (State.Rerailed.refl s z).hold e
  rw [(hs z).fits.idle (by rw [h]; exact nofun)] at hheld
  exact retestAllUp_rails (hheld.consistent ((hs z).fits.held (.inl h)) hs)

/-- A rail record moves in what is free (R79, R80). -/
theorem updRail_rails (hs : s.RailsConsistent) (z : ZoneId) (oowCount : Rail → Nat) (side : Rail → Option Side) :
    (s.updRail z fun r => { r with oowCount := oowCount r, side := side r }).RailsConsistent :=
  ((State.Rerailed.refl s z).upd _).consistent ((hs z).fits.free ..) hs

theorem voltageSample_rails (hs : s.RailsConsistent) (z : ZoneId) (mv : Nat) : (s.voltageSample z mv).RailsConsistent := by
  unfold State.voltageSample
  dsimp only
  split <;> rename_i hstate
  · split
    · exact enterHold_rails hs hstate _
    · exact updRail_rails hs z (·.oowCount) _
  · have hcounted := railsConsistent_of_works (noticeZone_works _ .rail z) (updRail_rails hs z (·.oowCount + 1) (·.side))
    split
    · exact updRail_rails hs z _ (·.side)
    · split
      · exact trip_rails hcounted _ _
      · exact hcounted
  all_goals exact hs

theorem railStale_rails (hs : s.RailsConsistent) (z : ZoneId) : (s.railStale z).RailsConsistent := by
  unfold State.railStale
  split
  · exact trip_rails hs _ _
  · exact hs

theorem rampStep_rails (hs : s.RailsConsistent) (z : ZoneId) : (s.rampStep z).RailsConsistent := by
  unfold State.rampStep
  dsimp only
  split
  · rename_i hramping
    have hmoved := (State.Rerailed.refl s z).upd fun r =>
      { r with setpoint := rampToward (s.zone z).cfg.rampRate (s.zone z).rail.setpoint ((s.zone z).rail.goal.getD 0) }
    have hrails := hmoved.consistent ((hs z).fits.setpoint (by rw [hramping.1]; rfl) _) hs
    have hstate := congrArg Rail.state hmoved.rail |>.trans hramping.1
    (repeat' split)
    · exact enterConfirming_rails hrails hstate
    · exact rampedOff_rails hrails hstate
    · exact hrails
  · exact hs

theorem confirmExpired_rails (hs : s.RailsConsistent) (z : ZoneId) : (s.confirmExpired z).RailsConsistent := by
  unfold State.confirmExpired
  dsimp only
  split
  · exact trip_rails hs _ _
  · exact hs

theorem redirect_rails (hs : s.RailsConsistent) (h : (s.zone z).rail.state.powered = true) : (s.redirect z).RailsConsistent := by
  have hredirect := redirect_rerailed (s := s) (z := z)
  rw [searchLeft_idle (hs z)] at hredirect
  exact hredirect.consistent ((hs z).fits.redirected h) hs

theorem powered_of_ne {r : RailState} (ht : r ≠ .tripped) (ho : r ≠ .off) : r.powered = true := by
  cases r <;> simp_all [RailState.powered]

/-- What a rail makes of its new goal, before the waiting zones are tested again (R73, R77, R78). -/
def State.takeGoal (s : State) (z : ZoneId) : State :=
  let r := (s.zone z).rail
  match r.state, r.goal.isSome with
  | .tripped, _ => s
  | .off, true => s.tryPowerUp z
  | .off, false => s.updRail z fun r => { r with waiting := .none }
  | _, true => s.redirect z
  | _, false =>
    if s.mayStop z then s.beginPowerDown z
    else s.updRail z fun r => { r with waiting := .powerDown, rampTimer := r.rampTimer && !decide (r.state = RailState.ramping) }

theorem goalChange_eq (s : State) (z : ZoneId) : s.goalChange z = (s.takeGoal z).retestAllUp.retestAllDown := by
  unfold State.goalChange State.takeGoal
  rfl

theorem takeGoal_rails (hs : s.RailsConsistent) (z : ZoneId) : (s.takeGoal z).RailsConsistent := by
  unfold State.takeGoal
  dsimp only
  split
  · exact hs
  · exact tryPowerUp_rails hs ‹_›
  · exact ((State.Rerailed.refl s z).upd _).consistent (hs z).fits.waitsNot hs
  · exact redirect_rails hs (powered_of_ne ‹_› ‹_›)
  · split
    · exact beginPowerDown_rails hs (powered_of_ne ‹_› ‹_›)
    · refine ((State.Rerailed.refl s z).upd _).consistent ((hs z).fits.waitsDown (powered_of_ne ‹_› ‹_›) _ fun e => ?_) hs
      exact (Bool.and_eq_true_iff.mp e).1

theorem goalChange_rails (hs : s.RailsConsistent) (z : ZoneId) : (s.goalChange z).RailsConsistent := by
  rw [goalChange_eq]
  exact retestAllDown_rails (retestAllUp_rails (takeGoal_rails hs z))

theorem setGoals_rails (hs : s.RailsConsistent) (goals : ZoneId → Option Nat) : (s.setGoals goals).RailsConsistent := fun z => by
  rw [State.setGoals, State.setZones_zone]
  exact (hs z).fits.free (goals z) _ _

theorem writeOrder_rails (hs : s.RailsConsistent) (zs : List ZoneId) : (s.writeOrder zs).RailsConsistent := by
  unfold State.writeOrder
  refine retestAllDown_rails (forEachFreely_keeps (P := State.RailsConsistent) (fun _ _ ht => ht) (fun z _ t ht => ?_) hs)
  split
  · exact beginPowerDown_rails ht (readyDown_on ht ‹_›)
  · exact retestUp_rails z ht

/-! #### The search (06_isolation_search.md) -/

theorem shedNext_rerailed {i : SocketId} {rest : List SocketId} (h : (s.zone z).search.pending = i :: rest) :
    s.Rerailed z (s.shedNext z) (s.zone z).rail
      { (s.zone z).search with candidate := some i, pending := rest, phase := .settling, settleTimer := true } := by
  unfold State.shedNext
  dsimp only
  rw [h]
  exact ((State.Rerailed.refl s z).searches _).evaluate _

/-- A search goes on out of a record in which the rail is searching and the rest of it hangs together (R93, R97). -/
theorem searchOn_rails (hother : ∀ w, w ≠ z → (s.zone w).RailConsistent) {q : Search}
    (hz : (s.zone z).rail.Fits q) (hstate : (s.zone z).rail.state = .searching) : (s.searchOn z).RailsConsistent := by
  have hsource := (hz.sound (by rw [hstate]; exact nofun)).2
  unfold State.searchOn
  split
  · have hended := ((State.Rerailed.refl s z).works (reportZone_works s z .searchExhausted)).searches fun _ => {}
    refine trip_rails_but (fun w hw => railConsistent_of_eq (hended.other w hw).1 (hended.other w hw).2 (hother w hw))
      ⟨?_, ?_, fun _ => hended.search⟩ _
    · rw [hended.rail, hstate]; exact nofun
    · rw [hended.rail]; exact hsource
  · rename_i hpending
    obtain ⟨i, rest, e⟩ := List.exists_cons_of_ne_nil (l := (s.zone z).search.pending) (by simpa using hpending)
    exact (shedNext_rerailed e).consistent_of_other (hz.searchesOn hstate nofun) hother

theorem clearSearch_rails (hs : s.RailsConsistent) (h : (s.zone z).rail.state = .searching) :
    (s.clearSearch z).RailsConsistent := by
  have hended := ((State.Rerailed.refl s z).searches fun _ => {}).evaluate fun i => (s.zone z).search.candidate == some i
  have hheld := (hended.hold .searchCleared).consistent ((hs z).fits.held (.inr h)) hs
  unfold State.clearSearch State.enterHold
  exact retestAllUp_rails hheld

theorem startSearch_rails (hs : s.RailsConsistent) (h : (s.zone z).rail.state = .hold) (ma : Nat) :
    (s.startSearch z ma).RailsConsistent := by
  unfold State.startSearch
  dsimp only
  have hbegun := (((State.Rerailed.refl s z).upd fun r => { r with oowCount := 0 }).enter .searching).searches
    fun q => { q with
      pending := ((s.updRail z fun r => { r with oowCount := 0 }).enterRail z .searching).searchList z, baseline := some ma }
  have hbegun := hbegun.works (reportZone_works _ z .searchBegun)
  refine searchOn_rails (fun w hw => railConsistent_of_eq (hbegun.other w hw).1 (hbegun.other w hw).2 (hs w))
    (q := { phase := .settling }) ?_ (by rw [hbegun.rail])
  rw [hbegun.rail]
  exact (hs z).fits.searching (.inl h) (by simp) 0

theorem measure_rails (hs : s.RailsConsistent) (h : (s.zone z).rail.state = .searching) (ma : Nat) :
    (s.measure z ma).RailsConsistent := by
  unfold State.measure
  dsimp only
  split
  · rename_i i _ _ _
    have hfound : s.Rerailed z ((s.finding i .short).reportZone z (.searchCulprit i)) (s.zone z).rail (s.zone z).search :=
      ((State.Rerailed.refl s z).zones (finding_turns s i .short).checked.zones).works (reportZone_works ..)
    have hrails := hfound.consistent (hs z).fits hs
    have hstate := congrArg Rail.state hfound.rail |>.trans h
    (repeat' split)
    · exact clearSearch_rails hrails hstate
    · have hbase := hfound.searches fun q => { q with baseline := some ma }
      refine searchOn_rails (fun w hw => railConsistent_of_eq (hbase.other w hw).1 (hbase.other w hw).2 (hs w))
        (q := (s.zone z).search) ?_ (by rw [hbase.rail]; exact h)
      rw [hbase.rail]; exact (hs z).fits
    · exact searchOn_rails (fun w _ => hs w) (hs z).fits h
  · exact hs

theorem currentSample_rails (hs : s.RailsConsistent) (z : ZoneId) (ma : Nat) : (s.currentSample z ma).RailsConsistent := by
  unfold State.currentSample
  dsimp only
  (repeat' split)
  · exact trip_rails hs _ _
  · rename_i hhold; exact startSearch_rails hs hhold.1 ma
  · rename_i hsearching; exact measure_rails hs hsearching.1 ma
  all_goals exact hs

theorem settleExpired_rails (hs : s.RailsConsistent) (z : ZoneId) : (s.settleExpired z).RailsConsistent := by
  unfold State.settleExpired
  split
  · rename_i hsettling
    obtain ⟨-, -, -, -, hphase, -⟩ := hs z
    have hstate : (s.zone z).rail.state = .searching := by simpa [hsettling.1] using hphase
    exact ((State.Rerailed.refl s z).searches _).consistent ((hs z).fits.searchesOn hstate nofun) hs
  · exact hs

end Sys2Proof.Machine
end

section
namespace Sys2Proof.Machine

/-! ### Thermal records that hang together (R107 to R114) -/

namespace Heat.Consistent

variable {h : Heat}

theorem targeted (hc : h.Consistent) (hs : h.state.lawful = true ∨ h.state = .blind) : h.target.isSome = true := hc.2.1 hs

theorem reset : ({} : Heat).Consistent := ⟨fun _ => rfl, nofun, rfl, rfl, fun _ => rfl⟩

theorem towards (ht : h.target.isSome = true) (side : Side) : (h.towards side).Consistent := by
  cases side <;> exact ⟨nofun, fun _ => ht, rfl, rfl, nofun⟩

theorem settled (ht : h.target.isSome = true) : h.settled.Consistent := ⟨nofun, fun _ => ht, rfl, rfl, nofun⟩

theorem placed (ht : h.target.isSome = true) (c : ZoneCfg) (side : Option Side) : (h.placed c side).Consistent := by
  cases side with
  | some side => exact .towards ht side
  | none =>
    rw [Heat.placed]
    split
    · exact .settled ht
    · exact ⟨nofun, fun _ => ht, rfl, rfl, nofun⟩

theorem excursed (ht : h.target.isSome = true) (graceS : Nat) (side : Side) : (h.excursed graceS side).Consistent := by
  rw [Heat.excursed]
  split
  · exact .towards ht side
  · exact ⟨nofun, fun _ => ht, rfl, rfl, nofun⟩

theorem overheated (h : Heat) : h.overheated.Consistent := ⟨nofun, nofun, rfl, rfl, fun _ => rfl⟩

/-- The target moves and stays present. -/
theorem retarget (hc : h.Consistent) (hoff : h.state ≠ .off) {g : Option Int} (hg : h.state = .overtemp ∨ g.isSome = true) :
    ({ h with target := g } : Heat).Consistent := by
  obtain ⟨-, -, hsoak, hgrace, hduty⟩ := hc
  refine ⟨fun e => absurd e hoff, fun hs => ?_, hsoak, hgrace, hduty⟩
  rcases hg with ho | hg
  · simp [ho, ThermalState.lawful] at hs
  · exact hg

/-- The side that a sample lies on is free. -/
theorem sided (hc : h.Consistent) (hs : h.state = .excursion) (side : Option Side) : ({ h with side } : Heat).Consistent := by
  obtain ⟨-, htarget, hsoak, hgrace, hduty⟩ := hc
  exact ⟨fun e => by simp [hs] at e, htarget, hsoak, hgrace, hduty⟩

/-- The law moves integral and duty of a zone in its states (R115). -/
theorem law (hc : h.Consistent) (hs : h.state.lawful = true) (c : ZoneCfg) (g t : Int) : (h.law c g t).Consistent := by
  obtain ⟨-, htarget, hsoak, hgrace, -⟩ := hc
  have hstate : (h.law c g t).state = h.state := rfl
  refine ⟨fun e => ?_, htarget, hsoak, hgrace, fun e => ?_⟩ <;> rw [hstate] at e
  · simp [e, ThermalState.lawful] at hs
  · rcases e with e | e <;> simp [e, ThermalState.lawful] at hs

theorem idle (hc : h.Consistent) : ({ h with duty := 0 } : Heat).Consistent := by
  obtain ⟨hoff, htarget, hsoak, hgrace, -⟩ := hc
  exact ⟨fun e => by rw [hoff e], htarget, hsoak, hgrace, fun _ => rfl⟩

end Heat.Consistent

/-- The heat of a zone in BLIND (R114). -/
def Heat.blinded (h : Heat) : Heat := { h with state := .blind, duty := 0, soak := none, grace := none, side := none }

theorem Heat.Consistent.blinded {h : Heat} (ht : h.target.isSome = true) : h.blinded.Consistent :=
  ⟨nofun, fun _ => ht, rfl, rfl, fun _ => rfl⟩

/-! ### Moves of one zone's heat -/

/-- From `s` to `t` the heat of zone `z` becomes `h`, and the works stand otherwise. -/
def State.Warmed (s : State) (z : ZoneId) (h : Heat) (t : State) : Prop := t.works = (s.updHeat z fun _ => h).works

/-- From `s` to `t` the heat of zone `z` is formed anew, with target `g`, whatever it was; a rail may trip with it. -/
structure State.Places (s : State) (z : ZoneId) (g : Option Int) (t : State) : Prop where
  goal (w : ZoneId) : (t.zone w).rail.goal = (s.zone w).rail.goal
  target : (t.zone z).heat.target = g
  consistent : (t.zone z).heat.Consistent
  other (w : ZoneId) : w ≠ z → (t.zone w).heat = (s.zone w).heat
  switches : s.SwitchesFollow → t.SwitchesFollow
  gates : s.GatesRun → t.GatesRun
  rails : s.RailsConsistent → t.RailsConsistent
  output : (s.zone z).heat.state ≠ .overtemp → s.OutputFollows → t.OutputFollows

section Warmed

variable {s t u : State} {z : ZoneId} {h : Heat}

theorem State.Warmed.refl (s : State) (z : ZoneId) : s.Warmed z (s.zone z).heat s :=
  (updZone_works s z (fun v => { v with heat := (s.zone z).heat }) rfl).symm

theorem State.Warmed.works (k : s.Warmed z h t) (h' : u.works = t.works) : s.Warmed z h u := h'.trans k

theorem State.Warmed.heat (k : s.Warmed z h t) : (t.zone z).heat = h := by rw [works_heat k, State.updHeat_zone_same]

theorem State.Warmed.upd (k : s.Warmed z h t) (f : Heat → Heat) : s.Warmed z (f h) (t.updHeat z f) := by
  refine works_eq (fun w => ?_) (fun i => congrFun (congrArg Works.sockets k) i) (fun n => congrFun (congrArg Works.lanes k) n)
    (works_halt (s := s.updHeat z fun _ => h) (t := t) k)
  have hw := works_zone k w
  rw [State.updHeat_zone] at hw
  rw [State.updHeat_zone, State.updHeat_zone]
  split
  · rename_i e
    subst e
    rw [if_pos rfl] at hw
    obtain ⟨hrail, hsearch, hheat⟩ := hw
    simp only [Zone.works, hrail, hsearch, hheat]
  · rename_i e
    rw [if_neg e] at hw
    obtain ⟨hrail, hsearch, hheat⟩ := hw
    simp only [Zone.works, hrail, hsearch, hheat]

/-- What follows from a move of heat for the rails. -/
theorem State.Warmed.railed (k : s.Warmed z h t) :
    (∀ w, (t.zone w).rail = (s.zone w).rail) ∧ (s.SwitchesFollow → t.SwitchesFollow) ∧ (s.GatesRun → t.GatesRun) ∧
      (s.RailsConsistent → t.RailsConsistent) := by
  have hzone : ∀ w, ((s.updHeat z fun _ => h).zone w).rail = (s.zone w).rail ∧
      ((s.updHeat z fun _ => h).zone w).search = (s.zone w).search := fun w => by
    rw [State.updHeat_zone]
    split
    · subst_vars; exact ⟨rfl, rfl⟩
    · exact ⟨rfl, rfl⟩
  exact ⟨fun w => (works_rail k w).trans (hzone w).1,
    fun hs => switchesFollow_of_works k (updZone_switches z (fun v => { v with heat := h }) ⟨rfl, rfl⟩ hs),
    fun hs => gatesRun_of_works k (updZone_gates z (fun v => { v with heat := h }) hs),
    fun hs => railsConsistent_of_works k fun w => railConsistent_of_eq (hzone w).1 (hzone w).2 (hs w)⟩

theorem State.Warmed.other (k : s.Warmed z h t) {w : ZoneId} (hw : w ≠ z) : (t.zone w).heat = (s.zone w).heat := by
  rw [works_heat k, State.updHeat_zone, if_neg hw.symm]

/-- The own output stands where the zone is a source as before (R112). -/
theorem State.Warmed.output (k : s.Warmed z h t) (hn : h.state = .overtemp ↔ (s.zone z).heat.state = .overtemp)
    (hs : s.OutputFollows) : t.OutputFollows :=
  outputFollows_of_works k (updZone_output z (fun v => { v with heat := h })
    (by simp only [Zone.haltSource]; rw [decide_eq_decide.mpr hn]) hs)

theorem State.Warmed.orderly (k : s.Warmed z h t) (hc : (s.zone z).heat.Consistent → h.Consistent)
    (hn : h.state = .overtemp ↔ (s.zone z).heat.state = .overtemp) : s.Orderly t := by
  obtain ⟨-, hswitches, hgates, hrails⟩ := k.railed
  refine ⟨hswitches, k.output hn, hgates, hrails, fun hs w => ?_⟩
  by_cases hw : w = z
  · rw [hw, k.heat]; exact hc (hs z)
  · rw [k.other hw]; exact hs w

theorem State.Warmed.places (k : s.Warmed z h t) (hc : h.Consistent) (hn : h.state ≠ .overtemp) : s.Places z h.target t := by
  obtain ⟨hrail, hswitches, hgates, hrails⟩ := k.railed
  exact ⟨fun w => by rw [hrail], by rw [k.heat], by rw [k.heat]; exact hc, fun w hw => k.other hw, hswitches, hgates, hrails,
    fun ho => k.output ⟨fun e => absurd e hn, fun e => absurd e ho⟩⟩

theorem State.Places.heats {g : Option Int} (k : s.Places z g t) (hs : s.HeatConsistent) : t.HeatConsistent := fun w => by
  by_cases hw : w = z
  · rw [hw]; exact k.consistent
  · rw [k.other w hw]; exact hs w

theorem State.Places.orderly {g : Option Int} (k : s.Places z g t) (hn : (s.zone z).heat.state ≠ .overtemp) : s.Orderly t :=
  ⟨k.switches, k.output hn, k.gates, k.rails, k.heats⟩

/-- Where a source may have gone, the own output is evaluated again (R113, R166). -/
theorem State.Places.evaluated {g : Option Int} (k : s.Places z g t) : s.Orderly t.evaluateOutput :=
  ⟨fun hs => evaluateOutput_switches (k.switches hs), fun _ => evaluateOutput_follows t, fun hs => k.gates hs,
    fun hs => k.rails hs, fun hs => k.heats hs⟩

/-! #### Entries to thermal states -/

theorem State.Warmed.leave (k : s.Warmed z h t) : s.Warmed z h (t.leaveStable z) := k.works (ite_works (noticeZone_works ..))

theorem State.Warmed.blind (k : s.Warmed z h t) : s.Warmed z h.blinded (t.enterBlind z) :=
  (k.leave.upd Heat.blinded).works (reportZone_works ..)

theorem State.Warmed.stable (k : s.Warmed z h t) : s.Warmed z h.settled (t.enterStable z) :=
  (k.upd Heat.settled).works (reportZone_works ..)

theorem State.Warmed.side (k : s.Warmed z h t) (side : Side) : s.Warmed z (h.towards side) (t.enterSide z side) :=
  k.upd fun h => h.towards side

theorem State.Warmed.soaking (k : s.Warmed z h t) : s.Warmed z (h.placed (t.zone z).cfg none) (t.enterSoaking z) := by
  unfold State.enterSoaking Heat.placed
  dsimp only
  split
  · exact k.stable
  · exact k.upd fun h => { h with state := .soaking, soak := some (t.zone z).cfg.soakS, grace := none, side := none }

/-- The trip of an overheated zone is followed by the evaluation of the own output (R112). -/
theorem State.Warmed.overtemp (k : s.Warmed z h t) : s.Places z h.target (t.enterOvertemp z) := by
  have hentered := (k.leave.upd Heat.overheated).works (reportZone_works _ z .overtempSet)
  have hu : t.enterOvertemp z =
      ((((t.leaveStable z).updHeat z Heat.overheated).reportZone z .overtempSet).trip z .overtemp).evaluateOutput := rfl
  generalize ((t.leaveStable z).updHeat z Heat.overheated).reportZone z .overtempSet = entered at hentered hu
  obtain ⟨hrail, hswitches, hgates, hrails⟩ := hentered.railed
  have htrip := trip_railed entered z .overtemp
  have hheat : ((entered.trip z .overtemp).zone z).heat = h.overheated := (htrip.heat z).trans hentered.heat
  have hplaced : s.Places z h.target (entered.trip z .overtemp).evaluateOutput :=
    { goal := fun w => (htrip.goal w).trans (by rw [hrail])
      target := (congrArg Heat.target hheat :)
      consistent := (hheat ▸ .overheated h : ((entered.trip z .overtemp).zone z).heat.Consistent)
      other := fun w hw => (htrip.heat w).trans (hentered.other hw)
      switches := fun hs => evaluateOutput_switches (htrip.switches (hswitches hs))
      gates := fun hs => htrip.gates (hgates hs)
      rails := fun hs => trip_rails (hrails hs) z _
      output := fun _ _ => evaluateOutput_follows _ }
  rwa [hu]

/-- A zone with a target is placed (R107). -/
theorem State.Warmed.place (k : s.Warmed z h t) (ht : h.target.isSome = true) (g : Int) (temp : Option Int) :
    s.Places z h.target (t.place z g temp) := by
  have hplaced : ∀ side, ∀ {u : State}, s.Warmed z (h.placed (t.zone z).cfg side) u → s.Places z h.target u := fun side _ ku => by
    have hlawful := placed_lawful h (t.zone z).cfg side
    have hp := ku.places (.placed ht _ side) fun e => by simp [e, ThermalState.lawful] at hlawful
    rwa [placed_target] at hp
  unfold State.place
  dsimp only
  (repeat' split)
  · exact k.blind.places (.blinded ht) nofun
  · exact k.overtemp
  · exact hplaced (some _) (k.side _)
  · exact hplaced none k.soaking

end Warmed

end Sys2Proof.Machine
end

section
namespace Sys2Proof.Machine

/-! ### The heat controller (07_zone_heat.md) -/

theorem heatOff_warmed (s : State) (z : ZoneId) : s.Warmed z {} (s.heatOff z) := rfl

/-- A zone takes a new target. It is formed anew but in OVERTEMP and BLIND, where a present target is noted (R107, R108). -/
theorem targetChange_orderly (s : State) (z : ZoneId) (target : Option Int) : s.Orderly (s.targetChange z target) := by
  have k := State.Warmed.refl s z
  have hnoted : ∀ g : Option Int, (s.zone z).heat.state = .overtemp ∨ ((s.zone z).heat.state = .blind ∧ g.isSome = true) →
      s.Orderly (s.updHeat z fun h => { h with target := g }) := fun g hg =>
    (k.upd _).orderly (fun hc => hc.retarget (by rcases hg with e | ⟨e, -⟩ <;> rw [e] <;> exact nofun)
      (hg.imp_right And.right)) .rfl
  unfold State.targetChange
  dsimp only
  split <;> rename_i hstate
  · exact .refl s
  · rename_i g
    have hplaced := ((k.upd fun h => { h with target := some g }).works (noticeZone_works _ .thermal z)).place rfl g
      (s.zone z).values.temperature
    exact (hplaced.orderly (by rw [hstate]; exact nofun)).then (updValues_works ..)
  · exact hnoted _ (.inl hstate)
  · exact hnoted _ (.inr ⟨hstate, rfl⟩)
  · exact ((heatOff_warmed s z).places .reset nofun).orderly (by rw [hstate]; exact nofun)
  · rename_i g _ hover
    exact ((k.leave.upd fun h => { h with target := some g, soak := none, grace := none }).place rfl g _).orderly hover
  · rename_i hover
    exact ((k.leave.upd fun _ => {}).places .reset nofun).orderly hover

theorem formTargets_orderly (s : State) (targets : ZoneId → Option Int) : s.Orderly (s.formTargets targets) :=
  forEachFreely_orderly _ (fun z t => targetChange_orderly t z (targets z)) s

theorem applyLaw_orderly (s : State) (z : ZoneId) (t : Int) : s.Orderly (s.applyLaw z t) := by
  unfold State.applyLaw
  dsimp only
  split
  · refine ite_orderly fun hlaw => ?_
    have hlawful := (Bool.and_eq_true_iff.mp hlaw).1
    exact ((State.Warmed.refl s z).upd _).orderly (fun hc => hc.law hlawful _ _ _) .rfl
  · exact .refl s

section Samples

variable {s : State} {z : ZoneId}

theorem excursion_orderly (hs : (s.zone z).heat.state = .stable) (ht : (s.zone z).heat.target.isSome = true) (side : Side) :
    s.Orderly (s.excursion z side) := by
  have k := (State.Warmed.refl s z).works ((reportZone_works _ z .thermalExcursion).trans (noticeZone_works s .thermal z))
  have hplaces : ∀ {u : State}, s.Warmed z ((s.zone z).heat.excursed (s.zone z).cfg.graceS side) u → s.Orderly u := fun ku => by
    have hlawful := excursed_lawful (s.zone z).heat (s.zone z).cfg.graceS side
    exact (ku.places (.excursed ht _ side) fun e => by simp [e, ThermalState.lawful] at hlawful).orderly (by rw [hs]; exact nofun)
  refine hplaces ?_
  unfold State.excursion Heat.excursed
  dsimp only
  split
  · exact k.side side
  · exact k.upd fun h => { h with state := .excursion, soak := none, grace := some (s.zone z).cfg.graceS, side := some side }

theorem bandSample_orderly {g : Int} (hg : (s.zone z).heat.target = some g) (t : Int) : s.Orderly (s.bandSample z g t) := by
  have ht : (s.zone z).heat.target.isSome = true := by rw [hg]; rfl
  have k := State.Warmed.refl s z
  have hsoaks : (s.zone z).heat.state ≠ .overtemp → s.Orderly (s.enterSoaking z) := fun hn => by
    have hlawful := placed_lawful (s.zone z).heat (s.zone z).cfg none
    exact (k.soaking.places (.placed ht _ none) fun e => by simp [e, ThermalState.lawful] at hlawful).orderly hn
  have hsides : ∀ side, (s.zone z).heat.state ≠ .overtemp → s.Orderly (s.enterSide z side) := fun side hn =>
    ((k.side side).places (.towards ht side) (by cases side <;> exact nofun)).orderly hn
  unfold State.bandSample
  dsimp only
  split
  · rename_i hstate _
    exact hsoaks (by rw [hstate]; exact nofun)
  · rename_i hstate _
    exact hsoaks (by rw [hstate]; exact nofun)
  · rename_i hstate _
    exact hsides _ (by rw [hstate]; exact nofun)
  · rename_i hstate _
    exact hsides _ (by rw [hstate]; exact nofun)
  · rename_i hstate _
    exact hsides _ (by rw [hstate]; exact nofun)
  · rename_i hstate _
    exact excursion_orderly hstate ht _
  · rename_i hstate _
    exact (k.stable.places (.settled ht) nofun).orderly (by rw [hstate]; exact nofun)
  · rename_i hstate _
    exact (k.upd _).orderly (fun hc => hc.sided hstate _) .rfl
  · rename_i hstate
    exact (k.place ht g (some t)).orderly (by rw [hstate]; exact nofun)
  all_goals exact .refl s

theorem leaveOvertemp_orderly (t : Int) : s.Orderly (s.leaveOvertemp z t) := by
  have k := (State.Warmed.refl s z).works (reportZone_works s z .overtempClear)
  unfold State.leaveOvertemp
  dsimp only
  split
  · rename_i g hg
    exact (k.place (by rw [← k.heat, hg]; rfl) g (some t)).evaluated
  · exact ((k.upd fun _ => {}).places .reset nofun).evaluated

theorem heatState_orderly (s : State) (z : ZoneId) (t : Int) : s.Orderly (s.heatState z t) := by
  rw [heatState_eq]
  split
  · exact .refl s
  · split
    · exact ite_orderly fun _ => leaveOvertemp_orderly t
    · rename_i hover
      have hnoticed : (if (s.zone z).heat.state = .excursion then s.noticeZone .thermal z else s).works = s.works :=
        ite_works (noticeZone_works ..)
      generalize (if (s.zone z).heat.state = .excursion then s.noticeZone .thermal z else s) = u at hnoticed ⊢
      have hheat := works_heat hnoticed z
      refine (orderly_of_works hnoticed).trans ?_
      unfold State.sampleHeated
      (repeat' split)
      · exact (State.Warmed.refl u z).overtemp.orderly (by rw [hheat]; exact hover)
      · exact bandSample_orderly (by rw [hheat]; assumption) t
      · exact .refl u

theorem temperatureSample_orderly (s : State) (z : ZoneId) (t : Int) : s.Orderly (s.temperatureSample z t) :=
  (heatState_orderly ..).trans (applyLaw_orderly ..)

theorem heatStale_orderly (s : State) (z : ZoneId) : s.Orderly (s.heatStale z) := by
  unfold State.heatStale
  dsimp only
  split
  · exact .refl s
  · refine State.Orderly.then (ite_orderly fun hlawful => ?_) (updValues_works _ z _)
    exact (State.Warmed.refl s z).blind.orderly (fun hc => .blinded (hc.targeted (.inl hlawful)))
      ⟨nofun, fun e => by simp [e, ThermalState.lawful] at hlawful⟩

theorem soakExpired_orderly (s : State) (z : ZoneId) : s.Orderly (s.soakExpired z) := by
  refine ite_orderly fun ⟨hsoaking, _⟩ => ?_
  exact (State.Warmed.refl s z).stable.orderly (fun hc => .settled (hc.targeted (.inl (by rw [hsoaking]; rfl))))
    ⟨nofun, fun e => by simp [hsoaking] at e⟩

theorem graceExpired_orderly (s : State) (z : ZoneId) : s.Orderly (s.graceExpired z) := by
  refine ite_orderly fun ⟨hexcursion, _⟩ => ?_
  refine ((State.Warmed.refl s z).side _).orderly (fun hc => .towards (hc.targeted (.inl (by rw [hexcursion]; rfl))) _) ?_
  generalize (s.zone z).heat.side.getD .low = side
  refine ⟨fun e => ?_, fun e => by simp [hexcursion] at e⟩
  cases side <;> cases e

end Samples

/-! ### The rails and the search -/

/-- A move of the rails that keeps their records consistent. -/
theorem State.Railed.orderly {s t : State} (h : s.Railed t) (hr : s.RailsConsistent → t.RailsConsistent) : s.Orderly t :=
  ⟨h.switches, h.output, h.gates, hr, fun hs z => by rw [h.heat]; exact hs z⟩

variable (s : State)

theorem trip_orderly (z : ZoneId) (c : TripCause) : s.Orderly (s.trip z c) :=
  (trip_railed s z c).orderly fun hs => trip_rails hs z c

theorem clearTrip_orderly (z : ZoneId) : s.Orderly (s.clearTrip z) :=
  (clearTrip_railed s z).orderly fun hs => clearTrip_rails hs z

theorem goalChange_orderly (z : ZoneId) : s.Orderly (s.goalChange z) :=
  (goalChange_railed s z).orderly fun hs => goalChange_rails hs z

theorem setGoals_orderly (goals : ZoneId → Option Nat) : s.Orderly (s.setGoals goals) := by
  have hzone : ∀ z, (s.setGoals goals).zone z = { s.zone z with rail := { (s.zone z).rail with goal := goals z } } :=
    fun z => State.setZones_zone ..
  refine ⟨fun hs i => switch_stands (s := s) rfl (by rw [hzone]; exact ⟨rfl, rfl⟩) (hs i), fun hs => ?_, id,
    fun hs => setGoals_rails hs goals, fun hs z => by rw [hzone]; exact hs z⟩
  have hsource : (s.setGoals goals).anyHaltSource = s.anyHaltSource := by
    simp only [State.anyHaltSource, hzone]; rfl
  rw [State.OutputFollows, hsource]
  exact hs

theorem formGoals_orderly (goals : ZoneId → Option Nat) : s.Orderly (s.formGoals goals) :=
  (setGoals_orderly ..).trans (forEachFreely_orderly _ (fun z t => goalChange_orderly t z) _)

theorem handOver_orderly (z : ZoneId) (q : Quantity) (x : Int) : s.Orderly (s.handOver z q x) := by
  cases q with
  | voltage => exact (voltageSample_railed ..).orderly fun hs => voltageSample_rails hs z _
  | current => exact (currentSample_railed ..).orderly fun hs => currentSample_rails hs z _
  | temperature => exact temperatureSample_orderly ..

theorem sampleTaken_orderly (word : BitVec 17) : s.Orderly (s.sampleTaken word) := by
  have hraw : ∀ c : Table 16 Channel, s.Orderly { s with channels := c } := fun _ => orderly_of_works rfl
  unfold State.sampleTaken State.acceptSample
  dsimp only
  (repeat' split)
  · exact hraw _
  · exact ((hraw _).then (updValues_works ..)).trans (handOver_orderly ..)
  · exact orderly_of_works rfl

theorem staleExpired_orderly (z : ZoneId) (q : Quantity) : s.Orderly (s.staleExpired z q) := by
  have hlost : s.Orderly (s.updValues z (·.expire q)) := orderly_of_works (updValues_works ..)
  have hrail := (railStale_railed (s.updValues z (·.expire q)) z).orderly fun hs => railStale_rails hs z
  unfold State.staleExpired
  refine ite_orderly fun _ => hlost.trans ?_
  cases q with
  | voltage => exact hrail
  | current => exact hrail
  | temperature => exact heatStale_orderly ..

end Sys2Proof.Machine
end

section
namespace Sys2Proof.Machine

variable (s : State)

/-! ### Step control (10_step_control.md) -/

theorem promote_orderly (event : StepEvent) : s.Orderly (s.promote event) := by
  have hbegun : s.Orderly ((s.updStep StepCtl.promoted).reportStep event) :=
    orderly_of_works ((reportStep_works ..).trans (updStep_works ..))
  exact ((hbegun.trans (formGoals_orderly ..)).trans (formTargets_orderly ..)).then (enginePromoted_works ..)

theorem forceDuties_orderly : s.Orderly s.forceDuties := by
  have hzone : ∀ z, s.forceDuties.zone z = { s.zone z with heat := { (s.zone z).heat with duty := 0 } } := fun z =>
    State.setZones_zone ..
  refine ⟨fun hs i => switch_stands (s := s) rfl (by rw [hzone]; exact ⟨rfl, rfl⟩) (hs i), fun hs => ?_, id,
    fun hs z => railConsistent_of_eq (by rw [hzone]) (by rw [hzone]) (hs z), fun hs z => by rw [hzone]; exact (hs z).idle⟩
  have hsource : s.forceDuties.anyHaltSource = s.anyHaltSource := by
    simp only [State.anyHaltSource, hzone]; rfl
  rw [State.OutputFollows, hsource]
  exact hs

theorem enterHalted_orderly : s.Orderly s.enterHalted := by
  unfold State.enterHalted
  split
  · exact .refl s
  · have hbegun : s.Orderly ((s.updStep fun c => { c with state := .halted }).reportStep .halted) :=
      orderly_of_works ((reportStep_works ..).trans (updStep_works ..))
    have htripped := hbegun.trans (forEach_orderly allZones (fun z t => trip_orderly t z .halt) _)
    exact (htripped.trans (forceDuties_orderly _)).then ((updStep_works ..).trans (stopEngineAtOnce_works _))

theorem readLine_orderly : s.Orderly s.readLine := ite_orderly fun _ => enterHalted_orderly s

/-- The rest of the line is no input of the own output (R166). -/
theorem updHalt_works (f : Halt → Halt) (h : (f s.halt).own = s.halt.own) : (s.updHalt f).works = s.works :=
  works_eq (fun _ => rfl) (fun _ => rfl) (fun _ => rfl) ⟨h, rfl⟩

theorem lineAsserted_orderly (b : Bool) : s.Orderly (s.lineAsserted b) :=
  (orderly_of_works (updHalt_works s _ rfl)).trans (ite_orderly fun _ => enterHalted_orderly _)

theorem normalEnd_orderly : s.Orderly s.normalEnd := by
  unfold State.normalEnd
  split
  · exact promote_orderly ..
  · exact orderly_of_works ((reportStep_works ..).trans (updStep_works ..))

theorem stepTick_orderly : s.Orderly s.stepTick :=
  ite_orderly fun _ => (orderly_of_works (updStep_works ..)).trans (ite_orderly fun _ => normalEnd_orderly _)

theorem intervalExpired_orderly : s.Orderly s.intervalExpired := by
  have hn : s.Orderly { s with runSeconds := satSucc Config.longTop s.runSeconds } := orderly_of_works rfl
  exact (hn.trans (intervalWork_orderly _)).trans (stepTick_orderly _)

theorem settleStage_orderly : s.Orderly s.settleStage.state := by
  have hsettled : s.Orderly (s.updStep fun c => { c with stagedState := .settled }) := orderly_of_works (updStep_works ..)
  unfold State.settleStage
  dsimp only
  (repeat' split)
  · exact .refl s
  · exact hsettled.trans (promote_orderly ..)
  · exact hsettled

theorem unsettleStage_orderly : s.Orderly s.unsettleStage.state := by
  unfold State.unsettleStage
  split
  · exact orderly_of_works (updStep_works ..)
  · exact .refl s

theorem startStep_orderly : s.Orderly s.startStep.state := by
  unfold State.startStep
  split
  · exact .refl s
  · exact .refl s
  · exact .refl s
  all_goals
    (repeat' split)
    · exact .refl s
    · exact promote_orderly ..
    · exact .refl s

theorem enterStopping_orderly : s.Orderly s.enterStopping := by
  have hbegun : s.Orderly ((s.updStep fun c => { c with state := .stopping, cur := c.cur.untargeted }).reportStep .stopping) :=
    orderly_of_works ((reportStep_works ..).trans (updStep_works ..))
  exact ((hbegun.trans (formGoals_orderly ..)).trans (formTargets_orderly ..)).then
    ((testStopping_works _).trans ((updStep_works ..).trans (stopEngineAtOnce_works _)))

theorem stopStep_orderly : s.Orderly s.stopStep.state := by
  unfold State.stopStep
  split
  · exact .refl s
  · exact .refl s
  · exact .refl s
  all_goals exact enterStopping_orderly s

/-! #### STEP_CLEAR (R168) -/

theorem dropSources_zone (z : ZoneId) : s.dropSources.zone z =
    if (s.zone z).overcurrent then { s.zone z with rail := { (s.zone z).rail with haltSource := false } } else s.zone z :=
  State.setZones_zone s (fun z =>
    if (s.zone z).overcurrent then { s.zone z with rail := { (s.zone z).rail with haltSource := false } } else s.zone z) z

theorem dropSources_orderly : s.Orderly s.dropSources := by
  have hzone : ∀ z, ∃ b, s.dropSources.zone z = { s.zone z with rail := { (s.zone z).rail with haltSource := b } } ∧
      (b = true → (s.zone z).rail.haltSource = true) := fun z => by
    rw [dropSources_zone]
    split
    · exact ⟨false, rfl, nofun⟩
    · exact ⟨_, rfl, id⟩
  refine ⟨fun hs i => switch_stands (s := s) rfl ?_ (hs i), fun _ => evaluateOutput_follows _, id, fun hs z => ?_, fun hs z => ?_⟩
  · obtain ⟨_, hz, -⟩ := hzone (s.socket i).zone
    rw [hz]; exact ⟨rfl, rfl⟩
  · obtain ⟨_, hz, hb⟩ := hzone z
    obtain ⟨hcause, hsource, hrest⟩ := hs z
    rw [hz]
    exact ⟨hcause, fun e => hsource (hb e), hrest⟩
  · obtain ⟨_, hz, -⟩ := hzone z
    rw [hz]; exact hs z

/-- A zone whose source has been dropped. -/
def Zone.Released (v : Zone) : Prop := v.rail.state = .tripped ∧ v.rail.haltSource = false

theorem recauseHalt_released (z : ZoneId) {w : ZoneId} (h : (s.zone w).Released) : ((s.recauseHalt z).zone w).Released := by
  have hzone : (s.recauseHalt z).zone w = (s.updRail z fun r => { r with tripCause := some .halt }).zone w := report_zone ..
  rw [hzone, State.updRail, State.updZone_zone]
  split
  · subst_vars; exact h
  · exact h

theorem recauseHalt_orderly {s : State} {z : ZoneId} (h : (s.zone z).Released) : s.Orderly (s.recauseHalt z) := by
  have hcaused : s.Railed (s.updRail z fun r => { r with tripCause := some .halt }) := updRail_railed s z _ ⟨rfl, rfl, rfl⟩
  refine (hcaused.then (reportZone_works ..)).orderly fun hs => ?_
  have hrerailed := ((State.Rerailed.refl s z).upd fun r => { r with tripCause := some .halt }).works
    (reportZone_works _ z (.railTripped .halt))
  refine hrerailed.consistent ?_ hs
  obtain ⟨hstate, hsource⟩ := h
  obtain ⟨-, -, hrest⟩ := hs z
  exact ⟨(decide_eq_true hstate).symm, fun e => (nomatch hsource.symm.trans e), hrest⟩

theorem leaveHalted_orderly : s.Orderly s.leaveHalted :=
  ((((orderly_of_works (updStep_works ..)).trans (formGoals_orderly ..)).trans (formTargets_orderly ..)).trans
    (forEach_orderly allZones (fun z t => clearTrip_orderly t z) _)).then (reportStep_works ..)

theorem clearStep_orderly : s.Orderly s.clearStep.state := by
  have hdrop := dropSources_orderly s
  have hreleased : ∀ z ∈ allZones.filter fun z => (s.zone z).overcurrent, (s.dropSources.zone z).Released := fun z hz => by
    have hover := (List.mem_filter.mp hz).2
    rw [dropSources_zone, if_pos hover]
    exact ⟨of_decide_eq_true (Bool.and_eq_true_iff.mp hover).1, rfl⟩
  unfold State.clearStep
  dsimp only
  generalize s.dropSources = t at hdrop hreleased ⊢
  (repeat' split)
  · exact .refl s
  · refine (forEach_keeps (P := fun u => s.Orderly u ∧ ∀ z ∈ allZones.filter fun z => (s.zone z).overcurrent, (u.zone z).Released)
      (fun z hz u ⟨hu, hr⟩ => ⟨hu.trans (recauseHalt_orderly (hr z hz)), fun w hw => recauseHalt_released u z (hr w hw)⟩)
      ⟨hdrop, hreleased⟩).1
  · rw [accept_state]
    exact hdrop.trans (leaveHalted_orderly t)

/-! ### RUN_RESET and power-on -/

/-- RUN_RESET leaves no hand-over to follow: every rail is OFF, every switch open and no gate runs (R90, R103, R120, R142). -/
theorem restarted_orderly : s.Orderly s.restarted where
  switches _ i := by
    simp only [State.switchRule, restarted_socket, restarted_zone]
    simp [RailState.powered]
  output _ := by
    have hsource : s.restarted.anyHaltSource = false := by
      simp only [State.anyHaltSource, restarted_zone, List.any_eq_false]
      exact fun _ _ => nofun
    rw [State.OutputFollows, hsource, restarted_halt, Bool.and_false]
  gates hs := by
    rw [gatesRun_iff] at hs ⊢
    intro i
    rw [restarted_lane, restarted_lane, restarted_socket]
    exact ⟨⟨(hs i).1.1, rfl⟩, by simp, fun _ => rfl, nofun⟩
  rails _ z := by rw [restarted_zone]; exact fresh_railConsistent
  heat _ z := by rw [restarted_zone]; exact .reset

theorem resetRun_orderly : s.Orderly s.resetRun.state := by
  rw [resetRun_eq]
  exact (restarted_orderly s).trans (readLine_orderly _)

theorem powerOn_orderly (addr : BitVec 6) (o d u : Bool) : s.Orderly (s.powerOn addr o d u) := by
  obtain ⟨-, -, hswitches, houtput, -, -, hrails, hheat, -, -, -, -, -, hgates, -⟩ := resetStateIsSound
  have hreset : State.reset.Orderly (s.powerOn addr o d u) := orderly_of_works rfl
  exact ⟨fun _ => hreset.switches hswitches, fun _ => hreset.output houtput, fun _ => hreset.gates hgates,
    fun _ => hreset.rails hrails, fun _ => hreset.heat hheat⟩

/-! ### Tables (R182, R183) -/

/-- A loop in a free order reaches what one of its turns reaches and the others keep. -/
theorem forEachFreely_reaches {α : Type} {P : State → Prop} {xs : List α} {f : α → State → State} {x : α} (hx : x ∈ xs)
    (hreach : ∀ s, P (f x s)) (hkeep : ∀ y s, P s → P (f y s)) (s : State) : P (forEachFreely xs f s) := by
  obtain ⟨before, after, e⟩ := List.append_of_mem ((freely_perm xs s).mem_iff.mpr hx)
  unfold forEachFreely
  dsimp only
  rw [e, forEach, List.foldl_append, List.foldl_cons]
  exact forEach_keeps (f := f) (fun y _ t => hkeep y t) (hreach _)

theorem haltTask_orderly (task : HaltTask) : s.Orderly (task.run s) := by
  cases task with
  | output => exact (evaluateOutput_railed s).orderly fun hs => hs
  | input => exact readLine_orderly s

/-- The enable of the own output stands unless its field is written (R169). -/
theorem settings_haltOut {w : RowWrite} (h : w.selects 10 = false) (t : Settings) :
    (w.apply Settings.put t).haltOut = t.haltOut := by
  refine apply_keeps (P := fun u : Settings => u.haltOut = t.haltOut) (fun nv hnv u hu => ?_) rfl
  have hne : nv.1 ≠ 10 := not_selects h nv hnv
  rw [← hu]
  unfold Settings.put
  split <;> simp_all

theorem writeSettings_orderly (w : RowWrite) : s.Orderly (s.writeSettings w).state := by
  have htasks := fun tasks t => forEachFreely_orderly tasks (fun task t => haltTask_orderly t task) t
  unfold State.writeSettings
  dsimp only
  cases h10 : w.selects 10 with
  | false =>
    have hwritten : ({ s with settings := w.apply Settings.put s.settings } : State).works = s.works :=
      works_eq (fun _ => rfl) (fun _ => rfl) (fun _ => rfl) ⟨rfl, settings_haltOut h10 _⟩
    exact (orderly_of_works hwritten).trans (htasks ..)
  | true =>
    obtain ⟨hswitches, -, hgates, hrails, hheat⟩ :=
      htasks ([HaltTask.output] ++ if w.selects 9 then [HaltTask.input] else [])
        { s with settings := w.apply Settings.put s.settings }
    exact ⟨fun hs => hswitches hs, fun _ => forEachFreely_reaches (P := State.OutputFollows) (x := HaltTask.output) (by simp)
      evaluateOutput_follows (fun task t => (haltTask_orderly t task).output) _, fun hs => hgates hs, fun hs => hrails hs,
      fun hs => hheat hs⟩

/-! #### SOCKET -/

/-- The socket's switch is as the rule gives it (R87). -/
def State.Follows (s : State) (i : SocketId) : Prop := (s.socket i).switch = s.switchRule i

theorem follows_of_works {s t : State} (h : t.works = s.works) {i : SocketId} (hs : s.Follows i) : t.Follows i := by
  obtain ⟨-, -, -, hswitch, -⟩ := works_socket h i
  rw [State.Follows, hswitch, switchRule_of_works h]
  exact hs

theorem State.Beside.follows {s t : State} {i : SocketId} (h : s.Beside i t) (hs : s.Follows i) : t.Follows i := by
  rw [State.Follows, h.switchRule, h.socket]; exact hs

theorem evaluateSwitch_follow (i : SocketId) : (s.evaluateSwitch i).Follows i := by
  have hrule : (s.evaluateSwitch i).switchRule i = s.switchRule i := evaluateSwitches_rule ..
  rw [State.Follows, hrule, evaluateSwitch_socket, if_pos rfl, switched_switch]

theorem testCompletion_follow {s : State} {i : SocketId} (h : s.Follows i) : (s.testCompletion i).Follows i := by
  unfold State.testCompletion State.complete
  split
  · refine follows_of_works (changeState_works ..) ?_
    cases (if (s.policyOf i).stopOnComplete then some Hold.done else none) with
    | none => exact h
    | some h => exact evaluateSwitch_follow ..
  · exact h

theorem applyPopulated_works (i : SocketId) : (s.applyPopulated i).works = s.works := by
  unfold State.applyPopulated
  dsimp only
  (repeat' split) <;> simp

/-- A written row evaluates its switch where it moves an input of the rule (R87). -/
theorem socketWritten_follow {s : State} {row : SocketId × RowWrite}
    (h : (row.2.selects 0 || row.2.selects 1) = false → s.Follows row.1) : (State.socketWritten row s).Follows row.1 := by
  have hpopulated : (if row.2.selects 0 then s.applyPopulated row.1 else s).works = s.works := ite_works (applyPopulated_works ..)
  unfold State.socketWritten
  dsimp only
  generalize (if row.2.selects 0 then s.applyPopulated row.1 else s) = t at hpopulated ⊢
  have hevaluated : (if row.2.selects 0 || row.2.selects 1 then t.evaluateSwitch row.1 else t).Follows row.1 := by
    split
    · exact evaluateSwitch_follow ..
    · exact follows_of_works hpopulated (h (Bool.eq_false_iff.mpr ‹_›))
  split
  · exact testCompletion_follow hevaluated
  · exact hevaluated

theorem socketWritten_orderly (row : SocketId × RowWrite) : s.Orderly (State.socketWritten row s) :=
  ((ite_orderly fun _ => orderly_of_works (applyPopulated_works ..)).trans
    (ite_orderly fun _ => evaluateSwitches_orderly ..)).trans (ite_orderly fun _ => testCompletion_orderly ..)

/-- A row that selects neither populated nor zone moves no input of the rule. -/
theorem socketPut_works {w : RowWrite} (h : (w.selects 0 || w.selects 1) = false) (k : Socket) :
    (w.apply Socket.put k).works = k.works := by
  obtain ⟨h0, h1⟩ := Bool.or_eq_false_iff.mp h
  refine apply_keeps (P := fun u : Socket => u.works = k.works) (fun nv hnv u hu => ?_) rfl
  have hne0 : nv.1 ≠ 0 := not_selects h0 nv hnv
  have hne1 : nv.1 ≠ 1 := not_selects h1 nv hnv
  rw [← hu]
  unfold Socket.put
  split <;> simp_all [Socket.works]

theorem rowsWritten_gates {s : State} {rows : List (SocketId × RowWrite)} (hd : (rows.map Prod.fst).Nodup) (hs : s.GatesRun) :
    (s.rowsWritten rows).GatesRun := by
  obtain ⟨hout, hin⟩ := rowsWritten_socket hd s
  rw [gatesRun_iff] at hs ⊢
  intro i
  refine ⟨(hs i).1, ?_⟩
  by_cases hi : i ∈ rows.map Prod.fst
  · obtain ⟨row, hrow, rfl⟩ := List.mem_map.mp hi
    have hput := socketPut_cases row.2 (s.socket row.1)
    rw [hin row hrow]
    exact (hs row.1).2.of_eq (by rw [hput]) (by rw [hput]) rfl
  · rw [hout i hi]; exact (hs i).2

theorem writeSockets_orderly {rows : List (SocketId × RowWrite)} (hd : (rows.map Prod.fst).Nodup) :
    s.Orderly (s.writeSockets rows).state := by
  rw [writeSockets_eq]
  split
  · exact .refl s
  · obtain ⟨-, houtput, hgates, hrails, hheat⟩ :=
      forEachFreely_orderly rows (fun row t => socketWritten_orderly t row) (s.rowsWritten rows)
    have hloops := forEachFreely_loops Prod.fst socketWritten_local hd (s.rowsWritten rows)
    obtain ⟨hout, hin⟩ := rowsWritten_socket hd s
    have hstands : ∀ i, ((s.rowsWritten rows).socket i).works = (s.socket i).works → s.Follows i → (s.rowsWritten rows).Follows i :=
      fun i hk h => switch_stands hk ⟨rfl, rfl⟩ h
    refine ⟨fun hs i => ?_, fun hs => houtput hs, fun hs => hgates (rowsWritten_gates hd hs), fun hs => hrails hs,
      fun hs => hheat hs⟩
    by_cases hi : i ∈ rows.map Prod.fst
    · obtain ⟨row, hrow, rfl⟩ := List.mem_map.mp hi
      obtain ⟨t, ht, hu⟩ := hloops.turns row hrow
      exact hu.follows (socketWritten_follow fun h =>
        ht.follows (hstands row.1 (by rw [hin row hrow]; exact socketPut_works h _) (hs row.1)))
    · exact (hloops.others i hi).follows (hstands i (by rw [hout i hi]) (hs i))

/-! #### ZONE, POLICY and SENSE -/

theorem zonesWritten_works (rows : List (ZoneId × RowWrite)) : (s.zonesWritten rows).works = s.works :=
  works_eq (fun z => writeRows_stands (f := fun w (v : Zone) => { v with cfg := w.apply ZoneCfg.put v.cfg }) Zone.works
    (fun _ _ => rfl) rows s.zones z) (fun _ => rfl) (fun _ => rfl) ⟨rfl, rfl⟩

theorem zoneTask_orderly (task : ZoneTask) : s.Orderly (task.run s) := by
  cases task with
  | goal z => exact goalChange_orderly s z
  | target z new => exact targetChange_orderly s z new

theorem writeZones_orderly (rows : List (ZoneId × RowWrite)) : s.Orderly (s.writeZones rows).state := by
  have hw := zonesWritten_works s rows
  unfold State.writeZones
  dsimp only
  rw [← State.zonesWritten]
  generalize s.zonesWritten rows = t at hw ⊢
  (repeat' split)
  · exact .refl s
  · exact .refl s
  · exact ((orderly_of_works hw).trans (setGoals_orderly ..)).trans (forEachFreely_orderly _ (fun task u => zoneTask_orderly u task) _)

theorem writePolicies_orderly (rows : List (Fin 4 × RowWrite)) : s.Orderly (s.writePolicies rows).state := by
  unfold State.writePolicies
  split
  · exact .refl s
  · exact orderly_of_works rfl

/-- The mode stands unless its field is written (R140). -/
theorem sensePut_mode {w : RowWrite} (h : w.selects 0 = false) (r : SenseRow) : (w.apply SenseRow.put r).mode = r.mode := by
  refine apply_keeps (P := fun u : SenseRow => u.mode = r.mode) (fun nv hnv u hu => ?_) rfl
  have hne : nv.1 ≠ 0 := not_selects h nv hnv
  rw [← hu]
  unfold SenseRow.put
  split <;> simp_all

/-- The rows of SENSE as written, before the lanes whose mode is written are reset. -/
def State.senseRows (s : State) (rows : List (LaneId × RowWrite)) : State :=
  { s with lanes := writeRows rows (fun w l => { l with row := w.apply SenseRow.put l.row }) s.lanes }

/-- A lane that is not reset keeps its mode and gate, and no primary lane is put in FREQ mode. -/
theorem senseRows_lane {s : State} {rows : List (LaneId × RowWrite)} (hd : (rows.map Prod.fst).Nodup)
    (hfreq : ∀ row ∈ rows, s.freqOnPrimary row.1 row.2 = false) (n : LaneId) :
    ((s.senseRows rows).lane n).gate = (s.lane n).gate ∧
      (senseReset rows n = false → ((s.senseRows rows).lane n).row.mode = (s.lane n).row.mode) ∧
        (n.val % 2 = 0 → (s.lane n).row.mode ≠ .freq → ((s.senseRows rows).lane n).row.mode ≠ .freq) := by
  obtain ⟨hout, hin⟩ := writeRows_get (f := fun w (l : Lane) => { l with row := w.apply SenseRow.put l.row }) hd s.lanes
  by_cases hn : n ∈ rows.map Prod.fst
  · obtain ⟨row, hrow, rfl⟩ := List.mem_map.mp hn
    have hlane : (s.senseRows rows).lane row.1 = { s.lane row.1 with row := row.2.apply SenseRow.put (s.lane row.1).row } :=
      hin row hrow
    rw [hlane]
    refine ⟨rfl, fun hreset => sensePut_mode ?_ _, fun heven _ => ?_⟩
    · have hnot := List.any_eq_false.mp hreset row hrow
      simpa using hnot
    · simpa [State.freqOnPrimary, heven] using hfreq row hrow
  · have hlane : (s.senseRows rows).lane n = s.lane n := hout n hn
    rw [hlane]
    exact ⟨rfl, fun _ => rfl, fun _ h => h⟩

theorem senseWritten_gates {s : State} {rows : List (LaneId × RowWrite)} (hd : (rows.map Prod.fst).Nodup)
    (hfreq : ∀ row ∈ rows, s.freqOnPrimary row.1 row.2 = false) (hs : s.GatesRun) : (s.senseWritten rows).GatesRun := by
  have e : s.senseWritten rows = (s.senseRows rows).resetLanes (senseReset rows) := rfl
  rw [gatesRun_iff] at hs ⊢
  intro i
  obtain ⟨⟨hmode, hgate⟩, hruns⟩ := hs i
  have hp : (primaryLane i).val % 2 = 0 := by simp only [primaryLane]; omega
  have hq : (secondaryLane i).val % 2 = 1 := by simp only [secondaryLane]; omega
  obtain ⟨hpgate, -, hpmode⟩ := senseRows_lane hd hfreq (primaryLane i)
  obtain ⟨hqgate, hqmode, -⟩ := senseRows_lane hd hfreq (secondaryLane i)
  have hplain := hpmode hp hmode
  rw [e, resetLanes_lane, resetLanes_lane, resetLanes_socket, laneSocket_secondary]
  refine ⟨?_, ?_⟩
  · split
    · exact ⟨hplain, by simp [Lane.resetState, hp]⟩
    · exact ⟨hplain, hpgate.trans hgate⟩
  · split
    · have hreset := Socket.GateRuns.reset ((s.senseRows rows).socket i) ((s.senseRows rows).lane (secondaryLane i))
      simpa [hq] using hreset
    · exact hruns.of_eq rfl rfl (Prod.ext (hqmode (Bool.eq_false_iff.mpr ‹_›)) hqgate)

theorem senseWritten_orderly {rows : List (LaneId × RowWrite)} (hd : (rows.map Prod.fst).Nodup)
    (hfreq : ∀ row ∈ rows, s.freqOnPrimary row.1 row.2 = false) : s.Orderly (s.senseWritten rows) := by
  have hchecked : s.CheckedTo (s.senseWritten rows) := rfl
  exact hchecked.orderly (fun hs => (resetLanes_orderly (s.senseRows rows) (senseReset rows)).switches hs)
    (senseWritten_gates hd hfreq)

theorem writeSense_orderly {rows : List (LaneId × RowWrite)} (hd : (rows.map Prod.fst).Nodup) :
    s.Orderly (s.writeSense rows).state := by
  rw [writeSense_eq]
  split
  · exact .refl s
  · rename_i hfreq
    have hnone : ∀ row ∈ rows, s.freqOnPrimary row.1 row.2 = false := by simpa using hfreq
    exact (senseWritten_orderly s hd hnone).then (forEachFreely_works _ fun i t => reviewReasons_works t i)

theorem writeOrder_orderly (zs : List ZoneId) : s.Orderly (s.writeOrder zs) :=
  (writeOrder_railed s zs).orderly fun hs => writeOrder_rails hs zs

theorem tableWrite_orderly (table first count : Byte) (mask : BitVec 64) (values : List Byte) :
    s.Orderly (State.tableWrite table first count mask values s).state := by
  unfold State.tableWrite
  split
  · exact .refl s
  · rename_i rows hcheck
    obtain ⟨hnum, hin⟩ := checkWrite_rows hcheck
    unfold State.writeTable
    split <;> rename_i htable
    · exact writeSettings_orderly ..
    · rw [htable] at hin
      exact writeSockets_orderly s (rowsOf_nodup hnum hin)
    · exact writeZones_orderly ..
    · exact writePolicies_orderly ..
    · exact orderly_of_works rfl
    · exact orderly_of_works rfl
    · exact orderly_of_works (writeDrive_works ..)
    · rw [htable] at hin
      exact writeSense_orderly s (rowsOf_nodup hnum hin)
    · exact orderly_of_works rfl
    · exact writeOrder_orderly ..
    · exact orderly_of_works rfl

/-! ### The other management commands -/

theorem tableRead_orderly (table first count : Byte) (mask : BitVec 64) :
    s.Orderly (State.tableRead table first count mask s).state := by
  rw [tableRead_state]; exact .refl s

theorem loopLoad_orderly (first count flags : Byte) (vectors : List Byte) :
    s.Orderly (State.loopLoad first count flags vectors s).state := by
  unfold State.loopLoad
  dsimp only
  (repeat' split)
  · exact .refl s
  · exact .refl s
  · exact .refl s
  · exact .refl s
  · exact .refl s
  · exact orderly_of_works (loadLoop_works ..)

theorem clearZones_orderly (set : Byte) : s.Orderly (State.clearZones set s).state := by
  unfold State.clearZones
  (repeat' split)
  · exact .refl s
  · exact .refl s
  · exact .refl s
  · exact forEach_orderly _ (fun z t => clearTrip_orderly t z) s

theorem takeSnapshot_orderly : s.Orderly s.takeSnapshot.state := by
  unfold State.takeSnapshot
  split
  · exact .refl s
  · exact transfer_orderly s

theorem socketCommand_orderly (set : BitVec 32) (refuses : SocketState → Bool) {act : SocketId → State → State}
    (h : ∀ i (s : State), s.Orderly (act i s)) : s.Orderly (State.socketCommand set refuses act s).state := by
  unfold State.socketCommand
  split
  · exact .refl s
  · exact forEach_orderly _ h s

theorem armSockets_orderly (set : BitVec 32) (options : Byte) : s.Orderly (State.armSockets set options s).state :=
  socketCommand_orderly s set _ fun i t => armSocket_orderly t _ i

theorem releaseSockets_orderly (set : BitVec 32) : s.Orderly (State.releaseSockets set s).state :=
  socketCommand_orderly s set _ fun i t => releaseSocket_orderly t i

theorem holdSockets_orderly (set : BitVec 32) : s.Orderly (State.holdSockets set s).state :=
  socketCommand_orderly s set _ fun i t => placeHold_orderly t i .forced

theorem restoreSockets_orderly (set : BitVec 32) : s.Orderly (State.restoreSockets set s).state :=
  socketCommand_orderly s set _ fun i t => restoreSocket_orderly t i

theorem failSockets_orderly (set : BitVec 32) : s.Orderly (State.failSockets set s).state :=
  socketCommand_orderly s set _ fun i t => finding_orderly t i .forced

theorem bare_orderly {cmd : State → CmdOut} (h : ∀ s : State, s.Orderly (cmd s).state) (args : List Byte) :
    s.Orderly (bare args cmd s).state := by
  unfold bare
  split
  · exact h s
  · exact .refl s

theorem withSockets_orderly {cmd : BitVec 32 → State → CmdOut} (h : ∀ (s : State) set, s.Orderly (cmd set s).state)
    (args : List Byte) : s.Orderly (withSockets args cmd s).state := by
  unfold withSockets
  split
  · exact h s _
  · exact .refl s

/-- Every command by its code (R180). -/
theorem command_orderly (code : Byte) (args : List Byte) : s.Orderly (State.command code args s).state := by
  unfold State.command
  split
  · unfold tableWriteArgs
    (repeat' split)
    · exact .refl s
    · exact tableWrite_orderly ..
    · exact .refl s
  · unfold tableReadArgs
    (repeat' split)
    · exact .refl s
    · exact tableRead_orderly ..
    · exact .refl s
  · unfold loopLoadArgs
    split
    · exact loopLoad_orderly ..
    · exact .refl s
  · exact bare_orderly s settleStage_orderly args
  · exact bare_orderly s unsettleStage_orderly args
  · exact bare_orderly s startStep_orderly args
  · exact bare_orderly s stopStep_orderly args
  · exact bare_orderly s enterHalted_orderly args
  · exact bare_orderly s clearStep_orderly args
  · unfold clearZonesArgs
    split
    · exact clearZones_orderly ..
    · exact .refl s
  · unfold armSocketsArgs
    split
    · exact armSockets_orderly ..
    · exact .refl s
  · exact withSockets_orderly s releaseSockets_orderly args
  · exact withSockets_orderly s holdSockets_orderly args
  · exact withSockets_orderly s restoreSockets_orderly args
  · exact withSockets_orderly s failSockets_orderly args
  · exact bare_orderly s takeSnapshot_orderly args
  · exact bare_orderly s (fun s => .refl s) args
  · exact bare_orderly s resetRun_orderly args
  · exact .refl s

end Sys2Proof.Machine
end

section
namespace Sys2Proof.Machine

variable (s : State)

/-! ### The link (11_the_oven_link.md) -/

theorem answer_orderly {cmd : State → CmdOut} (h : ∀ s : State, s.Orderly (cmd s).state) (src tag code : Byte) :
    s.Orderly (s.answer src tag code cmd) := by
  unfold State.answer
  dsimp only
  split
  · exact orderly_of_works (updLink_works ..)
  · exact (h s).then (updLink_works ..)

theorem deliver_orderly {cmd : State → CmdOut} (h : ∀ s : State, s.Orderly (cmd s).state) (src tag code : Byte) :
    s.Orderly (s.deliver src tag code cmd) :=
  ite_orderly fun _ => (answer_orderly s h ..).then (arbitrate_works _)

theorem deliverFrame_orderly (f : Frame) : s.Orderly (s.deliverFrame f) := by
  have hn : s.Orderly { s with freeIndex := s.freeIndex + 1 } := orderly_of_works rfl
  unfold State.deliverFrame State.deliverVector State.deliverMgmt
  (repeat' split)
  · exact orderly_of_works (takeBlock_works ..)
  · exact orderly_of_works (updLink_works ..)
  · exact .refl s
  · exact hn.trans (answer_orderly _ (fun s => .refl s) ..)
  · exact answer_orderly s (fun s => command_orderly s _ _) ..
  · exact .refl s
  · exact orderly_of_works (updLink_works ..)

@[simp] theorem forwardDown_works (bytes : List Byte) : (s.forwardDown bytes).works = s.works := by
  unfold State.forwardDown
  (repeat' split) <;> rfl

theorem upFrame_orderly (bytes : List Byte) : s.Orderly (s.upFrame bytes) := by
  unfold State.upFrame State.route
  (repeat' split)
  · exact (orderly_of_works (forwardDown_works ..)).trans (deliverFrame_orderly ..)
  · exact deliverFrame_orderly ..
  · exact orderly_of_works (forwardDown_works ..)
  · exact orderly_of_works (updLink_works ..)

@[simp] theorem downFrame_works (bytes : List Byte) : (s.downFrame bytes).works = s.works := by
  unfold State.downFrame
  (repeat' split) <;> rfl

@[simp] theorem downPartner_works (present : Bool) : (s.downPartner present).works = s.works := by
  unfold State.downPartner
  split <;> rfl

@[simp] theorem upReceiver_works (present : Bool) : (s.upReceiver present).works = s.works := by
  unfold State.upReceiver
  split <;> rfl

/-! ### Every command and every step -/

theorem exec_orderly {i : Instr} {s t : State} (h : exec i s = .next t) : s.Orderly t := by
  have hn : ∀ {u : State}, s.Orderly u → Host.Outcome.next (ρ := Refusal) (φ := Fault) u = .next t → s.Orderly t :=
    fun hu h => Host.Outcome.next.inj h ▸ hu
  have ha : ∀ {u : State}, s.Orderly u → Host.Outcome.next (ρ := Refusal) (φ := Fault) u.arbitrate = .next t → s.Orderly t :=
    fun hu h => hn (hu.then (arbitrate_works _)) h
  have hd : ∀ {src tag code : Byte} {cmd : State → CmdOut}, (∀ s : State, s.Orderly (cmd s).state) →
      Host.Outcome.next (ρ := Refusal) (φ := Fault) (s.deliver src tag code cmd) = .next t → s.Orderly t :=
    fun hc h => hn (deliver_orderly s hc ..) h
  cases i with
  | powerOnReset addr othersPull downPartner upReceiver => exact ha ((powerOn_orderly s ..).trans (readLine_orderly _)) h
  | upFrameTaken bytes => exact ha (upFrame_orderly s bytes) h
  | downFrameTaken bytes => exact ha (orderly_of_works (downFrame_works s bytes)) h
  | downTransmitEnd => exact hn (orderly_of_works (updLink_works s _)) h
  | upTransmitEnd => exact ha (orderly_of_works (updLink_works s _)) h
  | downPartnerChange present => exact hn (orderly_of_works (downPartner_works s present)) h
  | upReceiverChange present => exact ha (orderly_of_works (upReceiver_works s present)) h
  | tblWrite src tag table first count mask values => exact hd (fun s => tableWrite_orderly s _ _ _ _ _) h
  | socketTableWrite src tag first count mask values => exact hd (fun s => tableWrite_orderly s _ _ _ _ _) h
  | zoneTableWrite src tag first count mask values => exact hd (fun s => tableWrite_orderly s _ _ _ _ _) h
  | orderWrite src tag first count mask values => exact hd (fun s => tableWrite_orderly s _ _ _ _ _) h
  | stepStageWrite src tag first count mask values => exact hd (fun s => tableWrite_orderly s _ _ _ _ _) h
  | senseModeWrite src tag first count mask values => exact hd (fun s => tableWrite_orderly s _ _ _ _ _) h
  | settingsWrite src tag first count mask values => exact hd (fun s => tableWrite_orderly s _ _ _ _ _) h
  | tblRead src tag table first count mask => exact hd (fun s => tableRead_orderly s _ _ _ _) h
  | loopLoad src tag first count flags vectors => exact hd (fun s => loopLoad_orderly s _ _ _ _) h
  | stageSettle src tag => exact hd settleStage_orderly h
  | stageUnsettle src tag => exact hd unsettleStage_orderly h
  | stepStart src tag => exact hd startStep_orderly h
  | stepStop src tag => exact hd stopStep_orderly h
  | stepAbort src tag => exact hd enterHalted_orderly h
  | stepClear src tag => exact hd clearStep_orderly h
  | zoneClear src tag zones => exact hd (fun s => clearZones_orderly s zones) h
  | socketArm src tag sockets options => exact hd (fun s => armSockets_orderly s sockets options) h
  | socketRelease src tag sockets => exact hd (fun s => releaseSockets_orderly s sockets) h
  | socketHold src tag sockets => exact hd (fun s => holdSockets_orderly s sockets) h
  | socketRestore src tag sockets => exact hd (fun s => restoreSockets_orderly s sockets) h
  | socketFail src tag sockets => exact hd (fun s => failSockets_orderly s sockets) h
  | snapshot src tag => exact hd takeSnapshot_orderly h
  | statusRead src tag => exact hd (fun s => .refl s) h
  | runReset src tag => exact hd resetRun_orderly h
  | sampleWord word => exact ha (sampleTaken_orderly s word) h
  | staleTimerExpiry zone quantity => exact ha (staleExpired_orderly s zone quantity) h
  | intervalExpiry => exact ha (intervalExpired_orderly s) h
  | rampStepExpiry zone => exact ha ((rampStep_railed s zone).orderly fun hs => rampStep_rails hs zone) h
  | confirmTimerExpiry zone => exact ha ((confirmExpired_railed s zone).orderly fun hs => confirmExpired_rails hs zone) h
  | settleTimerExpiry zone => exact hn ((settleExpired_railed s zone).orderly fun hs => settleExpired_rails hs zone) h
  | soakTimerExpiry zone => exact ha (soakExpired_orderly s zone) h
  | graceTimerExpiry zone => exact hn (graceExpired_orderly s zone) h
  | vectorCycle sense => exact ha (orderly_of_works (vectorCycle_works s sense)) h
  | vectorBoundary => exact ha (orderly_of_works (boundary_works s)) h
  | prbsWindowEnd lane => exact ha (orderly_of_works (endPrbsWindow_works s lane)) h
  | toggleWindowEnd lane => exact ha (orderly_of_works (endToggleWindow_works s lane)) h
  | gateExpiry socket => exact ha (gateExpired_orderly s socket) h
  | haltLineAsserted othersPull => exact ha (lineAsserted_orderly s othersPull) h
  | haltLineReleased => exact hn (orderly_of_works (updHalt_works s _ rfl)) h
  | freqLaneRisingEdge socket => exact hn (risingEdge_orderly s socket) h

theorem step_orderly {s t : State} (h : step s = .next t) : s.Orderly t := by
  unfold step at h
  split at h
  · obtain rfl := Host.Outcome.next.inj h
    exact .refl s
  · have hp : ∀ rest, s.Orderly { s with pending := rest } := fun _ => orderly_of_works rfl
    exact (hp _).trans (exec_orderly h)

/-- Settles O7: every command is an orderly move of switches, own output and gates. -/
theorem stepKeepsDerivedState : Obligations.StepKeepsDerivedState := fun _ _ h =>
  have horderly := step_orderly h
  ⟨horderly.switches, horderly.output, horderly.gates⟩

/-- Settles O9: every command is an orderly move of rail, search and thermal records. -/
theorem stepKeepsZoneRecordsConsistent : Obligations.StepKeepsZoneRecordsConsistent := fun _ _ h =>
  have horderly := step_orderly h
  ⟨horderly.rails, horderly.heat⟩

end Sys2Proof.Machine
end

/-! ## The timers of the rails, the search and the heat controller (05_zone_rails.md to 07_zone_heat.md) -/

section
namespace Sys2Proof.Machine

variable {s : State} {z : ZoneId}

/-! ### Ramp steps (R75) -/

/-- The setpoint that a ramp step takes a rail to (R75). -/
def Zone.nextSetpoint (v : Zone) : Nat := rampToward v.cfg.rampRate v.rail.setpoint (v.rail.goal.getD 0)

/-- A rail whose setpoint has moved by one ramp step. -/
def State.stepped (s : State) (z : ZoneId) : State := s.updRail z fun r => { r with setpoint := (s.zone z).nextSetpoint }

theorem stepped_rerailed : s.Rerailed z (s.stepped z) { (s.zone z).rail with setpoint := (s.zone z).nextSetpoint }
    (s.zone z).search := (State.Rerailed.refl s z).upd _

/-- A stopped timer does not expire (log 2). -/
theorem rampStep_idle (h : (s.zone z).rail.state ≠ .ramping ∨ (s.zone z).rail.rampTimer = false) : s.rampStep z = s :=
  if_neg fun ⟨hstate, htimer⟩ => h.elim (· hstate) fun e => nomatch e.symm.trans htimer

theorem rampStep_running (hstate : (s.zone z).rail.state = .ramping) (htimer : (s.zone z).rail.rampTimer = true) :
    s.rampStep z =
      if (s.zone z).nextSetpoint = (s.zone z).rail.goal.getD 0 then
        (if (s.zone z).rail.goal.isSome then (s.stepped z).enterConfirming z else (s.stepped z).rampedOff z)
      else s.stepped z := if_pos ⟨hstate, htimer⟩

/-- The rail that confirms moves its own zone alone (R79). -/
theorem enterConfirming_zone_other (s : State) {w : ZoneId} (h : w ≠ z) : (s.enterConfirming z).zone w = s.zone w := by
  rw [State.enterConfirming, enterRail_zone_other _ h, State.updRail, State.updZone_zone, if_neg h.symm]

/-- A rail at the end of its power-down is tested no more (R78). -/
theorem State.Rerailed.rampedOff {t : State} {r : Rail} {q : Search} (h : s.Rerailed z t r q) :
    ((t.rampedOff z).zone z).rail = r.ended := by
  have hoff := h.off.rail
  have hwaits : ((t.enterOff z).zone z).rail.waiting ≠ .powerDown := by rw [hoff]; exact nofun
  rw [State.rampedOff, retestAllDown_zone hwaits, hoff]

/-- Settles O52: by where the ramp step takes the setpoint. -/
theorem rampStepMovesSetpoint : Obligations.RampStepMovesSetpoint := by
  intro z s v goal x
  have hexec : exec (.rampStepExpiry z) s = .next (s.rampStep z).arbitrate := rfl
  refine ⟨fun hidle => by rw [hexec, rampStep_idle hidle], fun hstate htimer => ?_⟩
  have hrun := rampStep_running hstate htimer
  have hstepped := stepped_rerailed (s := s) (z := z)
  have hnext : (s.zone z).nextSetpoint = x := rfl
  rw [hnext] at hrun hstepped
  refine ⟨fun hne => ?_, fun harrived hgoal => ⟨(s.stepped z).enterConfirming z, ?_, ?_, fun w hw => ?_⟩,
    fun harrived hgoal => ⟨(s.stepped z).rampedOff z, ?_, hstepped.rampedOff⟩⟩
  · rw [hexec, hrun, if_neg hne]
    rfl
  · rw [hexec, hrun, if_pos harrived, if_pos hgoal]
  · rw [harrived] at hstepped
    exact ((hstepped.upd _).enter .confirming).rail
  · rw [enterConfirming_zone_other _ hw, State.stepped, State.updRail, State.updZone_zone, if_neg hw.symm]
  · have hnone : ¬ (s.zone z).rail.goal.isSome = true := Option.not_isSome_iff_eq_none.mpr hgoal
    rw [hexec, hrun, if_pos harrived, if_neg hnone]

/-! ### The confirm, settle, soak and grace timers -/

theorem confirmExpired_idle (h : (s.zone z).rail.state ≠ .confirming ∨ (s.zone z).rail.confirmTimer = false) :
    s.confirmExpired z = s :=
  if_neg fun ⟨hstate, htimer⟩ => h.elim (· hstate) fun e => nomatch e.symm.trans htimer

/-- The cause of a rail that is not confirmed: the side of its last sample, or the lack of one (R79). -/
def unconfirmed : Option Side → TripCause
  | some .low => .undervolt
  | some .high => .overvolt
  | none => .sampleLoss

theorem unconfirmed_ne (side : Option Side) : unconfirmed side ≠ .overcurrent := by
  rcases side with _ | _ | _ <;> exact nofun

theorem confirmExpired_running (hstate : (s.zone z).rail.state = .confirming) (htimer : (s.zone z).rail.confirmTimer = true) :
    s.confirmExpired z = s.trip z (unconfirmed (s.zone z).rail.side) := by
  rw [State.confirmExpired, if_pos ⟨hstate, htimer⟩]
  rcases (s.zone z).rail.side with _ | _ | _ <;> rfl

theorem settleExpired_idle (h : (s.zone z).search.phase ≠ .settling ∨ (s.zone z).search.settleTimer = false) :
    s.settleExpired z = s :=
  if_neg fun ⟨hphase, htimer⟩ => h.elim (· hphase) fun e => nomatch e.symm.trans htimer

theorem soakExpired_idle (h : (s.zone z).heat.state ≠ .soaking ∨ (s.zone z).heat.soak = none) : s.soakExpired z = s :=
  if_neg fun ⟨hstate, hsoak⟩ => h.elim (· hstate) fun e => by simp [e] at hsoak

theorem graceExpired_idle (h : (s.zone z).heat.state ≠ .excursion ∨ (s.zone z).heat.grace = none) : s.graceExpired z = s :=
  if_neg fun ⟨hstate, hgrace⟩ => h.elim (· hstate) fun e => by simp [e] at hgrace

theorem graceExpired_running (hstate : (s.zone z).heat.state = .excursion) (hgrace : (s.zone z).heat.grace.isSome = true) :
    s.graceExpired z = s.enterSide z ((s.zone z).heat.side.getD .low) := if_pos ⟨hstate, hgrace⟩

/-- An update is what it does to the record that stands. -/
theorem updHeat_congr {f g : Heat → Heat} (h : f (s.zone z).heat = g (s.zone z).heat) : s.updHeat z f = s.updHeat z g :=
  updZone_congr (by rw [h])

/-- The thermal state of a zone outside its band (R109). -/
def Side.thermal : Side → ThermalState
  | .low => .heating
  | .high => .cooling

/-- A zone that enters the state of the side it is on keeps the side (R111). -/
theorem enterSide_of_side {side : Side} (h : (s.zone z).heat.side = some side) :
    s.enterSide z ((s.zone z).heat.side.getD .low) =
      s.updHeat z fun heat => { heat with state := side.thermal, soak := none, grace := none } := by
  rw [show (s.zone z).heat.side.getD .low = side by rw [h]; rfl]
  refine updHeat_congr ?_
  cases side <;> rw [h] <;> rfl

/-- Settles O53: each timer running in its state, and each stopped. -/
theorem stateTimersExpire : Obligations.StateTimersExpire := by
  intro z s v h
  have hconfirm : exec (.confirmTimerExpiry z) s = .next (s.confirmExpired z).arbitrate := rfl
  have hsettle : exec (.settleTimerExpiry z) s = .next (s.settleExpired z) := rfl
  have hsoak : exec (.soakTimerExpiry z) s = .next (s.soakExpired z).arbitrate := rfl
  have hgrace : exec (.graceTimerExpiry z) s = .next (s.graceExpired z) := rfl
  refine ⟨fun hidle => ?_, fun hstate htimer _ => ?_, fun hphase htimer => ?_, fun hidle => ?_, fun hstate hrun => ?_,
    fun hidle => ?_,
    fun hstate hrun => ⟨fun hlow => ?_, fun hhigh => ?_⟩, fun hidle => ?_⟩
  · rw [hconfirm, confirmExpired_idle hidle]
  · refine ⟨_, hconfirm, ?_⟩
    obtain ⟨hrail, hheat⟩ := trip_zone (z := z) (by rw [hstate]; exact nofun) (unconfirmed_ne v.rail.side)
    rw [confirmExpired_running hstate htimer, hrail, hheat]
    refine ⟨rfl, rfl, rfl, ?_, rfl, rfl⟩
    rcases v.rail.side with _ | _ | _ <;> rfl
  · exact congrArg Host.Outcome.next (if_pos ⟨hphase, htimer⟩)
  · rw [hsettle, settleExpired_idle hidle]
  · exact congrArg (fun t : State => Host.Outcome.next t.arbitrate) (if_pos ⟨hstate, hrun⟩)
  · rw [hsoak, soakExpired_idle hidle]
  · rw [hgrace, graceExpired_running hstate hrun]
    exact congrArg Host.Outcome.next (enterSide_of_side hlow)
  · rw [hgrace, graceExpired_running hstate hrun]
    exact congrArg Host.Outcome.next (enterSide_of_side hhigh)
  · rw [hgrace, graceExpired_idle hidle]

end Sys2Proof.Machine
end

/-! ## The commands of the rails: ZONE_CLEAR, ORDER_WRITE and ZONE_TABLE_WRITE (05_zone_rails.md) -/

section
namespace Sys2Proof.Machine

variable {s : State} {z : ZoneId}

/-! ### Trips cleared (R85) -/

/-- What a zone has whose trip is cleared: no cause, no source, and a rail in OFF or, with a goal, on its way up. -/
structure Zone.TripCleared (v : Zone) : Prop where
  cause : v.rail.tripCause = none
  source : v.rail.haltSource = false
  state : v.rail.state = .off ∨ v.rail.goal.isSome = true ∧ v.rail.state = .ramping
  waits : v.rail.waiting ≠ .powerDown

theorem Zone.TripCleared.standing {v : Zone} (h : v.TripCleared) : v.rail.state ≠ .tripped := by
  rcases h.state with e | ⟨-, e⟩ <;> rw [e] <;> exact nofun

/-- A test for power-up leaves the other zones. -/
theorem tryPowerUp_zone_other (s : State) {w : ZoneId} (h : z ≠ w) : (s.tryPowerUp w).zone z = s.zone z := by
  unfold State.tryPowerUp
  split
  · exact startPowerUp_zone_other s h
  · rw [State.updRail, State.updZone_zone, if_neg h.symm]

/-- The rail record after a test for power-up (R73). -/
def Rail.tried (r : Rail) (may : Bool) : Rail := if may then r.poweredUp else { r with waiting := .powerUp }

theorem tryPowerUp_rerailed : s.Rerailed z (s.tryPowerUp z) ((s.zone z).rail.tried (s.mayStart z)) (s.zone z).search := by
  unfold State.tryPowerUp Rail.tried
  split
  · exact startPowerUp_rerailed
  · exact (State.Rerailed.refl s z).upd _

theorem clearTrip_standing (h : (s.zone z).rail.state ≠ .tripped) : s.clearTrip z = s := if_neg h

/-- Clearing one trip leaves a zone that does not wait for power-down. -/
theorem clearTrip_zone_other {w : ZoneId} (h : z ≠ w) (hwaits : (s.zone z).rail.waiting ≠ .powerDown) :
    (s.clearTrip w).zone z = s.zone z := by
  unfold State.clearTrip
  split
  · have hoff :
        (((s.updRail w fun r => { r with tripCause := none, haltSource := false }).enterRail w .off).evaluateOutput).zone z =
        s.zone z := by
      change ((s.updRail w _).enterRail w .off).zone z = _
      rw [enterRail_zone_other _ h, State.updRail, State.updZone_zone, if_neg h.symm]
    have htried : ∀ t : State, (t.tryPowerUp w).zone z = t.zone z := fun t => tryPowerUp_zone_other t h
    dsimp only
    split <;> (rw [retestAllDown_zone] <;> simp only [testStopping_zone, htried, hoff]; exact hwaits)
  · rfl

/-- Clearing the trip of a rail. -/
theorem clearTrip_cleared (h : (s.zone z).rail.state = .tripped) (hwaits : (s.zone z).rail.waiting ≠ .powerDown) :
    ((s.clearTrip z).zone z).TripCleared := by
  have hoff : s.Rerailed z
      ((s.updRail z fun r => { r with tripCause := none, haltSource := false }).enterRail z .off).evaluateOutput
      (s.zone z).rail.cleared (s.zone z).search := (((State.Rerailed.refl s z).upd _).enter .off).output
  rw [State.clearTrip, if_pos h]
  dsimp only
  generalize ((s.updRail z fun r => { r with tripCause := none, haltSource := false }).enterRail z .off).evaluateOutput = t
    at hoff
  have hrail : (t.zone z).TripCleared := by
    refine ⟨?_, ?_, ?_, ?_⟩ <;> rw [hoff.rail]
    · rfl
    · rfl
    · exact .inl rfl
    · exact hwaits
  have htried : ((if (t.zone z).rail.goal.isSome then t.tryPowerUp z else t).zone z).TripCleared := by
    split
    · rename_i hgoal
      have hup := tryPowerUp_rerailed (s := t) (z := z)
      obtain ⟨hcause, hsource, -, -⟩ := hrail
      refine ⟨?_, ?_, ?_, ?_⟩ <;> rw [hup.rail, Rail.tried] <;> split
      · exact hcause
      · exact hcause
      · exact hsource
      · exact hsource
      · exact .inr ⟨hgoal, rfl⟩
      · exact .inl (by rw [hoff.rail]; rfl)
      · exact nofun
      · exact nofun
    · exact hrail
  have hwaits' := htried.waits
  rw [retestAllDown_zone (by rw [testStopping_zone]; exact hwaits'), testStopping_zone]
  exact htried

/-- A cleared zone stands as other trips are cleared. -/
theorem clearTrip_keeps_cleared (h : (s.zone z).TripCleared) (w : ZoneId) : ((s.clearTrip w).zone z).TripCleared := by
  by_cases hw : z = w
  · subst hw
    rwa [clearTrip_standing h.standing]
  · rwa [clearTrip_zone_other hw h.waits]

/-- The zones of a set are cleared one after another. -/
theorem clearTrips_cleared {zs : List ZoneId} (hz : z ∈ zs) (h : (s.zone z).rail.state = .tripped)
    (hwaits : (s.zone z).rail.waiting ≠ .powerDown) :
    ((forEach zs (fun z s => s.clearTrip z) s).zone z).TripCleared := by
  induction zs generalizing s with
  | nil => exact absurd hz nofun
  | cons w ws ih =>
    rw [forEach_cons]
    by_cases hw : z = w
    · subst hw
      exact forEach_keeps (P := fun t => (t.zone z).TripCleared) (fun w _ _ ht => clearTrip_keeps_cleared ht w)
        (clearTrip_cleared h hwaits)
    · have hstands := clearTrip_zone_other hw hwaits
      exact ih ((List.mem_cons.mp hz).resolve_left hw) (by rw [hstands]; exact h) (by rw [hstands]; exact hwaits)

theorem mem_namedZones {set : Byte} : z ∈ namedZones set ↔ set.getLsbD z.val = true := by
  simp [namedZones, allZones]

theorem clearable_iff (v : Zone) : v.clearable = true ↔ v.rail.state = .tripped ∧ v.heat.state ≠ .overtemp := by
  simp [Zone.clearable]

theorem cfg_of_setup {s t : State} (h : t.setup = s.setup) (z : ZoneId) : (t.zone z).cfg = (s.zone z).cfg :=
  congrFun (congrArg Setup.zones h) z

/-- Settles O41: the three refusals, and otherwise the trips cleared one after another. -/
theorem zoneClearClearsTrips : Obligations.ZoneClearClearsTrips := by
  intro src tag zones s hready hrails named run
  have hrun : run = .next (s.deliver src tag 32 (State.clearZones zones)) := rfl
  rw [hrun, deliver_ready hready, State.clearZones]
  refine ⟨fun hrange => by rw [if_pos hrange]; rfl, fun hrange hhalted => ?_,
    fun hrange hhalted => ⟨fun hbad => ?_, fun hgood => ?_⟩⟩
  · rw [if_neg (Nat.not_le_of_lt hrange), if_pos hhalted]; rfl
  · have hall : (namedZones zones).all (fun z => (s.zone z).clearable) = false := by
      obtain ⟨z, hz, hstate⟩ := hbad
      refine List.all_eq_false.mpr ⟨z, mem_namedZones.mpr hz, fun hclear => ?_⟩
      obtain ⟨htripped, hheat⟩ := (clearable_iff _).mp hclear
      exact hstate.elim (· htripped) hheat
    rw [if_neg (Nat.not_le_of_lt hrange), if_neg hhalted, if_pos (by rw [hall]; rfl)]
    rfl
  · have hall : (namedZones zones).all (fun z => (s.zone z).clearable) = true :=
      List.all_eq_true.mpr fun z hz => (clearable_iff _).mpr (hgood z (mem_namedZones.mp hz))
    rw [if_neg (Nat.not_le_of_lt hrange), if_neg hhalted, if_neg (by rw [hall]; exact nofun)]
    have hrailed := forEach_railed (namedZones zones) (fun z t => clearTrip_railed t z) s
    have hsetup := forEach_setup s (xs := namedZones zones) (fun z t => clearTrip_setup t z)
    refine ⟨_, rfl, (forEach_zonal _ (fun z t => clearTrip_zonal t z) s).step, fun z =>
      ⟨hrailed.goal z, cfg_of_setup hsetup z, hrailed.heat z, fun hz => ?_⟩⟩
    obtain ⟨-, -, -, hdown, -⟩ := hrails z
    have htripped := (hgood z hz).1
    have hcleared := clearTrips_cleared (mem_namedZones.mpr hz) htripped fun e => by
      simpa [htripped, RailState.powered] using hdown e
    have hgoal := hrailed.goal z
    exact ⟨hcleared.cause, hcleared.source, hgoal ▸ hcleared.state⟩

end Sys2Proof.Machine
end

section
namespace Sys2Proof.Machine

variable {s : State} {z : ZoneId}

/-! ### ORDER_WRITE (R72) -/

/-- The test of one waiting zone under a new list (R72). -/
def State.retestOrder (s : State) (z : ZoneId) : State := if s.readyDown z then s.beginPowerDown z else s.retestUp z

theorem writeOrder_eq (s : State) (zs : List ZoneId) :
    s.writeOrder zs =
      (forEachFreely (allZones.filter fun z => { s with order := zs }.readyUp z || { s with order := zs }.readyDown z)
        (fun z s => s.retestOrder z) { s with order := zs }).retestAllDown := rfl

@[simp] theorem retestOrder_setup (s : State) (z : ZoneId) : (s.retestOrder z).setup = s.setup := by
  rw [State.retestOrder]
  split
  · exact beginPowerDown_setup ..
  · exact retestUp_setup ..

/-- A new list keeps the set-up but for itself. -/
theorem writeOrder_setup (s : State) (zs : List ZoneId) : (s.writeOrder zs).setup = { s with order := zs }.setup := by
  rw [writeOrder_eq, retestAllDown_setup, forEachFreely_setup _ fun z t => retestOrder_setup t z]

theorem readyUp_idle (h : (s.zone z).rail.waiting = .none) : s.readyUp z = false := by
  simp [State.readyUp, h]

theorem readyDown_idle (h : (s.zone z).rail.waiting = .none) : s.readyDown z = false := by
  simp [State.readyDown, h]

/-- Tables whose cells agree in what `f` reads are read alike. -/
theorem map_cells_eq {n : Nat} {α β : Type} {t t' : Table n α} {f : α → β} (h : ∀ i, f (t'.get i) = f (t.get i)) :
    t'.cells.map f = t.cells.map f := by
  refine List.ext_getElem (by rw [List.length_map, List.length_map, t.size, t'.size]) fun i hi _ => ?_
  rw [List.length_map, t'.size] at hi
  rw [List.getElem_map, List.getElem_map]
  exact h ⟨i, hi⟩

/-- Settles O29: the list is replaced, and only waiting zones are tested under it. -/
theorem orderWriteTakes : Obligations.OrderWriteTakes := by
  intro src tag first count mask values w s hready hcheck
  have hrow : theRow [(0, w)] = w := List.append_nil w
  have hexec : exec (.orderWrite src tag first count mask values) s =
      .next ((s.writeOrder (orderOf w)).replied src tag 1 .ok []) := by
    change Host.Outcome.next (s.deliver src tag 1 (State.tableWrite 10 first count mask values)) = _
    rw [deliver_ready hready, State.tableWrite, hcheck]
    change Host.Outcome.next ((s.writeOrder (orderOf (theRow [(0, w)]))).replied src tag 1 .ok []) = _
    rw [hrow]
  rw [hexec]
  have hsetup := writeOrder_setup s (orderOf w)
  have hrailed := writeOrder_railed s (orderOf w)
  refine ⟨⟨_, rfl, congrArg Setup.order hsetup, ?_, congrArg Setup.settings hsetup, fun z =>
    ⟨cfg_of_setup hsetup z, hrailed.goal z, hrailed.heat z⟩⟩, fun hidle => ?_⟩
  · exact map_cells_eq fun i => state_of_marks (State.marks_socket (writeOrder_marks s (orderOf w)) i)
  · have hup : ∀ z, { s with order := orderOf w }.readyUp z = false := fun z => readyUp_idle (hidle z)
    have hdown : ∀ z, { s with order := orderOf w }.readyDown z = false := fun z => readyDown_idle (hidle z)
    have hnone : allZones.filter (fun z => { s with order := orderOf w }.readyUp z || { s with order := orderOf w }.readyDown z) = [] :=
      List.filter_eq_nil_iff.mpr fun z _ => by rw [hup, hdown]; exact nofun
    rw [writeOrder_eq, hnone]
    exact congrArg (fun t : State => Host.Outcome.next (t.replied src tag 1 .ok [])) (retestAllDown_idle hidle)

end Sys2Proof.Machine
end

section
namespace Sys2Proof.Machine

variable {s : State} {z : ZoneId}

/-! ### A new heat target (R107, R108) -/

/-- From `s` to `t` goals stand, and so do the heat targets but that of `z`, which is `g`. -/
structure State.Targets (s : State) (z : ZoneId) (g : Option Int) (t : State) : Prop where
  goal (w : ZoneId) : (t.zone w).rail.goal = (s.zone w).rail.goal
  target : (t.zone z).heat.target = g
  other (w : ZoneId) : w ≠ z → (t.zone w).heat.target = (s.zone w).heat.target

theorem State.Places.targets {g : Option Int} {t : State} (k : s.Places z g t) : s.Targets z g t :=
  ⟨k.goal, k.target, fun w hw => by rw [k.other w hw]⟩

theorem State.Warmed.targets {h : Heat} {t : State} (k : s.Warmed z h t) : s.Targets z h.target t :=
  ⟨fun w => by rw [k.railed.1], by rw [k.heat], fun w hw => by rw [k.other hw]⟩

theorem State.Targets.works {g : Option Int} {t u : State} (k : s.Targets z g t) (h : u.works = t.works) : s.Targets z g u :=
  ⟨fun w => by rw [works_rail h, k.goal], by rw [works_heat h, k.target], fun w hw => by rw [works_heat h, k.other w hw]⟩

theorem targetChange_off (h : (s.zone z).heat.state = .off) : s.targetChange z none = s := by
  simp [State.targetChange, h]

/-- A zone that takes a new target has it, and no goal and no other target moves. -/
theorem targetChange_targets {g : Option Int} (h : (s.zone z).heat.state = .off → g = none → (s.zone z).heat.target = none) :
    s.Targets z g (s.targetChange z g) := by
  have k := State.Warmed.refl s z
  unfold State.targetChange
  dsimp only
  split <;> rename_i hstate
  · exact ⟨fun _ => rfl, h hstate rfl, fun _ _ => rfl⟩
  · rename_i g
    exact (((k.upd fun h => { h with target := some g }).works (noticeZone_works _ .thermal z)).place rfl g
      (s.zone z).values.temperature).targets.works (updValues_works ..)
  · exact (k.upd fun h => { h with target := _ }).targets
  · rename_i g
    exact (k.upd fun h => { h with target := some g }).targets
  · exact (heatOff_warmed s z).targets
  · rename_i g _ _
    exact ((k.leave.upd fun h => { h with target := some g, soak := none, grace := none }).place rfl g _).targets
  · exact (k.leave.upd fun _ => {}).targets

theorem targetChange_goal (s : State) (z : ZoneId) (g : Option Int) (w : ZoneId) :
    ((s.targetChange z g).zone w).rail.goal = (s.zone w).rail.goal := by
  by_cases h : (s.zone z).heat.state = .off ∧ g = none
  · rw [h.2, targetChange_off h.1]
  · exact (targetChange_targets fun hs hg => absurd ⟨hs, hg⟩ h).goal w

/-! ### The parts of a ZONE write (R69) -/

theorem zoneTask_goal (s : State) (task : ZoneTask) (w : ZoneId) : ((task.run s).zone w).rail.goal = (s.zone w).rail.goal := by
  cases task with
  | goal z => rw [ZoneTask.run, (goalChange_railed s z).goal]
  | target z g => rw [ZoneTask.run, targetChange_goal]

theorem zoneTask_setup (s : State) (task : ZoneTask) : (task.run s).setup = s.setup := by
  cases task with
  | goal z => exact goalChange_setup s z
  | target z g => exact targetChange_setup s z g

theorem zoneTask_zonal (s : State) (task : ZoneTask) : s.Zonal (task.run s) := by
  cases task with
  | goal z => exact goalChange_zonal s z
  | target z g => exact targetChange_zonal s z g

section Rows

variable {rows : List (Nat × RowWrite)} (hd : (rows.map Prod.fst).Nodup) (hn : ∀ row ∈ rows, row.1 < 4)
include hd hn

/-- A zone as the write has its configuration. -/
theorem zonesWritten_zone (s : State) (z : ZoneId) : (s.zonesWritten (rowsOf 4 rows)).zone z =
    { s.zone z with cfg := (rowWriteAt rows z.val).apply ZoneCfg.put (s.zone z).cfg } := by
  obtain ⟨hout, hin⟩ := writeRows_get (f := fun w (v : Zone) => { v with cfg := w.apply ZoneCfg.put v.cfg }) (rowsOf_nodup hd hn) s.zones
  cases hl : rows.lookup z.val with
  | some w =>
    rw [rowWriteAt_some hl]
    exact hin (z, w) ((mem_rowsOf hd hn).mpr hl)
  | none =>
    rw [rowWriteAt_none hl]
    refine hout z fun hm => ?_
    obtain ⟨⟨j, w⟩, hrow, rfl⟩ := List.mem_map.mp hm
    simp [(mem_rowsOf hd hn).mp hrow] at hl

theorem zonesWritten_eq (s : State) : s.zonesWritten (rowsOf 4 rows) =
    s.setZones fun z => { s.zone z with cfg := (rowWriteAt rows z.val).apply ZoneCfg.put (s.zone z).cfg } := by
  have hzones : (s.zonesWritten (rowsOf 4 rows)).zones = (s.setZones fun z =>
      { s.zone z with cfg := (rowWriteAt rows z.val).apply ZoneCfg.put (s.zone z).cfg }).zones :=
    Table.ext_get fun z => by
      rw [State.setZones, Table.get_ofFn]
      exact zonesWritten_zone hd hn s z
  exact congrArg (fun zones => { s with zones }) hzones

/-- Some written row of a zone meets a test exactly when the zone's row does. -/
theorem any_rowsOf (p : ZoneId → RowWrite → Bool) :
    ((rowsOf 4 rows).any fun row => p row.1 row.2) = true ↔ ∃ z w, rows.lookup z.val = some w ∧ p z w = true := by
  rw [List.any_eq_true]
  exact ⟨fun ⟨⟨z, w⟩, hrow, hp⟩ => ⟨z, w, (mem_rowsOf hd hn).mp hrow, hp⟩,
    fun ⟨z, w, hl, hp⟩ => ⟨(z, w), (mem_rowsOf hd hn).mpr hl, hp⟩⟩

theorem any_selects (z : ZoneId) (n : Nat) :
    ((rowsOf 4 rows).any fun row => row.1 == z && row.2.selects n) = (rowWriteAt rows z.val).selects n := by
  rw [Bool.eq_iff_iff, any_rowsOf hd hn fun w row => w == z && row.selects n]
  constructor
  · rintro ⟨w, row, hl, hp⟩
    simp only [Bool.and_eq_true, beq_iff_eq] at hp
    rw [← hp.1, rowWriteAt_some hl]
    exact hp.2
  · intro h
    cases hl : rows.lookup z.val with
    | some w => exact ⟨z, w, hl, by rw [rowWriteAt_some hl] at h; simpa using h⟩
    | none => rw [rowWriteAt_none hl] at h; exact nomatch h

theorem relimitedGoals_eq (s : State) (z : ZoneId) :
    s.relimitedGoals (rowsOf 4 rows) z =
      if (rowWriteAt rows z.val).selects 1 = true then limitGoal (s.zone z).cfg.maxMv (s.zone z).rail.goal
      else (s.zone z).rail.goal := by
  rw [State.relimitedGoals, any_selects hd hn]

end Rows

/-- Goals formed as they stand change nothing. -/
theorem setGoals_own {goals : ZoneId → Option Nat} (h : ∀ z, goals z = (s.zone z).rail.goal) : s.setGoals goals = s := by
  have hzones : (s.setGoals goals).zones = s.zones := Table.ext_get fun z => by
    refine (State.setZones_zone s _ z).trans ?_
    rw [h]
    rfl
  exact congrArg (fun zones => { s with zones }) hzones

theorem changedGoals_own {goals : ZoneId → Option Nat} (h : ∀ z, goals z = (s.zone z).rail.goal) : s.changedGoals goals = [] :=
  List.filter_eq_nil_iff.mpr fun z _ => by simp [h]

/-- What the blocks do once the rows are written: the goal and target changes that the write makes (log 11). -/
def State.zoneTasks (s : State) (rows : List (ZoneId × RowWrite)) : List ZoneTask :=
  (s.changedGoals (s.relimitedGoals rows)).map ZoneTask.goal ++
    (rows.filter fun row => (row.2.selects 9 || row.2.selects 12) && s.relimitedTarget row.1 != (s.zone row.1).heat.target).map
      fun row => ZoneTask.target row.1 (s.relimitedTarget row.1)

theorem writeZones_eq (s : State) (rows : List (ZoneId × RowWrite)) :
    s.writeZones rows =
      if rows.any fun row => !(row.2.apply ZoneCfg.put (s.zone row.1).cfg).consistent then s.refuse .range
      else if rows.any fun row => decide ((s.zone row.1).rail.state = .searching) then s.refuse .busy
      else
        let t := s.zonesWritten rows
        (forEachFreely (t.zoneTasks rows) ZoneTask.run (t.setGoals (t.relimitedGoals rows))).accept := rfl

/-- A write that selects none of max_mv, band and hard_limit leaves the blocks nothing to do. -/
theorem zoneTasks_nil {rows : List (ZoneId × RowWrite)} (hgoals : ∀ z, s.relimitedGoals rows z = (s.zone z).rail.goal)
    (hrows : ∀ row ∈ rows, row.2.selects 9 = false ∧ row.2.selects 12 = false) : s.zoneTasks rows = [] := by
  have hheated : rows.filter (fun row =>
      (row.2.selects 9 || row.2.selects 12) && s.relimitedTarget row.1 != (s.zone row.1).heat.target) = [] :=
    List.filter_eq_nil_iff.mpr fun row hrow => by simp [hrows row hrow]
  rw [State.zoneTasks, changedGoals_own hgoals, hheated]
  rfl

/-- The changes that the blocks take leave step control, the list, the configuration and the goals. -/
theorem zoneTasks_frame (tasks : List ZoneTask) (s : State) :
    let u := forEachFreely tasks ZoneTask.run s
    (s.step.state ≠ .stopping → u.step = s.step) ∧ u.order = s.order ∧
      ∀ z, (u.zone z).cfg = (s.zone z).cfg ∧ (u.zone z).rail.goal = (s.zone z).rail.goal := by
  have hsetup : (forEachFreely tasks ZoneTask.run s).setup = s.setup := forEachFreely_setup s fun task u => zoneTask_setup u task
  exact ⟨(forEachFreely_zonal tasks (fun task u => zoneTask_zonal u task) s).step, congrArg Setup.order hsetup, fun z =>
    ⟨cfg_of_setup hsetup z, forEachFreely_keeps (P := fun u => (u.zone z).rail.goal = (s.zone z).rail.goal) (fun _ _ hu => hu)
      (fun task _ u hu => (zoneTask_goal u task z).trans hu) rfl⟩⟩

section Rows

variable {rows : List (Nat × RowWrite)} (hd : (rows.map Prod.fst).Nodup) (hn : ∀ row ∈ rows, row.1 < 4)
include hd hn

theorem any_inconsistent (s : State) :
    ((rowsOf 4 rows).any fun row => !(row.2.apply ZoneCfg.put (s.zone row.1).cfg).consistent) = true ↔
      ∃ z : ZoneId, (rows.lookup z.val).isSome = true ∧
        ((rowWriteAt rows z.val).apply ZoneCfg.put (s.zone z).cfg).consistent = false := by
  rw [any_rowsOf hd hn fun z w => !(w.apply ZoneCfg.put (s.zone z).cfg).consistent]
  refine exists_congr fun z => ?_
  rw [rowWriteAt]
  cases rows.lookup z.val <;> simp

theorem any_searching (s : State) :
    ((rowsOf 4 rows).any fun row => decide ((s.zone row.1).rail.state = .searching)) = true ↔
      ∃ z : ZoneId, (rows.lookup z.val).isSome = true ∧ (s.zone z).rail.state = .searching := by
  rw [any_rowsOf hd hn fun z _ => decide ((s.zone z).rail.state = .searching)]
  refine exists_congr fun z => ?_
  cases rows.lookup z.val <;> simp

/-- The goals after a write (R71; log 11). -/
theorem zonesWritten_goals (s : State) (z : ZoneId) :
    (s.zonesWritten (rowsOf 4 rows)).relimitedGoals (rowsOf 4 rows) z =
      if (rowWriteAt rows z.val).selects 1 = true then
        limitGoal ((rowWriteAt rows z.val).apply ZoneCfg.put (s.zone z).cfg).maxMv (s.zone z).rail.goal
      else (s.zone z).rail.goal := by
  rw [relimitedGoals_eq hd hn, zonesWritten_zone hd hn]

end Rows

theorem consistent_iff (c : ZoneCfg) : c.consistent = false ↔ c.fullScaleMv < c.maxMv ∨ c.tripMa < c.limitMa := by
  simp only [ZoneCfg.consistent, Bool.and_eq_false_iff, decide_eq_false_iff_not, Nat.not_le]

/-- Settles O28: the stages of the write, and the goals and targets formed again after it. -/
theorem zoneWriteTakes : Obligations.ZoneWriteTakes := by
  intro src tag first count mask values rows s hready hcheck new sel named run
  obtain ⟨hd, hin⟩ := checkWrite_rows hcheck
  have hn : ∀ row ∈ rows, row.1 < 4 := hin
  have hexec : run = .next ((s.writeZones (rowsOf 4 rows)).state.replied src tag 1
      (s.writeZones (rowsOf 4 rows)).status (s.writeZones (rowsOf 4 rows)).result) := by
    change Host.Outcome.next (s.deliver src tag 1 (State.tableWrite 3 first count mask values)) = _
    rw [deliver_ready hready, State.tableWrite, hcheck]
    rfl
  rw [hexec, writeZones_eq]
  refine ⟨fun ⟨z, hz, hbad⟩ => ?_, fun hgood => ?_⟩
  · rw [if_pos ((any_inconsistent hd hn s).mpr ⟨z, hz, (consistent_iff _).mpr hbad⟩)]
    rfl
  have hrange := mt (any_inconsistent hd hn s).mp fun ⟨z, hz, hbad⟩ => by
    obtain ⟨hmax, hlimit⟩ := hgood z hz
    rcases (consistent_iff _).mp hbad with h | h
    · exact absurd hmax (Nat.not_le_of_lt h)
    · exact absurd hlimit (Nat.not_le_of_lt h)
  rw [if_neg hrange]
  refine ⟨fun hbusy => by rw [if_pos ((any_searching hd hn s).mpr hbusy)]; rfl, fun hfree => ?_⟩
  rw [if_neg (mt (any_searching hd hn s).mp fun ⟨z, hz, h⟩ => hfree z hz h)]
  have hzone := zonesWritten_zone hd hn s
  have hgoals := zonesWritten_goals hd hn s
  have hwritten := zonesWritten_eq hd hn s
  dsimp only
  generalize s.zonesWritten (rowsOf 4 rows) = t at *
  have hset : ∀ z, (t.setGoals (t.relimitedGoals (rowsOf 4 rows))).zone z =
      { t.zone z with rail := { (t.zone z).rail with goal := t.relimitedGoals (rowsOf 4 rows) z } } := fun z =>
    State.setZones_zone ..
  refine ⟨?_, fun hnone => ?_⟩
  · obtain ⟨hstep, horder, hframe⟩ :=
      zoneTasks_frame (t.zoneTasks (rowsOf 4 rows)) (t.setGoals (t.relimitedGoals (rowsOf 4 rows)))
    refine ⟨_, rfl, fun hs => ?_, horder.trans (by rw [hwritten]; rfl), fun z => ?_⟩
    · rw [hwritten] at hstep ⊢
      exact hstep hs
    · obtain ⟨hcfg, hgoal⟩ := hframe z
      rw [hset] at hcfg hgoal
      exact ⟨hcfg.trans (by rw [hzone]), hgoal.trans (hgoals z)⟩
  · have hown : ∀ z, t.relimitedGoals (rowsOf 4 rows) z = (t.zone z).rail.goal := fun z => by
      rw [hgoals, if_neg (by rw [show (rowWriteAt rows z.val).selects 1 = false from (hnone z).1]; exact nofun), hzone]
    rw [setGoals_own hown, zoneTasks_nil hown, hwritten]
    · rfl
    · rintro ⟨z, w⟩ hrow
      have h := hnone z
      simp only [sel, rowWriteAt_some ((mem_rowsOf hd hn).mp hrow)] at h
      exact ⟨h.2.1, h.2.2⟩

end Sys2Proof.Machine
end

/-! ## A current sample at the rails (05_zone_rails.md R81, 06_isolation_search.md) -/

section
namespace Sys2Proof.Machine

variable {s : State} {z : ZoneId} {ma : Nat}

/-! ### A trip for overcurrent (R81, R86) -/

theorem anyHaltSource_of_rail (h : (s.zone z).rail.haltSource = true) : s.anyHaltSource = true :=
  List.any_eq_true.mpr ⟨z, List.mem_finRange z, by rw [Zone.haltSource, h]; rfl⟩

theorem currentSample_off (h : (s.zone z).rail.state.powered = false) : s.currentSample z ma = s :=
  if_neg (by rw [h]; exact nofun)

theorem currentSample_over (h : (s.zone z).rail.state.powered = true) (hover : (s.zone z).cfg.tripMa ≤ ma) :
    s.currentSample z ma = s.trip z .overcurrent := by
  rw [State.currentSample, if_pos h, if_pos hover]

/-- A trip for overcurrent makes the rail a source, and the own output follows it (R86, R166). -/
theorem trip_overcurrent (h : (s.zone z).rail.state ≠ .tripped) :
    ((s.trip z .overcurrent).zone z).rail = (s.zone z).rail.tripped .overcurrent ∧
      (s.trip z .overcurrent).halt.own = s.settings.haltOut := by
  have hrail := (tripped_rerailed (s := s) (z := z) .overcurrent).rail
  have hsettings : (s.trip z .overcurrent).settings = s.settings := congrArg Setup.settings (trip_setup s z .overcurrent)
  rw [← hsettings]
  rw [trip_parts h]
  rw [if_pos rfl] at hrail ⊢
  have hfollows := evaluateOutput_follows
    (((if (s.zone z).search.phase = .idle then s else s.endSearchAbandoned z).enterTripped z .overcurrent).updRail z fun r =>
      { r with haltSource := true })
  generalize ((_ : State).updRail z fun r => { r with haltSource := true }).evaluateOutput = t at hrail hfollows ⊢
  have hzone : (t.testStopping.retestAllDown.zone z).rail = (s.zone z).rail.tripped .overcurrent := by
    rw [retestAllDown_zone (by rw [testStopping_zone, hrail]; exact nofun), testStopping_zone, hrail]
  have hown := (retestAllDown_railed t.testStopping).output (outputFollows_of_works (testStopping_works t) hfollows)
  rw [State.OutputFollows, anyHaltSource_of_rail (z := z) (by rw [hzone]; rfl), Bool.and_true] at hown
  exact ⟨hzone, hown⟩

/-! ### The start of a search (R92, R93) -/

theorem currentSample_limit (h : (s.zone z).rail.state = .hold) (hlimit : (s.zone z).cfg.limitMa ≤ ma)
    (htrip : ma < (s.zone z).cfg.tripMa) : s.currentSample z ma = s.startSearch z ma := by
  rw [State.currentSample, if_pos (by rw [h]; rfl), if_neg (Nat.not_le_of_lt htrip), if_pos ⟨h, hlimit⟩]

theorem currentSample_measure (h : (s.zone z).rail.state = .searching) (hphase : (s.zone z).search.phase = .measuring)
    (htrip : ma < (s.zone z).cfg.tripMa) : s.currentSample z ma = s.measure z ma := by
  rw [State.currentSample, if_pos (by rw [h]; rfl), if_neg (Nat.not_le_of_lt htrip),
    if_neg (by rw [h]; exact fun e => nomatch e.1),
    if_pos ⟨h, hphase⟩]

theorem searchOn_shed {i : SocketId} {rest : List SocketId} (h : (s.zone z).search.pending = i :: rest) :
    s.searchOn z = s.shedNext z := by
  rw [State.searchOn, h]; rfl

/-- The socket that is shed has its switch open (R93). -/
theorem shedNext_switch {i : SocketId} {rest : List SocketId} (h : (s.zone z).search.pending = i :: rest)
    (hi : (s.socket i).zone = z) : ((s.shedNext z).socket i).switch = false := by
  unfold State.shedNext
  dsimp only
  rw [h, evaluateSwitches_socket, if_pos (by simp), switched_switch, State.switchRule, State.updSearch_socket, hi,
    State.updSearch_zone_same]
  simp

/-- A rail that is searching, before it sheds its first socket (R92). -/
def State.searchEntered (s : State) (z : ZoneId) : State := (s.updRail z fun r => { r with oowCount := 0 }).enterRail z .searching

theorem searchEntered_eq (h : (s.zone z).rail.state = .hold) :
    s.searchEntered z = (s.updRail z fun r => { r with oowCount := 0 }).railEntered z .searching := by
  rw [State.searchEntered, enterRail_eq, State.updRail_zone_same, h]
  rfl

/-- Out of HOLD the rail stays powered, so that no switch moves. -/
theorem searchEntered_socket (h : (s.zone z).rail.state = .hold) (i : SocketId) :
    ((s.searchEntered z).socket i).zone = (s.socket i).zone ∧ ((s.searchEntered z).socket i).switch = (s.socket i).switch := by
  rw [searchEntered_eq h]
  obtain ⟨-, hzone, -, hswitch, -⟩ := works_socket (railEntered_works (s.updRail z fun r => { r with oowCount := 0 }) z .searching) i
  exact ⟨hzone, hswitch⟩

theorem searchEntered_list (h : (s.zone z).rail.state = .hold) : (s.searchEntered z).searchList z = s.searchList z := by
  refine List.filter_congr fun i _ => ?_
  obtain ⟨hzone, hswitch⟩ := searchEntered_socket h i
  rw [hzone, hswitch]

/-- Leaving HOLD disturbs the zone (R22). -/
theorem searchEntered_latch (h : (s.zone z).rail.state = .hold) : ((s.searchEntered z).zone z).latches.rail = true := by
  rw [searchEntered_eq h, State.railEntered, if_pos ⟨by rw [State.updRail_zone_same]; exact h, nofun⟩, noticeZone_latches]
  rfl

theorem searchEntered_rerailed : s.Rerailed z (s.searchEntered z) { (s.zone z).rail with oowCount := 0, state := .searching }
    (s.zone z).search := ((State.Rerailed.refl s z).upd _).enter .searching

theorem startSearch_eq (s : State) (z : ZoneId) (ma : Nat) :
    s.startSearch z ma =
      (((s.searchEntered z).updSearch z fun q =>
        { q with pending := (s.searchEntered z).searchList z, baseline := some ma }).reportZone z .searchBegun).searchOn z := rfl

theorem shedNext_recedes (s : State) (z : ZoneId) : s.Recedes (s.shedNext z) := by
  unfold State.shedNext
  dsimp only
  split
  · exact .refl s
  · exact (updZone_recedes s z _ rfl).trans (evaluateSwitches_recedes ..)

/-- A search starts over the switched-on sockets of its zone, and sheds the lowest. -/
theorem startSearch_sheds {i : SocketId} {rest : List SocketId} (h : (s.zone z).rail.state = .hold)
    (hidle : (s.zone z).search = {}) (hlist : s.searchList z = i :: rest) :
    let u := s.startSearch z ma
    (u.zone z).rail.state = .searching ∧
      (u.zone z).search = { phase := .settling, candidate := some i, baseline := some ma, pending := rest, settleTimer := true } ∧
      (u.socket i).switch = false ∧ (u.zone z).latches.rail = true := by
  have hzone : (s.socket i).zone = z := by
    have hi : i ∈ s.searchList z := by rw [hlist]; exact List.mem_cons_self
    simpa using (Bool.and_eq_true_iff.mp (List.mem_filter.mp hi).2).1
  have hbegun := (searchEntered_rerailed (s := s) (z := z)).searches fun q => { q with pending := i :: rest, baseline := some ma }
  have hreported := hbegun.works (reportZone_works _ z .searchBegun)
  have hlatch : (((s.searchEntered z).updSearch z fun q =>
      { q with pending := i :: rest, baseline := some ma }).zone z).latches.rail = true := by
    rw [State.updSearch_zone_same]; exact searchEntered_latch h
  have hsocket : (((s.searchEntered z).updSearch z fun q =>
      { q with pending := i :: rest, baseline := some ma }).socket i).zone = z := (searchEntered_socket h i).1.trans hzone
  rw [startSearch_eq, searchEntered_list h, hlist]
  generalize ((s.searchEntered z).updSearch z fun q => { q with pending := i :: rest, baseline := some ma }) = t at *
  have hpending : ((t.reportZone z .searchBegun).zone z).search.pending = i :: rest := by rw [hreported.search]
  have hshed := shedNext_rerailed hpending
  rw [searchOn_shed hpending]
  refine ⟨?_, ?_, ?_, ?_⟩
  · rw [hshed.rail, hreported.rail]
  · rw [hshed.search, hreported.search, hidle]
  · exact shedNext_switch hpending (by rw [State.reportZone, report_socket]; exact hsocket)
  · exact ((reportZone_recedes t z .searchBegun).trans (shedNext_recedes _ z)).latches z |>.1 hlatch

/-! ### The measurement of a candidate (R95 to R97) -/

/-- What is found SHORT is held as SHORT, and fails if it is armed (R14, R16). -/
theorem finding_short (s : State) (i : SocketId) :
    ((s.finding i .short).socket i).hold = Hold.place (s.socket i).hold .short ∧
      ((s.socket i).state.armed = true →
        ((s.finding i .short).socket i).state = .failed ∧ ((s.finding i .short).socket i).cause = some .short) := by
  have hplaced : ((s.placeHold? i (FailCause.short.hold (s.policyOf i).isolateOnFail)).socket i).hold =
      Hold.place (s.socket i).hold .short := by
    change ((s.placeHold i .short).socket i).hold = _
    rw [placeHold_socket, if_pos rfl, switched_cases]
  rw [finding_socket]
  refine ⟨?_, fun harmed => ?_⟩
  · dsimp only
    split <;> exact hplaced
  · dsimp only
    rw [if_pos harmed]
    exact ⟨rfl, rfl⟩

/-- What a move of the zones leaves of a socket. -/
theorem State.Zonal.held {t : State} (h : s.Zonal t) (i : SocketId) :
    (t.socket i).hold = (s.socket i).hold ∧ (t.socket i).state = (s.socket i).state ∧ (t.socket i).cause = (s.socket i).cause := by
  rw [h.socket i]
  exact ⟨rfl, rfl, rfl⟩

/-- A search that is cleared returns its rail to HOLD (R97). -/
theorem clearSearch_holds (hwaits : (s.zone z).rail.waiting ≠ .powerUp) :
    ((s.clearSearch z).zone z).rail.state = .hold ∧ ((s.clearSearch z).zone z).search = {} := by
  have hheld := (((State.Rerailed.refl s z).searches fun _ => {}).evaluate fun i => (s.zone z).search.candidate == some i).hold
    .searchCleared
  unfold State.clearSearch State.enterHold
  dsimp only
  rw [retestAllUp_zone (by rw [hheld.rail]; exact hwaits)]
  exact ⟨by rw [hheld.rail]; rfl, hheld.search⟩

theorem measure_fell {i : SocketId} {baseline : Nat} (hi : (s.zone z).search.candidate = some i)
    (hb : (s.zone z).search.baseline = some baseline) (hfell : ma + (s.zone z).cfg.shareMa ≤ baseline) :
    s.measure z ma =
      let t := (s.finding i .short).reportZone z (.searchCulprit i)
      if ma < (s.zone z).cfg.limitMa then t.clearSearch z
      else (t.updSearch z fun q => { q with baseline := some ma }).searchOn z := by
  simp only [State.measure, hi, hb, if_pos hfell]

theorem measure_stands {i : SocketId} {baseline : Nat} (hi : (s.zone z).search.candidate = some i)
    (hb : (s.zone z).search.baseline = some baseline) (hstands : baseline < ma + (s.zone z).cfg.shareMa) :
    s.measure z ma = s.searchOn z := by
  simp only [State.measure, hi, hb, if_neg (Nat.not_le_of_lt hstands)]

/-- After a culprit is found, the search leaves what the finding made of it. -/
theorem measure_zonal (i : SocketId) :
    let t := (s.finding i .short).reportZone z (.searchCulprit i)
    (s.finding i .short).Zonal (if ma < (s.zone z).cfg.limitMa then t.clearSearch z
      else (t.updSearch z fun q => { q with baseline := some ma }).searchOn z) := by
  have hreport := reportZone_zonal (s.finding i .short) z (.searchCulprit i)
  intro t
  split
  · exact hreport.trans (clearSearch_zonal ..)
  · exact hreport.trans ((updSearch_zonal ..).trans (searchOn_zonal ..))

/-- Settles O54: by the rail's state and the current. -/
theorem currentSampleSearches : Obligations.CurrentSampleSearches := by
  intro z ma s v u hv
  refine ⟨fun hoff => currentSample_off hoff, fun hon hover => ?_, fun hhold hlimit htrip i rest hlist => ?_,
    fun i baseline hstate hphase hi hb htrip => ⟨fun hfell => ?_, fun hstands j rest hpending => ?_⟩⟩
  · obtain ⟨hrail, hown⟩ := trip_overcurrent (s := s) (z := z) fun e => by
      rw [show v.rail.state = .tripped from e] at hon; exact nomatch hon
    rw [show u = _ from currentSample_over hon hover, hrail, hown]
    exact ⟨rfl, rfl, rfl, rfl⟩
  · simp only [u, currentSample_limit hhold hlimit htrip]
    exact startSearch_sheds hhold (hv.fits.idle (by rw [hhold]; exact nofun)) hlist
  · have hu : u = _ := (currentSample_measure hstate hphase htrip).trans (measure_fell hi hb hfell)
    obtain ⟨hhold, hfail⟩ := finding_short s i
    obtain ⟨hhold', hstate', hcause'⟩ := (measure_zonal (s := s) (z := z) (ma := ma) i).held i
    rw [hu]
    refine ⟨hhold'.trans hhold, fun harmed => ⟨hstate'.trans (hfail harmed).1, hcause'.trans (hfail harmed).2⟩, fun hlimit => ?_⟩
    have hfound : s.Rerailed z ((s.finding i .short).reportZone z (.searchCulprit i)) (s.zone z).rail (s.zone z).search :=
      ((State.Rerailed.refl s z).zones (finding_turns s i .short).checked.zones).works (reportZone_works ..)
    obtain ⟨-, -, hup, -⟩ := hv
    dsimp only
    rw [if_pos hlimit]
    refine clearSearch_holds fun e => ?_
    rw [hfound.rail] at e
    exact absurd ((hup e).symm.trans hstate) nofun
  · have hu : u = s.shedNext z :=
      ((currentSample_measure hstate hphase htrip).trans (measure_stands hi hb hstands)).trans (searchOn_shed hpending)
    obtain ⟨hhold, hstate, -⟩ := (shedNext_zonal s z).held i
    rw [hu]
    refine ⟨?_, hhold, hstate⟩
    exact (shedNext_rerailed hpending).search.trans (congrArg (fun baseline : Option Nat =>
      ({ phase := .settling, candidate := some j, baseline, pending := rest, settleTimer := true } : Search)) hb)

end Sys2Proof.Machine
end

/-! ## A promotion (10_step_control.md R160): what the rails and the heat controller leave of the lanes -/

section
namespace Sys2Proof.Machine

variable (s : State)

/-- The PRBS check and the toggle watch of every lane, whose windows cycles fill (R147, R149). -/
def State.windows (s : State) : LaneId → PrbsCheck × ToggleWatch := fun n => ((s.lane n).prbs, (s.lane n).watch)

theorem windows_of_lanes {s t : State} (h : t.lanes = s.lanes) : t.windows = s.windows := funext fun n => by
  simp only [State.windows, State.lane, h]

theorem forEach_windows {α : Type} {xs : List α} {f : α → State → State} (h : ∀ x s, (f x s).windows = s.windows) :
    (forEach xs f s).windows = s.windows :=
  forEach_keeps (P := fun t => t.windows = s.windows) (fun x _ t ht => (h x t).trans ht) rfl

theorem forEachFreely_windows {α : Type} {xs : List α} {f : α → State → State} (h : ∀ x s, (f x s).windows = s.windows) :
    (forEachFreely xs f s).windows = s.windows :=
  forEachFreely_keeps (P := fun t => t.windows = s.windows) (fun _ _ ht => ht) (fun x _ t ht => (h x t).trans ht) rfl

@[simp] theorem updZone_windows (z : ZoneId) (f : Zone → Zone) : (s.updZone z f).windows = s.windows := rfl

@[simp] theorem report_windows (r : Record) : (s.report r).windows = s.windows := funext fun n => by
  simp only [State.windows, report_lane]

@[simp] theorem notice_windows (l : Latch) (named : ZoneId → Bool) : (s.notice l named).windows = s.windows := rfl

theorem laneSwitched_windows (l : Lane) (was on : Bool) :
    (l.switched was on).prbs = l.prbs ∧ (l.switched was on).watch = l.watch := by
  unfold Lane.switched
  (repeat' split) <;> exact ⟨rfl, rfl⟩

@[simp] theorem evaluateSwitches_windows (named : SocketId → Bool) : (s.evaluateSwitches named).windows = s.windows :=
  funext fun n => by
    simp only [State.windows, evaluateSwitches_lane]
    split
    · obtain ⟨hprbs, hwatch⟩ := laneSwitched_windows (s.lane n) (s.socket (laneSocket n)).switch (s.switchRule (laneSocket n))
      rw [hprbs, hwatch]
    · rfl

@[simp] theorem enterRail_windows (z : ZoneId) (new : RailState) : (s.enterRail z new).windows = s.windows := by
  simp only [State.enterRail]
  (repeat' split) <;> simp [State.noticeZone, State.evaluateZoneSwitches]

@[simp] theorem testStopping_windows : s.testStopping.windows = s.windows := by
  simp only [State.testStopping]
  split
  · exact report_windows ..
  · rfl

@[simp] theorem startPowerUp_windows (z : ZoneId) : (s.startPowerUp z).windows = s.windows := by
  simp [State.startPowerUp, State.updRail, State.updValues]

@[simp] theorem retestAllUp_windows : s.retestAllUp.windows = s.windows :=
  forEach_windows s fun z t => by
    rw [State.retestUp]
    split
    · exact startPowerUp_windows ..
    · rfl

@[simp] theorem beginPowerDown_windows (z : ZoneId) : (s.beginPowerDown z).windows = s.windows := by
  simp only [State.beginPowerDown, State.abandonSearch, State.endSearchAbandoned, State.enterOff]
  (repeat' split) <;> simp [State.updRail, State.updSearch, State.reportZone]

theorem retestDown_windows (fuel : Nat) : (State.retestDown fuel s).windows = s.windows := by
  induction fuel generalizing s with
  | zero => rfl
  | succ fuel ih =>
    have h : (freely (allZones.filter fun z => s.readyDown z) s).2.windows = s.windows := by rw [freely_state]; rfl
    unfold State.retestDown
    split <;> rename_i e <;> rw [e] at h
    · exact h
    · rw [ih, beginPowerDown_windows]; exact h

@[simp] theorem retestAllDown_windows : s.retestAllDown.windows = s.windows := retestDown_windows ..

@[simp] theorem trip_windows (z : ZoneId) (c : TripCause) : (s.trip z c).windows = s.windows := by
  have houtput : ∀ t : State, t.evaluateOutput.windows = t.windows := fun _ => rfl
  simp only [State.trip, State.endSearchAbandoned]
  (repeat' split) <;> simp [houtput, State.updRail, State.updSearch, State.reportZone]

@[simp] theorem goalChange_windows (z : ZoneId) : (s.goalChange z).windows = s.windows := by
  simp only [State.goalChange, State.tryPowerUp, State.redirect, State.enterConfirming, State.abandonSearch,
    State.endSearchAbandoned]
  (repeat' split) <;> simp [State.updRail, State.updSearch, State.reportZone]

@[simp] theorem formGoals_windows (goals : ZoneId → Option Nat) : (s.formGoals goals).windows = s.windows :=
  forEachFreely_windows (s.setGoals goals) fun z t => goalChange_windows t z

@[simp] theorem place_windows (z : ZoneId) (target : Int) (t : Option Int) : (s.place z target t).windows = s.windows := by
  have houtput : ∀ t : State, t.evaluateOutput.windows = t.windows := fun _ => rfl
  simp only [State.place, State.enterBlind, State.enterOvertemp, State.enterSide, State.enterSoaking, State.enterStable,
    State.leaveStable]
  (repeat' split) <;> simp [houtput, State.updHeat, State.reportZone, State.noticeZone]

@[simp] theorem targetChange_windows (z : ZoneId) (target : Option Int) : (s.targetChange z target).windows = s.windows := by
  simp only [State.targetChange, State.leaveStable, State.heatOff]
  (repeat' split) <;> simp [State.updHeat, State.updValues, State.noticeZone]

@[simp] theorem formTargets_windows (targets : ZoneId → Option Int) : (s.formTargets targets).windows = s.windows :=
  forEachFreely_windows s fun z t => targetChange_windows t z _

end Sys2Proof.Machine
end

/-! ## The rails at a promotion (05_zone_rails.md R73, R74, R77, R78): the course of each zone while the goals are taken -/

section
namespace Sys2Proof.Machine

/-! ### What the rails make of their goals, zone by zone -/

section Moves

variable {s : State} {z : ZoneId}

/-- Leaving HOLD disturbs the zone (R22). -/
theorem enterRail_latch (h : (s.zone z).rail.state = .hold) {new : RailState} (hnew : new ≠ .hold) :
    ((s.enterRail z new).zone z).latches.rail = true := by
  have hentered : ((s.railEntered z new).zone z).latches.rail = true := by
    rw [State.railEntered, if_pos ⟨h, hnew⟩, noticeZone_latches]
    rfl
  rw [enterRail_eq]
  split <;> exact hentered

theorem startPowerUp_timers :
    ((s.startPowerUp z).zone z).values.voltageTimer = true ∧ ((s.startPowerUp z).zone z).values.currentTimer = true := by
  rw [State.startPowerUp, enterRail_zone_same, State.updValues_zone_same]
  exact ⟨rfl, rfl⟩

theorem enterConfirming_recedes (s : State) (z : ZoneId) : s.Recedes (s.enterConfirming z) :=
  (updRail_recedes s z _).trans (enterRail_recedes ..)

theorem redirect_latch (h : (s.zone z).rail.state = .hold) : ((s.redirect z).zone z).latches.rail = true := by
  have hsearch : ¬ (s.zone z).rail.state = .searching := by rw [h]; exact nofun
  unfold State.redirect
  dsimp only
  rw [if_neg hsearch, if_pos h]
  have hentered : (((s.updRail z fun r => { r with oowCount := 0 }).updRail z fun r =>
      { r with waiting := .none, rampTimer := true, confirmTimer := false }).zone z).rail.state = .hold := by
    rw [State.updRail_zone_same, State.updRail_zone_same]
    exact h
  have hlatch := enterRail_latch hentered (new := .ramping) nofun
  generalize ((_ : State).updRail z fun r =>
    { r with waiting := .none, rampTimer := true, confirmTimer := false }).enterRail z .ramping = t at hlatch ⊢
  exact ((ite_recedes (enterConfirming_recedes t z)).latches z).1 hlatch

theorem beginPowerDown_latch (h : (s.zone z).rail.state = .hold) : ((s.beginPowerDown z).zone z).latches.rail = true := by
  have hsearch : ¬ (s.zone z).rail.state = .searching := by rw [h]; exact nofun
  unfold State.beginPowerDown
  dsimp only
  rw [if_neg hsearch]
  have hentered : ((s.updRail z fun r =>
      { r with waiting := .none, rampTimer := true, confirmTimer := false }).zone z).rail.state = .hold := by
    rw [State.updRail_zone_same]
    exact h
  have hlatch := enterRail_latch hentered (new := .ramping) nofun
  generalize (s.updRail z fun r =>
    { r with waiting := .none, rampTimer := true, confirmTimer := false }).enterRail z .ramping = t at hlatch ⊢
  exact ((ite_recedes (enterOff_recedes t z)).latches z).1 hlatch

theorem enterConfirming_other (s : State) {w : ZoneId} (h : z ≠ w) : (s.enterConfirming w).zone z = s.zone z := by
  rw [State.enterConfirming, enterRail_zone_other _ h, State.updRail, State.updZone_zone, if_neg h.symm]

theorem redirect_zone_other (s : State) {w : ZoneId} (h : z ≠ w) : (s.redirect w).zone z = s.zone z := by
  have habandon : (s.abandonSearch w).zone z = s.zone z := endSearchAbandoned_zone_other s h
  have hrail : ∀ (t : State) (f : Rail → Rail), (t.updRail w f).zone z = t.zone z := fun t f => by
    rw [State.updRail, State.updZone_zone, if_neg h.symm]
  unfold State.redirect
  dsimp only
  (repeat' split) <;> simp only [enterConfirming_other _ h, enterRail_zone_other _ h, hrail, habandon]

theorem takeGoal_tripped (h : (s.zone z).rail.state = .tripped) : s.takeGoal z = s := by
  simp only [State.takeGoal, h]

theorem takeGoal_up (h : (s.zone z).rail.state = .off) (hg : (s.zone z).rail.goal.isSome = true) :
    s.takeGoal z = s.tryPowerUp z := by
  simp only [State.takeGoal, h, hg]

theorem takeGoal_off (h : (s.zone z).rail.state = .off) (hg : (s.zone z).rail.goal.isSome = false) :
    s.takeGoal z = s.updRail z fun r => { r with waiting := .none } := by
  simp only [State.takeGoal, h, hg]

theorem powered_cases {r : RailState} (h : r.powered = true) : r = .ramping ∨ r = .confirming ∨ r = .hold ∨ r = .searching := by
  cases r <;> simp_all [RailState.powered]

theorem takeGoal_redirect (h : (s.zone z).rail.state.powered = true) (hg : (s.zone z).rail.goal.isSome = true) :
    s.takeGoal z = s.redirect z := by
  rcases powered_cases h with hs | hs | hs | hs <;> simp only [State.takeGoal, hs, hg]

theorem takeGoal_down (h : (s.zone z).rail.state.powered = true) (hg : (s.zone z).rail.goal.isSome = false) :
    s.takeGoal z =
      if s.mayStop z then s.beginPowerDown z
      else s.updRail z fun r =>
        { r with waiting := .powerDown, rampTimer := r.rampTimer && !decide (r.state = RailState.ramping) } := by
  rcases powered_cases h with hs | hs | hs | hs <;> simp only [State.takeGoal, hs, hg]

/-- A rail that takes its goal moves its own zone alone. -/
theorem takeGoal_zone_other (s : State) {w : ZoneId} (h : z ≠ w) : (s.takeGoal w).zone z = s.zone z := by
  have hrail : ∀ f : Rail → Rail, (s.updRail w f).zone z = s.zone z := fun f => by
    rw [State.updRail, State.updZone_zone, if_neg h.symm]
  unfold State.takeGoal
  dsimp only
  split
  · rfl
  · exact tryPowerUp_zone_other s h
  · exact hrail _
  · exact redirect_zone_other s h
  · split
    · exact beginPowerDown_zone_other s h
    · exact hrail _

theorem takeGoal_setup (s : State) (z : ZoneId) : (s.takeGoal z).setup = s.setup := by
  unfold State.takeGoal
  dsimp only
  (repeat' split) <;> simp

end Moves

end Sys2Proof.Machine
end

section
namespace Sys2Proof.Machine

/-! ### The course of a zone -/

variable (s : State) (goals : ZoneId → Option Nat)

/-- The rail record of a zone as it stood, with its new goal. -/
def State.aim (z : ZoneId) : Rail := { (s.zone z).rail with goal := goals z }

/-- A zone before this one will have a goal, and its rail is not in HOLD: this one may not start (R73). -/
def State.BlockedUp (z : ZoneId) : Prop := ∃ w ∈ s.ordersBefore z, goals w ≠ none ∧ (s.zone w).rail.state ≠ .hold

/-- Every zone before this one will have no goal, or stays in HOLD: this one may start (R73). -/
def State.FreeUp (z : ZoneId) : Prop :=
  ∀ w ∈ s.ordersBefore z, goals w = none ∨ ((s.zone w).rail.state = .hold ∧ goals w = (s.zone w).rail.goal)

/-- A zone after this one is powered and will have a goal: this one may not power down (R78). -/
def State.BlockedDown (z : ZoneId) : Prop := ∃ w ∈ s.ordersAfter z, (s.zone w).rail.state.powered = true ∧ goals w ≠ none

/-- What a zone may look like while the goals are taken, and whether it has taken its own. One that waited may be taken up or
down by a test that another zone makes, before its own turn and after it. -/
inductive State.Course (z : ZoneId) (taken : Prop) (v : Zone) : Prop
  | untaken (h : ¬ taken) (rail : v.rail = s.aim goals z)
  | noted (h : taken) (off : (s.zone z).rail.state.powered = false)
      (goal : goals z = none ∨ (s.zone z).rail.state = .tripped) (rail : v.rail = { s.aim goals z with waiting := .none })
  | started (off : (s.zone z).rail.state = .off) (goal : goals z ≠ none) (may : ¬ s.BlockedUp goals z)
      (h : taken ∨ (s.zone z).rail.waiting = .powerUp) (rail : v.rail = (s.aim goals z).poweredUp)
      (timers : v.values.voltageTimer = true ∧ v.values.currentTimer = true)
  | waitsUp (h : taken) (off : (s.zone z).rail.state = .off) (goal : goals z ≠ none) (may : ¬ s.FreeUp goals z)
      (rail : v.rail = { s.aim goals z with waiting := .powerUp })
  | redirected (h : taken) (on : (s.zone z).rail.state.powered = true) (goal : goals z ≠ none)
      (rail : v.rail = (s.aim goals z).redirected) (search : v.search = {})
      (latch : (s.zone z).rail.state = .hold → v.latches.rail = true)
  | lowered (on : (s.zone z).rail.state.powered = true) (goal : goals z = none) (unlisted : z ∉ s.order)
      (h : taken ∨ (s.zone z).rail.waiting = .powerDown) (rail : v.rail = (s.aim goals z).poweredDown) (search : v.search = {})
      (latch : (s.zone z).rail.state = .hold → v.latches.rail = true)
  | waitsDown (h : taken) (on : (s.zone z).rail.state.powered = true) (goal : goals z = none) (may : s.BlockedDown goals z)
      (rail : v.rail = { s.aim goals z with waiting := .powerDown, rampTimer := false })
  | adrift (on : (s.zone z).rail.state.powered = true) (goal : goals z = none) (listed : z ∈ s.order)
      (may : ¬ s.BlockedDown goals z) (h : taken ∨ (s.zone z).rail.waiting = .powerDown) (none : v.rail.goal = none)
      (hold : v.rail.state = .hold → (s.zone z).rail.state = .hold)

variable {s goals} {z : ZoneId} {taken : Prop} {v : Zone}

theorem poweredDown_state (r : Rail) : r.poweredDown.state = if r.setpoint = 0 then .off else .ramping := by
  rw [Rail.poweredDown]; split <;> rfl

theorem poweredDown_goal (r : Rail) : r.poweredDown.goal = r.goal := by rw [Rail.poweredDown]; split <;> rfl

theorem poweredDown_waiting (r : Rail) : r.poweredDown.waiting = .none := by rw [Rail.poweredDown]; split <;> rfl

theorem redirected_state (r : Rail) : r.redirected.state = if r.goal = some r.setpoint then .confirming else .ramping := by
  rw [Rail.redirected]
  split <;> rfl

theorem redirected_goal (r : Rail) : r.redirected.goal = r.goal := by rw [Rail.redirected]; split <;> rfl

theorem redirected_waiting (r : Rail) : r.redirected.waiting = .none := by rw [Rail.redirected]; split <;> rfl

namespace State.Course

/-- In each case the zone has its new goal. -/
theorem rail_goal (k : s.Course goals z taken v) : v.rail.goal = goals z := by
  cases k with
  | untaken _ rail | noted _ _ _ rail | started _ _ _ _ rail | waitsUp _ _ _ _ rail | waitsDown _ _ _ _ rail => rw [rail]; rfl
  | redirected _ _ _ rail => rw [rail, redirected_goal]; rfl
  | lowered _ _ _ _ rail => rw [rail, poweredDown_goal]; rfl
  | adrift _ goal _ _ _ none => rw [none, goal]

/-- No zone enters HOLD. -/
theorem of_hold (k : s.Course goals z taken v) (h : v.rail.state = .hold) : (s.zone z).rail.state = .hold := by
  cases k with
  | untaken _ rail | noted _ _ _ rail | waitsUp _ _ _ _ rail | waitsDown _ _ _ _ rail => rw [rail] at h; exact h
  | started _ _ _ _ rail => rw [rail] at h; exact nomatch h
  | redirected _ _ _ rail => rw [rail, redirected_state] at h; split at h <;> exact nomatch h
  | lowered _ _ _ _ rail => rw [rail, poweredDown_state] at h; split at h <;> exact nomatch h
  | adrift _ _ _ _ _ _ hold => exact hold h

/-- A zone in HOLD that keeps its goal stays in HOLD. -/
theorem steady (k : s.Course goals z taken v) (h : ¬ taken) (hold : (s.zone z).rail.state = .hold) (hg : goals z ≠ none) :
    v.rail.state = .hold := by
  cases k with
  | untaken _ rail => rw [rail]; exact hold
  | noted h' | waitsUp h' | redirected h' | waitsDown h' => exact absurd h' h
  | started off => exact absurd (off.symm.trans hold) nofun
  | lowered _ goal | adrift _ goal => exact absurd goal hg

/-- A powered zone with a goal stays powered. -/
theorem powered (k : s.Course goals z taken v) (on : (s.zone z).rail.state.powered = true) (hg : goals z ≠ none) :
    v.rail.state.powered = true := by
  cases k with
  | untaken _ rail => rw [rail]; exact on
  | noted _ off => rw [off] at on; exact nomatch on
  | started off | waitsUp _ off => rw [off] at on; exact nomatch on
  | redirected _ _ _ rail => rw [rail, redirected_state]; split <;> rfl
  | lowered _ goal | waitsDown _ _ goal | adrift _ goal => exact absurd goal hg

/-- What leaves rail and search, and takes back no timer and no latch, leaves the course. -/
theorem mono (k : s.Course goals z taken v) {w : Zone} (hr : w.rail = v.rail) (hq : w.search = v.search)
    (ht : v.values.RunsOn w.values) (hl : v.latches.Within w.latches) : s.Course goals z taken w := by
  cases k with
  | untaken h rail => exact .untaken h (hr.trans rail)
  | noted h off goal rail => exact .noted h off goal (hr.trans rail)
  | started off goal may h rail timers =>
    exact .started off goal may h (hr.trans rail) ⟨ht.timer .voltage timers.1, ht.timer .current timers.2⟩
  | waitsUp h off goal may rail => exact .waitsUp h off goal may (hr.trans rail)
  | redirected h on goal rail search latch => exact .redirected h on goal (hr.trans rail) (hq.trans search) (hl.1 ∘ latch)
  | lowered on goal unlisted h rail search latch =>
    exact .lowered on goal unlisted h (hr.trans rail) (hq.trans search) (hl.1 ∘ latch)
  | waitsDown h on goal may rail => exact .waitsDown h on goal may (hr.trans rail)
  | adrift on goal listed may h none hold => exact .adrift on goal listed may h (by rw [hr, none]) (by rw [hr]; exact hold)

end State.Course

/-! ### The state while the goals are taken -/

variable (s goals) in
/-- Every zone is on its course, and those of `taken` have taken their goals. -/
structure State.Underway (taken : ZoneId → Prop) (t : State) : Prop where
  rails : t.RailsConsistent
  order : t.order = s.order
  course (z : ZoneId) : s.Course goals z (taken z) (t.zone z)

namespace State.Underway

variable {taken taken' : ZoneId → Prop} {t u : State}

theorem ordersBefore (k : s.Underway goals taken t) (z : ZoneId) : t.ordersBefore z = s.ordersBefore z := by
  simp only [State.ordersBefore, k.order]

theorem ordersAfter (k : s.Underway goals taken t) (z : ZoneId) : t.ordersAfter z = s.ordersAfter z := by
  simp only [State.ordersAfter, k.order]

/-- A zone that may start is not blocked. -/
theorem not_blockedUp (k : s.Underway goals taken t) (h : t.mayStart z = true) : ¬ s.BlockedUp goals z := by
  rintro ⟨w, hw, hgoal, hhold⟩
  rw [State.mayStart, k.ordersBefore] at h
  have hw' := List.all_eq_true.mp h w hw
  rw [(k.course w).rail_goal, Bool.or_eq_true, Option.isNone_iff_eq_none, decide_eq_true_eq] at hw'
  exact hw'.elim hgoal fun e => hhold ((k.course w).of_hold e)

/-- A free zone may start. -/
theorem mayStart (k : s.Underway goals taken t) (hnew : ∀ w, taken w → goals w ≠ (s.zone w).rail.goal) (h : s.FreeUp goals z) :
    t.mayStart z = true := by
  rw [State.mayStart, k.ordersBefore]
  refine List.all_eq_true.mpr fun w hw => ?_
  rw [(k.course w).rail_goal, Bool.or_eq_true, Option.isNone_iff_eq_none, decide_eq_true_eq]
  by_cases hg : goals w = none
  · exact .inl hg
  · obtain ⟨hhold, hsame⟩ := (h w hw).resolve_left hg
    exact .inr ((k.course w).steady (fun ht => hnew w ht hsame) hhold hg)

/-- A zone that may power down is not blocked. -/
theorem not_blockedDown (k : s.Underway goals taken t) (h : t.mayStop z = true) : ¬ s.BlockedDown goals z := by
  rintro ⟨w, hw, hon, hgoal⟩
  rw [State.mayStop, k.ordersAfter] at h
  have hw' := List.all_eq_true.mp h w hw
  rw [(k.course w).powered hon hgoal] at hw'
  exact nomatch hw'

/-- A zone out of the list may power down. -/
theorem mayStop (k : s.Underway goals taken t) (h : z ∉ s.order) : t.mayStop z = true := by
  have hdrop : s.order.dropWhile (· != z) = [] := List.dropWhile_eq_nil_iff.mpr fun w hw => by
    simpa using fun e : w = z => h (e ▸ hw)
  rw [State.mayStop, k.ordersAfter, State.ordersAfter, hdrop]
  rfl

/-- A move of one zone along its course. -/
theorem move (k : s.Underway goals taken t) (hrails : u.RailsConsistent) (hsetup : u.setup = t.setup)
    (hother : ∀ w, w ≠ z → u.zone w = t.zone w) (htaken : ∀ w, w ≠ z → (taken' w ↔ taken w))
    (hz : s.Course goals z (taken' z) (u.zone z)) : s.Underway goals taken' u where
  rails := hrails
  order := (congrArg Setup.order hsetup).trans k.order
  course w := by
    by_cases hw : w = z
    · exact hw ▸ hz
    · rw [hother w hw, propext (htaken w hw)]; exact k.course w

end State.Underway

end Sys2Proof.Machine
end

section
namespace Sys2Proof.Machine

variable {s t u : State} {goals : ZoneId → Option Nat} {z : ZoneId} {taken : ZoneId → Prop}

/-! ### Tests of waiting zones keep every zone on its course -/

theorem readyUp_parts (h : t.readyUp z = true) :
    (t.zone z).rail.waiting = .powerUp ∧ (t.zone z).rail.goal.isSome = true ∧ t.mayStart z = true := by
  simpa only [State.readyUp, Bool.and_eq_true, decide_eq_true_eq, and_assoc] using h

theorem readyDown_parts (h : t.readyDown z = true) :
    (t.zone z).rail.waiting = .powerDown ∧ (t.zone z).rail.goal.isNone = true ∧ t.mayStop z = true := by
  simpa only [State.readyDown, Bool.and_eq_true, decide_eq_true_eq, and_assoc] using h

namespace State.Underway

theorem startPowerUp (k : s.Underway goals taken t) (hready : t.readyUp z = true) :
    s.Underway goals taken (t.startPowerUp z) := by
  obtain ⟨hwaits, hgoal, hmay⟩ := readyUp_parts hready
  have hoff := readyUp_off k.rails hready
  have hfree := k.not_blockedUp hmay
  have hrail := (startPowerUp_rerailed (s := t) (z := z)).rail
  have htimers := startPowerUp_timers (s := t) (z := z)
  refine k.move (startPowerUp_rails k.rails hoff) (startPowerUp_setup t z) (fun w hw => startPowerUp_zone_other t hw)
    (fun _ _ => .rfl) ?_
  have hsome : goals z ≠ none := by rw [← (k.course z).rail_goal]; exact Option.isSome_iff_ne_none.mp hgoal
  cases k.course z with
  | untaken _ rail =>
    rw [rail] at hwaits hoff hrail
    exact .started hoff hsome hfree (.inr hwaits) hrail htimers
  | waitsUp h off _ _ rail =>
    rw [rail] at hrail
    exact .started off hsome hfree (.inl h) hrail htimers
  | noted _ _ _ rail | waitsDown _ _ _ _ rail | started _ _ _ _ rail => rw [rail] at hwaits; exact nomatch hwaits
  | redirected _ _ _ rail => rw [rail, redirected_waiting] at hwaits; exact nomatch hwaits
  | lowered _ goal | adrift _ goal => exact absurd goal hsome

theorem beginPowerDown (k : s.Underway goals taken t) (hready : t.readyDown z = true) :
    s.Underway goals taken (t.beginPowerDown z) := by
  obtain ⟨hwaits, hgoal, hmay⟩ := readyDown_parts hready
  have hon := readyDown_on k.rails hready
  have hopen := k.not_blockedDown hmay
  have hdown := beginPowerDown_rerailed (s := t) (z := z)
  have hrail := hdown.rail
  have hsearch := hdown.search.trans (searchLeft_idle (k.rails z))
  refine k.move (beginPowerDown_rails k.rails hon) (beginPowerDown_setup t z) (fun w hw => beginPowerDown_zone_other t hw)
    (fun _ _ => .rfl) ?_
  have hnone : goals z = none := by rw [← (k.course z).rail_goal]; exact Option.isNone_iff_eq_none.mp hgoal
  cases hc : k.course z with
  | untaken _ rail =>
    have hlatch := beginPowerDown_latch (s := t) (z := z)
    rw [rail] at hwaits hon hrail hlatch
    by_cases hlisted : z ∈ s.order
    · refine .adrift hon hnone hlisted hopen (.inr hwaits) ?_ fun e => ?_
      · rw [hrail, poweredDown_goal]; exact hnone
      · rw [hrail, poweredDown_state] at e; split at e <;> exact nomatch e
    · exact .lowered hon hnone hlisted (.inr hwaits) hrail hsearch hlatch
  | noted _ _ _ rail | started _ _ _ _ rail | waitsUp _ _ _ _ rail => rw [rail] at hwaits; exact nomatch hwaits
  | redirected _ _ _ rail => rw [rail, redirected_waiting] at hwaits; exact nomatch hwaits
  | lowered _ _ _ _ rail => rw [rail, poweredDown_waiting] at hwaits; exact nomatch hwaits
  | waitsDown _ _ _ may => exact absurd may hopen
  | adrift on _ listed may h none =>
    refine .adrift on hnone listed may h ?_ fun e => ?_
    · rw [hrail, poweredDown_goal]; exact none
    · rw [hrail, poweredDown_state] at e; split at e <;> exact nomatch e

theorem free (k : s.Underway goals taken t) (n : Nat) : s.Underway goals taken { t with freeIndex := n } :=
  ⟨k.rails, k.order, k.course⟩

theorem retestAllUp (k : s.Underway goals taken t) : s.Underway goals taken t.retestAllUp :=
  forEach_keeps (P := s.Underway goals taken) (fun z _ t k => by
    rw [State.retestUp]
    split
    · exact k.startPowerUp ‹_›
    · exact k) k

theorem retestDown (k : s.Underway goals taken t) (fuel : Nat) : s.Underway goals taken (State.retestDown fuel t) := by
  induction fuel generalizing t with
  | zero => exact k
  | succ fuel ih =>
    have hfree : s.Underway goals taken (freely (allZones.filter fun z => t.readyDown z) t).2 := by
      rw [freely_state]; exact k.free _
    have hready : ∀ z, (freely (allZones.filter fun z => t.readyDown z) t).2.readyDown z = t.readyDown z := fun z => by
      rw [freely_state]; rfl
    have hperm := freely_perm (allZones.filter fun z => t.readyDown z) t
    unfold State.retestDown
    split <;> rename_i e <;> rw [e] at hfree hready hperm
    · exact hfree
    · exact ih (hfree.beginPowerDown ((hready _).trans (List.mem_filter.mp (hperm.subset List.mem_cons_self)).2))

theorem retestAllDown (k : s.Underway goals taken t) : s.Underway goals taken t.retestAllDown := k.retestDown 4

end State.Underway

/-! ### A zone takes its goal -/

/-- A rail that stands powered up with a goal above 0 is redirected to where it stands (R77). -/
theorem poweredUp_redirected {r : Rail} (hg : r.goal ≠ some 0) (hc : r.confirmTimer = false) :
    r.poweredUp.redirected = r.poweredUp := by
  have hne : ¬ r.poweredUp.goal = some r.poweredUp.setpoint := hg
  rw [Rail.redirected, if_neg hne]
  simp [Rail.turned, Rail.poweredUp, hc]

theorem poweredDown_ended {r : Rail} (h : r.setpoint = 0) : r.poweredDown = r.turned.ended := by rw [Rail.poweredDown, if_pos h]

theorem poweredDown_turned {r : Rail} (h : r.setpoint ≠ 0) : r.poweredDown = r.turned := by rw [Rail.poweredDown, if_neg h]

/-- A rail that is neither OFF nor powered is TRIPPED. -/
theorem tripped_or_off {r : RailState} (h : r.powered = false) : r = .tripped ∨ r = .off := by
  cases r <;> simp_all [RailState.powered]

section Turn

variable {p q : Prop}

/-- A rail without power takes its goal (R73). -/
theorem takeGoal_unpowered (k : s.Underway goals taken t) (hs : (s.zone z).RailConsistent)
    (hnew : ∀ w, taken w → goals w ≠ (s.zone w).rail.goal) (hq : q) (rail : (t.zone z).rail = s.aim goals z)
    (hoff : (s.zone z).rail.state.powered = false) : s.Course goals z q ((t.takeGoal z).zone z) := by
  obtain ⟨-, -, hup, hdown, -⟩ := hs
  rcases tripped_or_off hoff with htripped | hstate
  · have hwaits : (s.zone z).rail.waiting = .none := by
      cases hw : (s.zone z).rail.waiting with
      | none => rfl
      | powerUp => exact absurd ((hup hw).symm.trans htripped) nofun
      | powerDown => exact absurd ((hdown hw).symm.trans hoff) nofun
    rw [takeGoal_tripped (by rw [rail]; exact htripped)]
    refine .noted hq hoff (.inr htripped) (rail.trans ?_)
    rw [← hwaits]
    rfl
  · have hoff' : (t.zone z).rail.state = .off := by rw [rail]; exact hstate
    by_cases hgoal : goals z = none
    · rw [takeGoal_off hoff' (by rw [rail]; exact Option.isSome_eq_false_iff.mpr (Option.isNone_iff_eq_none.mpr hgoal))]
      exact .noted hq hoff (.inl hgoal) (by rw [State.updRail_zone_same, rail])
    · rw [takeGoal_up hoff' (by rw [rail]; exact Option.isSome_iff_ne_none.mpr hgoal)]
      have htried := (tryPowerUp_rerailed (s := t) (z := z)).rail
      rw [rail, Rail.tried] at htried
      cases hmay : t.mayStart z with
      | true =>
        rw [hmay, if_pos rfl] at htried
        refine .started hstate hgoal (k.not_blockedUp hmay) (.inl hq) htried ?_
        rw [State.tryPowerUp, if_pos hmay]
        exact startPowerUp_timers
      | false =>
        rw [hmay, if_neg nofun] at htried
        exact .waitsUp hq hstate hgoal (fun h => by simp [k.mayStart hnew h] at hmay) htried

/-- A powered rail takes a present goal (R77). -/
theorem takeGoal_redirected (k : s.Underway goals taken t) (hq : q) (rail : (t.zone z).rail = s.aim goals z)
    (hon : (s.zone z).rail.state.powered = true) (hgoal : goals z ≠ none) :
    s.Course goals z q ((t.takeGoal z).zone z) := by
  have hredirected := redirect_rerailed (s := t) (z := z)
  have hlatch := redirect_latch (s := t) (z := z)
  rw [takeGoal_redirect (by rw [rail]; exact hon) (by rw [rail]; exact Option.isSome_iff_ne_none.mpr hgoal)]
  rw [rail] at hlatch
  exact .redirected hq hon hgoal (by rw [hredirected.rail, rail]) (hredirected.search.trans (searchLeft_idle (k.rails z))) hlatch

/-- A powered rail whose goal has gone powers down, or waits to (R78). -/
theorem takeGoal_lowered (k : s.Underway goals taken t) (hs : (s.zone z).RailConsistent) (hq : q)
    (rail : (t.zone z).rail = s.aim goals z) (hon : (s.zone z).rail.state.powered = true) (hgoal : goals z = none) :
    s.Course goals z q ((t.takeGoal z).zone z) := by
  have hdown := beginPowerDown_rerailed (s := t) (z := z)
  have hlatch := beginPowerDown_latch (s := t) (z := z)
  rw [rail] at hlatch
  rw [takeGoal_down (by rw [rail]; exact hon)
    (by rw [rail]; exact Option.isSome_eq_false_iff.mpr (Option.isNone_iff_eq_none.mpr hgoal))]
  cases hmay : t.mayStop z with
  | true =>
    rw [if_pos rfl]
    by_cases hlisted : z ∈ s.order
    · refine .adrift hon hgoal hlisted (k.not_blockedDown hmay) (.inl hq) ?_ fun e => ?_
      · rw [hdown.rail, rail, poweredDown_goal]; exact hgoal
      · rw [hdown.rail, poweredDown_state] at e; split at e <;> exact nomatch e
    · exact .lowered hon hgoal hlisted (.inl hq) (by rw [hdown.rail, rail])
        (hdown.search.trans (searchLeft_idle (k.rails z))) hlatch
  | false =>
    have hlisted : z ∈ s.order := Decidable.not_not.mp fun h => by simp [k.mayStop h] at hmay
    have htimer : ((s.aim goals z).rampTimer && !decide ((s.aim goals z).state = RailState.ramping)) = false := by
      obtain ⟨-, -, -, -, -, -, -, hramp, -⟩ := hs
      cases ht : (s.aim goals z).rampTimer with
      | false => rfl
      | true => rw [show (s.aim goals z).state = .ramping from hramp ht]; rfl
    rw [if_neg nofun]
    have hwaits : ((t.updRail z fun r =>
        { r with waiting := .powerDown, rampTimer := r.rampTimer && !decide (r.state = RailState.ramping) }).zone z).rail =
        { s.aim goals z with waiting := .powerDown, rampTimer := false } := by
      rw [State.updRail_zone_same, rail, htimer]
    by_cases hblocked : s.BlockedDown goals z
    · exact .waitsDown hq hon hgoal hblocked hwaits
    · refine .adrift hon hgoal hlisted hblocked (.inl hq) ?_ fun e => ?_
      · rw [hwaits]; exact hgoal
      · rw [hwaits] at e; exact e

/-- A rail that a test had started takes its goal: it stands as it is (R77). -/
theorem takeGoal_started (hs : (s.zone z).RailConsistent) (hpos : goals z ≠ some 0) (hq : q)
    (hoff : (s.zone z).rail.state = .off) (hgoal : goals z ≠ none) (hmay : ¬ s.BlockedUp goals z)
    (rail : (t.zone z).rail = (s.aim goals z).poweredUp)
    (timers : (t.zone z).values.voltageTimer = true ∧ (t.zone z).values.currentTimer = true) :
    s.Course goals z q ((t.takeGoal z).zone z) := by
  have hon : (t.zone z).rail.state.powered = true := by rw [rail]; rfl
  have hvalues := (redirect_attends (x := fun _ _ => True) t z hon).values z
  have hconfirm : (s.aim goals z).confirmTimer = false := by
    obtain ⟨-, -, -, -, -, -, -, -, hconfirm⟩ := hs
    exact hconfirm.trans (by rw [hoff]; rfl)
  rw [takeGoal_redirect hon (by rw [rail]; exact Option.isSome_iff_ne_none.mpr hgoal)]
  refine .started hoff hgoal hmay (.inl hq) ?_ ⟨hvalues.timer .voltage timers.1, hvalues.timer .current timers.2⟩
  rw [redirect_rerailed.rail, rail, poweredUp_redirected hpos hconfirm]

/-- A rail that a test had powered down takes its absent goal: it stands as it is (R78). -/
theorem takeGoal_lowered_again (k : s.Underway goals taken t) (hq : q) (hon : (s.zone z).rail.state.powered = true)
    (hgoal : goals z = none) (hlisted : z ∉ s.order) (rail : (t.zone z).rail = (s.aim goals z).poweredDown)
    (search : (t.zone z).search = {}) (latch : (s.zone z).rail.state = .hold → (t.zone z).latches.rail = true) :
    s.Course goals z q ((t.takeGoal z).zone z) := by
  have hnone : (t.zone z).rail.goal.isSome = false := by
    rw [rail, poweredDown_goal]
    exact Option.isSome_eq_false_iff.mpr (Option.isNone_iff_eq_none.mpr hgoal)
  by_cases hzero : (s.aim goals z).setpoint = 0
  · rw [poweredDown_ended hzero] at rail
    rw [takeGoal_off (by rw [rail]; rfl) hnone]
    refine .lowered hon hgoal hlisted (.inl hq) ?_ ?_ ?_ <;> rw [State.updRail_zone_same]
    · rw [rail, poweredDown_ended hzero]; rfl
    · exact search
    · exact latch
  · rw [poweredDown_turned hzero] at rail
    rw [takeGoal_down (by rw [rail]; rfl) hnone, if_pos (k.mayStop hlisted)]
    have hdown := beginPowerDown_rerailed (s := t) (z := z)
    refine .lowered hon hgoal hlisted (.inl hq) ?_ (hdown.search.trans (searchLeft_idle (k.rails z))) fun h => ?_
    · rw [hdown.rail, rail, poweredDown_turned hzero]
      exact poweredDown_turned (r := (s.aim goals z).turned) hzero
    · exact ((beginPowerDown_recedes t z).latches z).1 (latch h)

/-- A rail adrift stays so as it takes its absent goal. -/
theorem takeGoal_adrift (hgoal : (t.zone z).rail.goal = none) :
    ((t.takeGoal z).zone z).rail.goal = none ∧
      (((t.takeGoal z).zone z).rail.state = .hold → (t.zone z).rail.state = .hold) := by
  have hnone : (t.zone z).rail.goal.isSome = false := by rw [hgoal]; rfl
  cases hon : (t.zone z).rail.state.powered with
  | false =>
    rcases tripped_or_off hon with h | h
    · rw [takeGoal_tripped h]; exact ⟨hgoal, id⟩
    · rw [takeGoal_off h hnone, State.updRail_zone_same]; exact ⟨hgoal, id⟩
  | true =>
    rw [takeGoal_down hon hnone]
    split
    · rw [beginPowerDown_rerailed.rail, poweredDown_goal, poweredDown_state]
      refine ⟨hgoal, fun e => ?_⟩
      split at e <;> exact nomatch e
    · rw [State.updRail_zone_same]; exact ⟨hgoal, id⟩

end Turn

/-- A zone takes its goal, and is on its course with it. -/
theorem State.Underway.takeGoal (k : s.Underway goals taken t) (hs : s.RailsConsistent) (hpos : ∀ w, goals w ≠ some 0)
    (hnew : ∀ w, taken w → goals w ≠ (s.zone w).rail.goal) (hz : ¬ taken z) :
    s.Underway goals (fun w => taken w ∨ w = z) (t.takeGoal z) := by
  refine k.move (takeGoal_rails k.rails z) (takeGoal_setup t z) (fun w hw => takeGoal_zone_other t hw)
    (fun w hw => or_iff_left hw) ?_
  have hq : taken z ∨ z = z := .inr rfl
  cases k.course z with
  | untaken _ rail =>
    cases hon : (s.zone z).rail.state.powered with
    | false => exact takeGoal_unpowered k (hs z) hnew hq rail hon
    | true =>
      by_cases hgoal : goals z = none
      · exact takeGoal_lowered k (hs z) hq rail hon hgoal
      · exact takeGoal_redirected k hq rail hon hgoal
  | started off goal may _ rail timers => exact takeGoal_started (hs z) (hpos z) hq off goal may rail timers
  | lowered on goal unlisted _ rail search latch => exact takeGoal_lowered_again k hq on goal unlisted rail search latch
  | adrift on goal listed may _ none hold =>
    obtain ⟨hgoal, hstate⟩ := takeGoal_adrift none
    exact .adrift on goal listed may (.inl hq) hgoal (hold ∘ hstate)
  | noted h | waitsUp h | redirected h | waitsDown h => exact absurd h hz

theorem State.Underway.goalChange (k : s.Underway goals taken t) (hs : s.RailsConsistent) (hpos : ∀ w, goals w ≠ some 0)
    (hnew : ∀ w, taken w → goals w ≠ (s.zone w).rail.goal) (hz : ¬ taken z) :
    s.Underway goals (fun w => taken w ∨ w = z) (t.goalChange z) := by
  rw [goalChange_eq]
  exact (k.takeGoal hs hpos hnew hz).retestAllUp.retestAllDown

/-- The zones of a list take their goals one after another. -/
theorem State.Underway.goalChanges (hs : s.RailsConsistent) (hpos : ∀ w, goals w ≠ some 0) {zs : List ZoneId} (hd : zs.Nodup)
    (hchanged : ∀ w ∈ zs, goals w ≠ (s.zone w).rail.goal) (hnew : ∀ w, taken w → goals w ≠ (s.zone w).rail.goal)
    (hz : ∀ w ∈ zs, ¬ taken w) (k : s.Underway goals taken t) :
    s.Underway goals (fun w => taken w ∨ w ∈ zs) (forEach zs (fun z t => t.goalChange z) t) := by
  induction zs generalizing taken t with
  | nil => simpa using k
  | cons z zs ih =>
    obtain ⟨hz', hd'⟩ := List.nodup_cons.mp hd
    have hnext := ih hd' (fun w hw => hchanged w (List.mem_cons_of_mem z hw))
      (fun w hw => hw.elim (hnew w) fun e => e ▸ hchanged z List.mem_cons_self)
      (fun w hw h => h.elim (hz w (List.mem_cons_of_mem z hw)) fun e => hz' (e ▸ hw))
      (k.goalChange hs hpos hnew (hz z List.mem_cons_self))
    simpa only [forEach_cons, List.mem_cons, or_assoc] using hnext

/-- The rails form goals: every zone is on its course, and those whose goal changed have taken it. -/
theorem formGoals_underway (hs : s.RailsConsistent) (hpos : ∀ w, goals w ≠ some 0) :
    s.Underway goals (fun w => goals w ≠ (s.zone w).rail.goal) (s.formGoals goals) := by
  have hset : s.Underway goals (fun _ => False) (s.setGoals goals) :=
    ⟨setGoals_rails hs goals, rfl, fun z => .untaken id (by rw [State.setGoals, State.setZones_zone]; rfl)⟩
  have hmem : ∀ w, w ∈ s.changedGoals goals ↔ goals w ≠ (s.zone w).rail.goal := fun w => by
    simp [State.changedGoals, allZones]
  have hperm := freely_perm (s.changedGoals goals) (s.setGoals goals)
  have hd : (s.changedGoals goals).Nodup := (List.nodup_finRange 4).filter _
  have hfree : s.Underway goals (fun _ => False) (freely (s.changedGoals goals) (s.setGoals goals)).2 := by
    rw [freely_state]; exact hset.free _
  have hall := hfree.goalChanges hs hpos (hperm.nodup_iff.mpr hd) (fun w hw => (hmem w).mp (hperm.subset hw)) nofun fun _ _ => id
  simp only [hperm.mem_iff, hmem, false_or] at hall
  exact hall

end Sys2Proof.Machine
end

section
namespace Sys2Proof.Machine

variable {s u : State} {goals : ZoneId → Option Nat} {z : ZoneId} {taken : Prop}

/-! ### The course of a zone as the statement says it -/

/-- No zone is after one that is not in the list. -/
theorem not_blockedDown_unlisted (h : z ∉ s.order) : ¬ s.BlockedDown goals z := by
  have hdrop : s.order.dropWhile (· != z) = [] := List.dropWhile_eq_nil_iff.mpr fun w hw => by
    simpa using fun e : w = z => h (e ▸ hw)
  rintro ⟨w, hw, -⟩
  rw [State.ordersAfter, hdrop] at hw
  exact nomatch hw

/-- A TRIPPED rail waits for nothing. -/
theorem waiting_tripped {v : Zone} (hv : v.RailConsistent) (h : v.rail.state = .tripped) : v.rail.waiting = .none := by
  obtain ⟨-, -, hup, hdown, -⟩ := hv
  cases hw : v.rail.waiting with
  | none => rfl
  | powerUp => exact absurd ((hup hw).symm.trans h) nofun
  | powerDown => exact absurd (hdown hw) (by rw [h]; exact nofun)

theorem redirected_eq (r : Rail) : r.redirected =
    { r with
      state := if decide (r.goal = some r.setpoint) then .confirming else .ramping
      rampTimer := !decide (r.goal = some r.setpoint)
      confirmTimer := decide (r.goal = some r.setpoint)
      side := if decide (r.goal = some r.setpoint) then none else r.side
      oowCount := if r.state = .hold then 0 else r.oowCount
      waiting := .none } := by
  unfold Rail.redirected
  dsimp only
  by_cases h : r.goal = some r.setpoint
  · simp only [h]; rfl
  · simp only [h]; rfl

namespace State.Course

variable {v : Zone}

/-- An unchanged zone that waited for nothing stands. -/
theorem stands (k : s.Course goals z taken v) (h : ¬ taken) (hwaits : (s.zone z).rail.waiting = .none)
    (hsame : goals z = (s.zone z).rail.goal) : v.rail = (s.zone z).rail := by
  cases k with
  | untaken _ rail => rw [rail, State.aim, hsame]
  | noted h' | waitsUp h' | redirected h' | waitsDown h' => exact absurd h' h
  | started _ _ _ h' | lowered _ _ _ h' | adrift _ _ _ _ h' =>
    rw [hwaits] at h'
    exact absurd h' (fun e => e.elim h nofun)

theorem of_tripped (k : s.Course goals z taken v) (hs : (s.zone z).RailConsistent) (h : (s.zone z).rail.state = .tripped) :
    v.rail = s.aim goals z := by
  cases k with
  | untaken _ rail => exact rail
  | noted _ _ _ rail => rw [rail, ← waiting_tripped hs h]; rfl
  | started off | waitsUp _ off => exact absurd (off.symm.trans h) nofun
  | redirected _ on | lowered on | waitsDown _ on | adrift on => rw [h] at on; exact nomatch on

theorem of_off (k : s.Course goals z taken v) (h : taken) (hoff : (s.zone z).rail.state = .off) (hgoal : goals z = none) :
    v.rail = { s.aim goals z with waiting := .none } := by
  cases k with
  | untaken h' => exact absurd h h'
  | noted _ _ _ rail => exact rail
  | started _ goal | waitsUp _ _ goal | redirected _ _ goal => exact absurd hgoal goal
  | lowered on | waitsDown _ on | adrift on => rw [hoff] at on; exact nomatch on

/-- A rail in OFF with a goal has started where it was not blocked, and waits where it was not free. -/
theorem of_up (k : s.Course goals z taken v) (h : taken) (hoff : (s.zone z).rail.state = .off) (hgoal : goals z ≠ none) :
    (s.FreeUp goals z → v.rail = (s.aim goals z).poweredUp ∧ v.values.voltageTimer = true ∧ v.values.currentTimer = true) ∧
      (s.BlockedUp goals z → v.rail = { s.aim goals z with waiting := .powerUp }) := by
  cases k with
  | untaken h' => exact absurd h h'
  | noted _ _ goal => exact absurd (goal.resolve_left hgoal) (by rw [hoff]; exact nofun)
  | started _ _ may _ rail timers => exact ⟨fun _ => ⟨rail, timers⟩, fun hb => absurd hb may⟩
  | waitsUp _ _ _ may rail => exact ⟨fun hf => absurd hf may, fun _ => rail⟩
  | redirected _ on | lowered on | waitsDown _ on | adrift on => rw [hoff] at on; exact nomatch on

theorem of_redirected (k : s.Course goals z taken v) (h : taken) (hon : (s.zone z).rail.state.powered = true)
    (hgoal : goals z ≠ none) :
    v.rail = (s.aim goals z).redirected ∧ v.search = {} ∧ ((s.zone z).rail.state = .hold → v.latches.rail = true) := by
  cases k with
  | untaken h' => exact absurd h h'
  | noted _ off => rw [off] at hon; exact nomatch hon
  | started off | waitsUp _ off => rw [off] at hon; exact nomatch hon
  | redirected _ _ _ rail search latch => exact ⟨rail, search, latch⟩
  | lowered _ goal | waitsDown _ _ goal | adrift _ goal => exact absurd goal hgoal

/-- A powered rail whose goal has gone is down on its way where it is not in the list, and waits where it was blocked. -/
theorem of_down (k : s.Course goals z taken v) (h : taken) (hon : (s.zone z).rail.state.powered = true) (hgoal : goals z = none) :
    (z ∉ s.order → v.rail = (s.aim goals z).poweredDown ∧ v.search = {} ∧
      ((s.zone z).rail.state = .hold → v.latches.rail = true)) ∧
      (s.BlockedDown goals z → v.rail = { s.aim goals z with waiting := .powerDown, rampTimer := false }) := by
  cases k with
  | untaken h' => exact absurd h h'
  | noted _ off => rw [off] at hon; exact nomatch hon
  | started _ goal | waitsUp _ _ goal | redirected _ _ goal => exact absurd hgoal goal
  | lowered _ _ unlisted _ rail search latch =>
    exact ⟨fun _ => ⟨rail, search, latch⟩, fun hb => absurd hb (not_blockedDown_unlisted unlisted)⟩
  | waitsDown _ _ _ may rail => exact ⟨fun hu => absurd may (not_blockedDown_unlisted hu), fun _ => rail⟩
  | adrift _ _ listed may => exact ⟨fun hu => absurd listed hu, fun hb => absurd hb may⟩

end State.Course

/-- The rail of a zone on its course is as the statement has it. -/
theorem railPromoted_of_course (hs : (s.zone z).RailConsistent) (hgoal : ∀ w, (u.zone w).rail.goal = goals w)
    (k : s.Course goals z (goals z ≠ (s.zone z).rail.goal) (u.zone z)) : s.RailPromoted u z := by
  unfold State.RailPromoted
  dsimp only
  simp only [hgoal]
  refine ⟨fun hsame hwaits => k.stands (not_not.mpr hsame) hwaits hsame, fun hne => ⟨fun htripped => k.of_tripped hs htripped,
    fun hoff hnone => k.of_off hne hoff hnone, fun hoff hsome => ?_, fun hon hsome => ?_, fun hon hnone => ⟨fun hu hset => ?_, ?_⟩⟩⟩
  · exact k.of_up hne hoff hsome
  · obtain ⟨rail, search, latch⟩ := k.of_redirected hne hon hsome
    refine ⟨?_, search, latch⟩
    rw [rail, redirected_eq]
    rfl
  · obtain ⟨rail, search, latch⟩ := (k.of_down hne hon hnone).1 hu
    exact ⟨rail.trans (poweredDown_turned hset), search, latch⟩
  · exact (k.of_down hne hon hnone).2

end Sys2Proof.Machine
end

section
namespace Sys2Proof.Machine

variable {s t u : State} {z : ZoneId}

/-! ### The targets leave the rails (R106, R107) -/

/-- From `s` to `t` the rails and searches stand, and no timer and no latch is taken back. -/
structure State.Calm (s t : State) : Prop where
  rail (z : ZoneId) : (t.zone z).rail = (s.zone z).rail
  search (z : ZoneId) : (t.zone z).search = (s.zone z).search
  values (z : ZoneId) : (s.zone z).values.RunsOn (t.zone z).values
  latches (z : ZoneId) : (s.zone z).latches.Within (t.zone z).latches

theorem Latches.Within.trans {l l' l'' : Latches} (h : l.Within l') (h' : l'.Within l'') : l.Within l'' :=
  ⟨h'.1 ∘ h.1, h'.2 ∘ h.2⟩

theorem State.Calm.refl (s : State) : s.Calm s := ⟨fun _ => rfl, fun _ => rfl, fun _ => .refl _, fun _ => .refl _⟩

theorem State.Calm.trans (h : s.Calm t) (h' : t.Calm u) : s.Calm u :=
  ⟨fun z => (h'.rail z).trans (h.rail z), fun z => (h'.search z).trans (h.search z), fun z => (h.values z).trans (h'.values z),
    fun z => (h.latches z).trans (h'.latches z)⟩

/-- No zone is at its hard limit. -/
def State.Cool (s : State) : Prop :=
  ∀ (z : ZoneId) (t : Int), (s.zone z).values.temperature = some t → t < (s.zone z).cfg.hardLimit

theorem State.Cool.of_values (h : s.Cool) (hv : ∀ z, (s.zone z).values.RunsOn (t.zone z).values) (hs : t.setup = s.setup) :
    t.Cool := fun z x hx => by
  rw [cfg_of_setup hs]
  exact h z x ((hv z).temperature ▸ hx)

/-- Below its hard limit a zone is placed by moves of its heat alone. -/
theorem State.Warmed.placed {h : Heat} (k : s.Warmed z h t) (g : Int) {temp : Option Int}
    (hcool : ∀ x, temp = some x → x < (t.zone z).cfg.hardLimit) : ∃ h', s.Warmed z h' (t.place z g temp) := by
  unfold State.place
  cases temp with
  | none => exact ⟨_, k.blind⟩
  | some x =>
    dsimp only
    rw [if_neg (not_le.mpr (hcool x rfl))]
    split
    · exact ⟨_, k.side _⟩
    · exact ⟨_, k.soaking⟩

theorem targetChange_warmed (hcool : s.Cool) (g : Option Int) : ∃ h, s.Warmed z h (s.targetChange z g) := by
  have k := State.Warmed.refl s z
  have hlimit : ∀ {t : State}, t.setup = s.setup →
      ∀ x, (s.zone z).values.temperature = some x → x < (t.zone z).cfg.hardLimit := fun ht x hx => by
    rw [cfg_of_setup ht]; exact hcool z x hx
  unfold State.targetChange
  dsimp only
  split
  · exact ⟨_, k⟩
  · rename_i g _
    obtain ⟨h, hplaced⟩ := ((k.upd fun h => { h with target := some g }).works (noticeZone_works _ .thermal z)).placed g
      (hlimit (by simp))
    exact ⟨h, hplaced.works (updValues_works ..)⟩
  · exact ⟨_, k.upd _⟩
  · exact ⟨_, k.upd _⟩
  · exact ⟨_, heatOff_warmed s z⟩
  · rename_i g _ _ _
    exact (k.leave.upd fun h => { h with target := some g, soak := none, grace := none }).placed g (hlimit (by simp))
  · exact ⟨_, k.leave.upd fun _ => {}⟩

theorem updHeat_recedes (s : State) (z : ZoneId) (f : Heat → Heat) : s.Recedes (s.updHeat z f) := updZone_recedes s z _ rfl

theorem leaveStable_recedes (s : State) (z : ZoneId) : s.Recedes (s.leaveStable z) := ite_recedes (notice_recedes ..)

theorem place_recedes (s : State) (z : ZoneId) (g : Int) (temp : Option Int) : s.Recedes (s.place z g temp) := by
  have hblind : s.Recedes (s.enterBlind z) :=
    ((leaveStable_recedes s z).trans (updHeat_recedes ..)).trans (reportZone_recedes ..)
  have hover : s.Recedes (s.enterOvertemp z) :=
    ((((leaveStable_recedes s z).trans (updHeat_recedes ..)).trans (reportZone_recedes ..)).trans
      (trip_recedes _ z (cause := .overtemp) nofun)).trans (recedes_of_eq rfl rfl rfl rfl)
  have hsoaking : s.Recedes (s.enterSoaking z) := by
    unfold State.enterSoaking
    dsimp only
    split
    · exact (updHeat_recedes ..).trans (reportZone_recedes ..)
    · exact updHeat_recedes ..
  unfold State.place
  dsimp only
  (repeat' split)
  · exact hblind
  · exact hover
  · exact updHeat_recedes ..
  · exact hsoaking

theorem targetChange_recedes (s : State) (z : ZoneId) (g : Option Int) : s.Recedes (s.targetChange z g) := by
  unfold State.targetChange
  dsimp only
  split
  · exact .refl s
  · exact (((updHeat_recedes s z _).trans (notice_recedes ..)).trans (place_recedes ..)).trans (updZone_recedes _ z _ rfl)
  · exact updHeat_recedes ..
  · exact updHeat_recedes ..
  · exact updHeat_recedes ..
  · exact ((leaveStable_recedes s z).trans (updHeat_recedes ..)).trans (place_recedes ..)
  · exact (leaveStable_recedes s z).trans (updHeat_recedes ..)

/-- Below the hard limits a zone that takes a new target leaves the rails. -/
theorem targetChange_calm (hcool : s.Cool) (z : ZoneId) (g : Option Int) : s.Calm (s.targetChange z g) := by
  obtain ⟨h, k⟩ := targetChange_warmed (z := z) hcool g
  refine ⟨k.railed.1, fun w => ?_, (targetChange_attends (x := fun _ _ => True) s z g).values,
    (targetChange_recedes s z g).latches⟩
  rw [works_search k, State.updHeat_zone]
  split
  · subst_vars; rfl
  · rfl

theorem formTargets_calm (hcool : s.Cool) (targets : ZoneId → Option Int) : s.Calm (s.formTargets targets) :=
  (forEachFreely_keeps (P := fun t => s.Calm t ∧ t.Cool) 
    (fun _ _ ⟨hcalm, hcool⟩ => ⟨⟨hcalm.rail, hcalm.search, hcalm.values, hcalm.latches⟩, hcool⟩)
    (fun z _ _ ⟨hcalm, hcool⟩ =>
      have hmove := targetChange_calm hcool z (targets z)
      ⟨hcalm.trans hmove, hcool.of_values hmove.values (targetChange_setup ..)⟩)
    ⟨.refl s, hcool⟩).1

/-! ### The targets that a step gives (R106) -/

/-- The zones of a list take their targets, and the others keep theirs. -/
theorem targetChanges_target (targets : ZoneId → Option Int) (zs : List ZoneId) (hs : s.HeatConsistent) (w : ZoneId) :
    ((forEach zs (fun z t => t.targetChange z (targets z)) s).zone w).heat.target =
      if w ∈ zs then targets w else (s.zone w).heat.target := by
  induction zs generalizing s with
  | nil => simp
  | cons z zs ih =>
    have htakes := targetChange_targets (z := z) (g := targets z) fun hoff _ => congrArg Heat.target ((hs z).1 hoff)
    rw [forEach_cons, ih ((targetChange_orderly s z (targets z)).heat hs)]
    by_cases hmem : w ∈ zs
    · rw [if_pos hmem, if_pos (List.mem_cons_of_mem z hmem)]
    · rw [if_neg hmem]
      by_cases hw : w = z
      · subst hw
        rw [htakes.target, if_pos List.mem_cons_self]
      · rw [htakes.other w hw, if_neg (List.not_mem_cons_of_ne_of_not_mem hw hmem)]

theorem targetChanges_goal (targets : ZoneId → Option Int) (w : ZoneId) :
    ((s.formTargets targets).zone w).rail.goal = (s.zone w).rail.goal :=
  forEachFreely_keeps (P := fun t => (t.zone w).rail.goal = (s.zone w).rail.goal) (fun _ _ h => h)
    (fun z _ t ht => (targetChange_goal t z (targets z) w).trans ht) rfl

theorem formTargets_target (hs : s.HeatConsistent) (targets : ZoneId → Option Int) (w : ZoneId) :
    ((s.formTargets targets).zone w).heat.target = targets w := by
  have hperm := freely_perm (s.changedTargets targets) s
  have hfree : ∀ z, (freely (s.changedTargets targets) s).2.zone z = s.zone z := fun z => by rw [freely_state]; rfl
  have hheat : (freely (s.changedTargets targets) s).2.HeatConsistent := fun z => by rw [hfree]; exact hs z
  have hall := targetChanges_target targets (freely (s.changedTargets targets) s).1 hheat w
  rw [hfree] at hall
  refine hall.trans ?_
  split
  · rfl
  · rename_i hmem
    rw [hperm.mem_iff] at hmem
    by_contra hne
    exact hmem (by simpa [State.changedTargets, allZones] using Ne.symm hne)

end Sys2Proof.Machine
end

/-! ## The engine at a promotion (08_pattern_drive.md R128 to R137) -/

section
namespace Sys2Proof.Machine

variable {s t u : State}

/-! ### Window ends still due (R147, R149; log 8) -/

theorem noWindowDue_of_windows (h : t.windows = s.windows) (hs : s.NoWindowDue) : t.NoWindowDue := fun n => by
  obtain ⟨hprbs, hwatch⟩ := Prod.mk.inj (congrFun h n)
  obtain ⟨hp, hw⟩ := hs n
  exact ⟨by rw [Lane.prbsWindowDue, hprbs]; exact hp, by rw [Lane.toggleWindowDue, hwatch]; exact hw⟩

theorem endWindow_predictions (p : PrbsCheck) : p.endWindow.1.predictions = 0 := by
  unfold PrbsCheck.endWindow
  dsimp only
  (repeat' split) <;> rfl

theorem endWindow_cycles (w : ToggleWatch) : w.endWindow.1.cycles = 0 := by
  unfold ToggleWatch.endWindow
  dsimp only
  (repeat' split) <;> rfl

/-- The end of one lane's PRBS window makes no window due, -/
theorem endPrbsWindow_due (s : State) (n m : LaneId) :
    (((s.endPrbsWindow n).lane m).prbsWindowDue = true → n ≠ m ∧ (s.lane m).prbsWindowDue = true) ∧
      ((s.endPrbsWindow n).lane m).toggleWindowDue = (s.lane m).toggleWindowDue := by
  cases hdue : (s.lane n).prbsWindowDue with
  | false =>
    have hidle : s.endPrbsWindow n = s := by rw [endPrbsWindow_eq, hdue]; rfl
    rw [hidle]
    exact ⟨fun h => ⟨fun e => absurd (e ▸ h) (by rw [hdue]; exact nofun), h⟩, rfl⟩
  | true =>
    rw [endPrbsWindow_lane hdue]
    split
    · exact ⟨fun h => by simp [Lane.prbsWindowDue, endWindow_predictions, Config.prbsWindow] at h, rfl⟩
    · exact ⟨fun h => ⟨‹_›, h⟩, rfl⟩

/-- and so does the end of its toggle window. -/
theorem endToggleWindow_due (s : State) (n m : LaneId) :
    (((s.endToggleWindow n).lane m).toggleWindowDue = true → n ≠ m ∧ (s.lane m).toggleWindowDue = true) ∧
      ((s.endToggleWindow n).lane m).prbsWindowDue = (s.lane m).prbsWindowDue := by
  cases hdue : (s.lane n).toggleWindowDue with
  | false =>
    have hidle : s.endToggleWindow n = s := by rw [endToggleWindow_eq, hdue]; rfl
    rw [hidle]
    exact ⟨fun h => ⟨fun e => absurd (e ▸ h) (by rw [hdue]; exact nofun), h⟩, rfl⟩
  | true =>
    rw [endToggleWindow_lane hdue]
    split
    · exact ⟨fun h => by simp [Lane.toggleWindowDue, endWindow_cycles, Config.toggleWindow] at h, rfl⟩
    · exact ⟨fun h => ⟨‹_›, h⟩, rfl⟩

/-- Where each end clears its own lane's window and makes none due, no window is due after all have ended. -/
theorem dueWindows_end {due : Lane → Bool} {act : LaneId → State → State} (hown : ∀ n t, due ((act n t).lane n) = false)
    (hkeep : ∀ n m t, due (t.lane m) = false → due ((act n t).lane m) = false) (s : State) (m : LaneId) :
    due ((forEachFreely (allLanes.filter fun n => due (s.lane n)) act s).lane m) = false := by
  cases hdue : due (s.lane m) with
  | false => exact forEachFreely_keeps (P := fun t => due (t.lane m) = false) (fun _ _ h => h) (fun n _ t => hkeep n m t) hdue
  | true =>
    exact forEachFreely_reaches (P := fun t => due (t.lane m) = false) (List.mem_filter.mpr ⟨List.mem_finRange m, hdue⟩)
      (hown m) (fun n => hkeep n m) s

/-- Once each window that is due has ended none is due. -/
theorem endDueWindows_none (s : State) : s.endDueWindows.NoWindowDue := fun m => by
  have hprbs := dueWindows_end (due := Lane.prbsWindowDue) (act := fun n s => s.endPrbsWindow n)
    (fun n t => Bool.eq_false_iff.mpr fun e => ((endPrbsWindow_due t n n).1 e).1 rfl)
    (fun n m t ht => Bool.eq_false_iff.mpr fun e => by simp [((endPrbsWindow_due t n m).1 e).2] at ht) s m
  have htoggle := dueWindows_end (due := Lane.toggleWindowDue) (act := fun n s => s.endToggleWindow n)
    (fun n t => Bool.eq_false_iff.mpr fun e => ((endToggleWindow_due t n n).1 e).1 rfl)
    (fun n m t ht => Bool.eq_false_iff.mpr fun e => by simp [((endToggleWindow_due t n m).1 e).2] at ht)
  exact ⟨forEachFreely_keeps (P := fun t => (t.lane m).prbsWindowDue = false) (fun _ _ h => h)
    (fun n _ t ht => (endToggleWindow_due t n m).2.trans ht) hprbs, htoggle _ m⟩

/-! ### Scores and captures -/

/-- The score of a socket's interval and its first-fail record (R37, R47). -/
def State.tally (s : State) : SocketId → Nat × Option FirstFail := fun i => ((s.socket i).running, (s.socket i).firstFail)

theorem setReasons_tally (s : State) (i : SocketId) (f : Reasons → Reasons) : (s.setReasons i f).tally = s.tally :=
  funext fun j => by
  by_cases hj : j = i
  · subst hj
    simp only [State.tally, setReasons_socket]
    split
    · rw [reasoned_armed ‹_›]
    · rfl
  · simp only [State.tally, (setReasons_turns s i f).sockets j hj]

theorem reportLane_tally (s : State) (n : LaneId) (e : LaneEvent) : (s.reportLane n e).tally = s.tally := funext fun i => by
  simp only [State.tally, State.reportLane, report_socket]

theorem lockChanged_tally (s : State) (n : LaneId) (e : Option LaneEvent) : (s.lockChanged n e).tally = s.tally := by
  unfold State.lockChanged
  split
  · rw [setReasons_tally, reportLane_tally]
  · rw [State.reviewReasons, setReasons_tally, reportLane_tally]
  · rfl

theorem stuckChanged_tally (s : State) (n : LaneId) (e : Option LaneEvent) : (s.stuckChanged n e).tally = s.tally := by
  unfold State.stuckChanged
  split
  · rw [setReasons_tally, reportLane_tally]
  · rw [State.reviewReasons, setReasons_tally, reportLane_tally]
  · rfl

/-- Window ends score nothing and capture nothing. -/
theorem endDueWindows_tally (s : State) : s.endDueWindows.tally = s.tally := by
  have hprbs : ∀ (n : LaneId) (t : State), (t.endPrbsWindow n).tally = t.tally := fun n t => by
    rw [endPrbsWindow_eq]
    split
    · exact lockChanged_tally ..
    · rfl
  have htoggle : ∀ (n : LaneId) (t : State), (t.endToggleWindow n).tally = t.tally := fun n t => by
    rw [endToggleWindow_eq]
    split
    · exact stuckChanged_tally ..
    · rfl
  have hloop : ∀ {act : LaneId → State → State}, (∀ n t, (act n t).tally = t.tally) → ∀ (ns : List LaneId) (s : State),
      (forEachFreely ns act s).tally = s.tally := fun hact ns s =>
    forEachFreely_keeps (P := fun t => t.tally = s.tally) (fun _ _ h => h) (fun n _ t ht => (hact n t).trans ht) rfl
  exact (hloop htoggle _ _).trans (hloop hprbs _ s)

theorem tally_of_coasts (h : s.Coasts t) : t.tally = s.tally := funext fun i => by
  rw [State.tally, h.socket i]
  rfl

/-! ### The start of the engine (R128) -/

/-- The choice of the first vector moves the engine, notices and records. -/
theorem chooseFirst_state (s : State) : s.chooseFirst =
    { s with
      engine := s.chooseFirst.engine, zones := s.chooseFirst.zones, sockets := s.chooseFirst.sockets
      reports := s.chooseFirst.reports } := by
  unfold State.chooseFirst
  dsimp only
  split
  · rfl
  · rw [State.enterStarved, State.reportPattern, report_state]
    rfl

/-- Each choice begins at index 0 with the first cycle. -/
theorem choose_getD (e : Engine) (source : PatternSource) :
    let chosen := (e.choose source).getD { e with state := .starved, loopIndex := 0, cycle := 0 }
    chosen = { e with state := chosen.state, loopIndex := 0, cycle := 0 } := by
  cases source <;> simp only [Engine.choose] <;> (repeat' split) <;> rfl

theorem driveCycle_zone (s : State) (z : ZoneId) : s.driveCycle.zone z =
    { s.zone z with latches := (s.driveCycle.zone z).latches, driving := (s.zone z).rail.state.ungated } := by
  unfold State.driveCycle
  rw [State.setZones_zone, watchExercise_zone]
  rfl

/-- The checks of a cycle leave the zones. -/
theorem startCycle_zone (s : State) (sense : BitVec 64) (z : ZoneId) : (s.startCycle sense).zone z = s.driveCycle.zone z := by
  unfold State.startCycle
  dsimp only
  split
  · exact (checkLanes_checked ..).zone z
  · rfl

theorem startCycle_drive (s : State) (sense : BitVec 64) : (s.startCycle sense).driveInEffect = s.drive := by
  unfold State.startCycle
  dsimp only
  split
  · rw [checkLanes_checked]; rfl
  · rfl

theorem startCycle_state (s : State) (sense : BitVec 64) : (s.startCycle sense).engine.state = s.engine.state := by
  rw [startCycle_engine]
  split <;> rfl

/-- DRIVE rows written take effect (R133). -/
def State.rowsTaken (s : State) : State := { s with driveInEffect := s.drive }

/-- One more free choice has been made (log 37). -/
def State.counted (s : State) : State := { s with freeIndex := s.freeIndex + 1 }

/-- The engine as its first cycle is about to begin. -/
def State.started (s : State) : State := s.endDueWindows.rowsTaken.chooseFirst.counted

theorem counted_setup (s : State) : s.counted.setup = s.setup := rfl

theorem counted_step (s : State) : s.counted.step = s.step := rfl

theorem counted_tally (s : State) : s.counted.tally = s.tally := rfl

theorem counted_windows (s : State) : s.counted.windows = s.windows := rfl

theorem counted_engine (s : State) : s.counted.engine = s.engine := rfl

theorem counted_driveInEffect (s : State) : s.counted.driveInEffect = s.driveInEffect := rfl

theorem rowsTaken_engine (s : State) : s.rowsTaken.engine = s.engine := rfl

theorem rowsTaken_driveInEffect (s : State) : s.rowsTaken.driveInEffect = s.drive := rfl

theorem rowsTaken_setup (s : State) : s.rowsTaken.setup = s.setup := rfl

theorem rowsTaken_step (s : State) : s.rowsTaken.step = s.step := rfl

theorem rowsTaken_tally (s : State) : s.rowsTaken.tally = s.tally := rfl

theorem rowsTaken_windows (s : State) : s.rowsTaken.windows = s.windows := rfl

theorem startEngine_eq (s : State) : ∃ sense, s.startEngine = s.started.startCycle sense := ⟨_, rfl⟩

end Sys2Proof.Machine
end

section
namespace Sys2Proof.Machine

variable {s t u : State}

/-! ### What the engine leaves of the zones -/

theorem watchExercise_recedes {f : State → State} (h : s.Recedes (f s)) : s.Recedes (s.watchExercise f) :=
  h.trans (notice_recedes (f s) ..)

theorem updEngine_recedes (s : State) (f : Engine → Engine) : s.Recedes (s.updEngine f) := recedes_of_eq rfl rfl rfl rfl

theorem enterStarved_recedes (s : State) : s.Recedes s.enterStarved := by
  unfold State.enterStarved
  exact ((watchExercise_recedes (f := fun s => s.updEngine _) (updEngine_recedes s _)).trans (report_recedes ..)).trans
    (notice_recedes _ _ _)

theorem chooseFirst_recedes (s : State) : s.Recedes s.chooseFirst := by
  unfold State.chooseFirst
  dsimp only
  split
  · exact (updEngine_recedes s _).trans (updEngine_recedes _ _)
  · exact (updEngine_recedes s _).trans (enterStarved_recedes _)

theorem driveCycle_latches (s : State) (z : ZoneId) : (s.zone z).latches.Within (s.driveCycle.zone z).latches := by
  unfold State.driveCycle
  rw [State.setZones_zone]
  exact (watchExercise_recedes (f := fun s => { s with driveInEffect := s.drive }) (recedes_of_eq rfl rfl rfl rfl)).latches z

theorem started_latches (s : State) (z : ZoneId) : (s.zone z).latches.Within (s.started.zone z).latches := by
  have hends : (s.zone z).latches.Within (s.endDueWindows.rowsTaken.zone z).latches := by
    rw [← (endDueWindows_checked s).zone z]
    exact .refl _
  exact hends.trans ((chooseFirst_recedes s.endDueWindows.rowsTaken).latches z)

theorem startEngine_latches (s : State) (z : ZoneId) : (s.zone z).latches.Within (s.startEngine.zone z).latches := by
  obtain ⟨sense, hstart⟩ := startEngine_eq s
  rw [hstart, startCycle_zone]
  exact (started_latches s z).trans (driveCycle_latches s.started z)

theorem resume_recedes (s : State) : s.Recedes s.resume := by
  unfold State.resume
  split
  · exact (updEngine_recedes s _).trans (report_recedes ..)
  · exact .refl s

theorem enginePromoted_latches (s : State) (old : PatternSource) (z : ZoneId) :
    (s.zone z).latches.Within ((s.enginePromoted old).zone z).latches := by
  have hperiod := updEngine_recedes s fun e => { e with period := s.step.cur.period }
  unfold State.enginePromoted
  dsimp only
  (repeat' split)
  · exact .refl _
  · exact startEngine_latches s z
  · exact .refl _
  · exact .refl _
  · exact (hperiod.trans (watchExercise_recedes (f := fun s => s.updEngine _) (updEngine_recedes _ _))).latches z
  · exact hperiod.latches z
  · exact (hperiod.trans (resume_recedes _)).latches z

/-- The engine leaves the rails, the searches and the values. -/
theorem enginePromoted_calm (s : State) (old : PatternSource) : s.Calm (s.enginePromoted old) where
  rail := works_rail (enginePromoted_works s old)
  search := works_search (enginePromoted_works s old)
  values z := monitored_values (enginePromoted_monitored s old) z ▸ .refl _
  latches := enginePromoted_latches s old

/-- Where it does not start, the engine leaves the DRIVE rows in effect (R133). -/
theorem enginePromoted_drive {old : PatternSource} (h : s.engine.state ≠ .stopped ∨ s.step.cur.source = .none) :
    (s.enginePromoted old).driveInEffect = s.driveInEffect := by
  unfold State.enginePromoted
  dsimp only
  split
  · rename_i hstopped
    rw [if_pos (h.resolve_left (not_not.mpr hstopped))]
  · rfl
  · rfl
  · have hresume : ∀ t : State, t.resume.driveInEffect = t.driveInEffect := fun t => by
      unfold State.resume
      split
      · rw [State.reportPattern, report_state]; rfl
      · rfl
    (repeat' split)
    · rfl
    · rfl
    · exact hresume _

theorem enginePromoted_start {old : PatternSource} (h : s.engine.state = .stopped) (hsource : s.step.cur.source ≠ .none) :
    s.enginePromoted old = s.startEngine := by
  simp [State.enginePromoted, h, hsource]

/-! ### The engine as its first cycle is about to begin -/

theorem started_setup (s : State) : s.started.setup = s.setup := by
  rw [State.started, counted_setup, chooseFirst_setup, rowsTaken_setup, endDueWindows_setup]

theorem started_step (s : State) : s.started.step = s.step := by
  rw [State.started, counted_step, (chooseFirst_coasts _).step, rowsTaken_step, (endDueWindows_checked s).step]

theorem started_tally (s : State) : s.started.tally = s.tally := by
  rw [State.started, counted_tally, tally_of_coasts (chooseFirst_coasts _), rowsTaken_tally, endDueWindows_tally]

theorem chooseFirst_rows (s : State) : s.chooseFirst.lanes = s.lanes ∧ s.chooseFirst.driveInEffect = s.driveInEffect := by
  rw [chooseFirst_state]
  exact ⟨rfl, rfl⟩

theorem started_windows (s : State) : s.started.windows = s.endDueWindows.windows := by
  rw [State.started, counted_windows, windows_of_lanes (chooseFirst_rows _).1, rowsTaken_windows]

theorem drive_of_setup (h : t.setup = s.setup) : t.drive = s.drive := congrArg Setup.drive h

theorem started_drive (s : State) : s.started.drive = s.drive := drive_of_setup (started_setup s)

theorem started_driveInEffect (s : State) : s.started.driveInEffect = s.drive := by
  rw [State.started, counted_driveInEffect, (chooseFirst_rows _).2, rowsTaken_driveInEffect]
  exact drive_of_setup (endDueWindows_setup s)

/-- The first vector stands before its first cycle, with the generators and the clock phase as a start leaves them (R128, R135). -/
theorem started_engine (s : State) : s.started.engine =
    { s.engine with
      state := s.started.engine.state, loopIndex := 0, cycle := 0, period := s.step.cur.period
      prbsA := BitVec.allOnes 9, prbsB := BitVec.allOnes 15, clockPhase := false } := by
  have hchosen := choose_getD
    { s.engine with prbsA := BitVec.allOnes 9, prbsB := BitVec.allOnes 15, clockPhase := false, period := s.step.cur.period }
    s.step.cur.source
  have hengine := chooseFirst_engine s.endDueWindows.rowsTaken
  dsimp only at hengine hchosen
  rw [rowsTaken_engine, rowsTaken_step, (endDueWindows_checked s).engine, (endDueWindows_checked s).step] at hengine
  rw [State.started, counted_engine, hengine]
  exact hchosen

end Sys2Proof.Machine
end

/-! ## A promotion (10_step_control.md R160, R161, R164) -/

section
namespace Sys2Proof.Machine

variable {s t u : State} {event : StepEvent}

/-- A promotion with its goals and targets formed, before the engine is handed it (R160). -/
def State.formed (s : State) (event : StepEvent) : State :=
  let t := (s.promoting event).formGoals (s.promoting event).stepGoals
  t.formTargets t.stepTargets

theorem promote_eq (s : State) (event : StepEvent) :
    s.promote event = (s.formed event).enginePromoted s.step.cur.source := rfl

/-! ### What the goals and targets leave -/

theorem promoting_step (s : State) (event : StepEvent) : (s.promoting event).step = s.step.promoted := by
  rw [promoting_state]

theorem promoting_zone (s : State) (event : StepEvent) (z : ZoneId) : (s.promoting event).zone z = s.zone z := by
  rw [promoting_state]; rfl

theorem promoting_running (s : State) (event : StepEvent) : (s.promoting event).step.state ≠ .stopping := by
  rw [promoting_step]; exact nofun

theorem formed_zonal (s : State) (event : StepEvent) : (s.promoting event).Zonal (s.formed event) :=
  (formGoals_zonal ..).trans (formTargets_zonal ..)

theorem formed_step (s : State) (event : StepEvent) : (s.formed event).step = s.step.promoted :=
  ((formed_zonal s event).step (promoting_running s event)).trans (promoting_step s event)

theorem formed_engine (s : State) (event : StepEvent) : (s.formed event).engine = s.engine := by
  rw [(formed_zonal s event).engine, promoting_state]

theorem formed_driveInEffect (s : State) (event : StepEvent) : (s.formed event).driveInEffect = s.driveInEffect := by
  rw [(formed_zonal s event).frame, promoting_state]

theorem formed_setup (s : State) (event : StepEvent) : (s.formed event).setup = s.setup := by
  rw [State.formed, formTargets_setup, formGoals_setup, State.promoting, reportStep_setup, updStep_setup]

theorem formed_windows (s : State) (event : StepEvent) : (s.formed event).windows = s.windows := by
  rw [State.formed, formTargets_windows, formGoals_windows, promoting_state]
  rfl

theorem formed_tally (s : State) (event : StepEvent) : (s.formed event).tally = s.tally := by
  rw [tally_of_coasts ((formed_zonal s event).coasts (promoting_running s event)), promoting_state]
  rfl

theorem promoting_rails (hs : s.RailsConsistent) : (s.promoting event).RailsConsistent := fun z => by
  rw [promoting_zone]; exact hs z

/-! ### The goals, the rails and the targets -/

/-- The goals of the promoted step (R71). -/
def State.promotedGoals (s : State) (z : ZoneId) : Option Nat :=
  limitGoal (s.zone z).cfg.maxMv (s.step.promoted.cur.railTarget.get z)

theorem promoting_goals (s : State) (event : StepEvent) : (s.promoting event).stepGoals = s.promotedGoals := funext fun z => by
  rw [State.stepGoals, promoting_zone, promoting_step, State.promotedGoals]

/-- A goal is never 0 (R71). -/
theorem promotedGoals_pos (s : State) (z : ZoneId) : s.promotedGoals z ≠ some 0 := by
  unfold State.promotedGoals limitGoal
  split
  · exact nofun
  · split
    · exact nofun
    · exact fun e => ‹¬ _› (Option.some.inj e)

theorem formed_goal (hs : s.RailsConsistent) (z : ZoneId) : ((s.formed event).zone z).rail.goal = s.promotedGoals z := by
  have k := formGoals_underway (s := s.promoting event) (promoting_rails hs) (promotedGoals_pos s)
  rw [State.formed, targetChanges_goal, promoting_goals]
  exact (k.course z).rail_goal

theorem promoting_railPromoted {z : ZoneId} (h : (s.promoting event).RailPromoted u z) : s.RailPromoted u z := by
  rw [promoting_state] at h
  exact h

/-- With no zone at its hard limit each rail takes its goal along its course (R73, R77, R78). -/
theorem promote_rails (hs : s.RailsConsistent) (hcool : s.Cool) (z : ZoneId) : s.RailPromoted (s.promote event) z := by
  have k := formGoals_underway (s := s.promoting event) (promoting_rails hs) (promotedGoals_pos s)
  have hvalues := fun w => (formGoals_attends (x := fun _ _ => True) (s.promoting event) s.promotedGoals).values w
  have hcool' : ((s.promoting event).formGoals s.promotedGoals).Cool := by
    refine State.Cool.of_values (s := s.promoting event) (fun w x hx => ?_) hvalues (formGoals_setup ..)
    rw [promoting_zone] at hx ⊢
    exact hcool w x hx
  have hcalm : ((s.promoting event).formGoals s.promotedGoals).Calm (s.promote event) := by
    rw [promote_eq, State.formed, promoting_goals]
    exact (formTargets_calm hcool' _).trans (enginePromoted_calm ..)
  have hgoal : ∀ w, ((s.promote event).zone w).rail.goal = s.promotedGoals w := fun w => by
    rw [hcalm.rail]; exact (k.course w).rail_goal
  exact promoting_railPromoted (railPromoted_of_course (promoting_rails hs z) hgoal
    ((k.course z).mono (hcalm.rail z) (hcalm.search z) (hcalm.values z) (hcalm.latches z)))

theorem promote_goal (hs : s.RailsConsistent) (z : ZoneId) : ((s.promote event).zone z).rail.goal = s.promotedGoals z := by
  rw [promote_eq, works_rail (enginePromoted_works ..), formed_goal hs]

/-- The heat targets of the promoted step (R106). -/
theorem promote_target (hs : s.HeatConsistent) (z : ZoneId) : ((s.promote event).zone z).heat.target =
    (s.step.promoted.cur.tempTarget.get z).map (min · (s.zone z).cfg.heatLimit) := by
  have hheat : ((s.promoting event).formGoals (s.promoting event).stepGoals).HeatConsistent :=
    (formGoals_orderly ..).heat fun w => by rw [promoting_zone]; exact hs w
  have hstep : ((s.promoting event).formGoals (s.promoting event).stepGoals).step = s.step.promoted :=
    ((formGoals_zonal ..).step (promoting_running s event)).trans (promoting_step s event)
  have hcfg : (((s.promoting event).formGoals (s.promoting event).stepGoals).zone z).cfg = (s.zone z).cfg := by
    rw [cfg_of_setup (formGoals_setup ..), promoting_zone]
  rw [promote_eq, works_heat (enginePromoted_works ..), State.formed, formTargets_target hheat, State.stepTargets, hstep, hcfg]

/-! ### Step control, the engine and the records -/

theorem promote_step (s : State) (event : StepEvent) : (s.promote event).step = s.step.promoted := by
  rw [(promote_carries s event).1.step, promoting_step]

theorem promote_engine (s : State) (event : StepEvent) : (s.promote event).engine =
    s.engine.promoted s.step.cur.source s.step.promoted.cur.source s.step.promoted.cur.period := by
  rw [promote_eq, enginePromoted_engine, formed_engine, formed_step]

theorem promote_drive (h : s.engine.state ≠ .stopped ∨ s.step.promoted.cur.source = .none) :
    (s.promote event).driveInEffect = s.driveInEffect := by
  rw [promote_eq, enginePromoted_drive (by rw [formed_engine, formed_step]; exact h), formed_driveInEffect]

/-- Records that join the queue later come after those that stand in it. -/
theorem Reports.Grown.queue {q q' : Reports} (h : q.Grown q') : ∃ later, q'.queue = q.queue ++ later := by
  refine h.keeps (P := fun q' => ∃ later, q'.queue = q.queue ++ later) (fun q' r ⟨later, hq⟩ => ?_) ⟨[], (List.append_nil _).symm⟩
  rcases create_cases q' r with ⟨-, e⟩ | ⟨-, e⟩ <;> rw [e]
  · exact ⟨later ++ [r], by rw [hq, List.append_assoc]⟩
  · exact ⟨later, hq⟩

/-- The STEP record of a promotion comes first (R160). -/
theorem promote_record (h : s.settings.step = true) (hroom : s.reports.queue.length < 64) :
    ∃ later, (s.promote event).reports.queue =
      s.reports.queue ++ Record.step event (s.step.cur.number + 1) s.runSeconds :: later := by
  have hfirst : (s.promoting event).reports = s.reports.create (.step event (s.step.cur.number + 1) s.runSeconds) :=
    reportStep_enabled (s := s.updStep StepCtl.promoted) h event
  obtain ⟨later, hlater⟩ := (promote_carries s event).1.reports.queue
  refine ⟨later, ?_⟩
  rcases create_cases s.reports (.step event (s.step.cur.number + 1) s.runSeconds) with ⟨-, e⟩ | ⟨hfull, -⟩
  · rw [hlater, hfirst, e]
    simp
  · exact absurd hroom (Nat.not_lt.mpr hfull)

/-! ### A promotion that starts the engine -/

theorem promote_start (hidle : s.engine.state = .stopped) (hsource : s.step.promoted.cur.source ≠ .none) :
    ∃ sense, s.promote event = (s.formed event).started.startCycle sense := by
  obtain ⟨sense, h⟩ := startEngine_eq (s.formed event)
  refine ⟨sense, ?_⟩
  rw [promote_eq, enginePromoted_start (by rw [formed_engine]; exact hidle) (by rw [formed_step]; exact hsource), h]

/-- What a starting promotion's first cycle begins from. -/
theorem formed_started (s : State) (event : StepEvent) :
    let w := (s.formed event).started
    w.NoWindowDue ∧ w.step = s.step.promoted ∧ w.drive = s.drive ∧ w.driveInEffect = s.drive ∧ w.tally = s.tally ∧
      w.setup = s.setup ∧ (s.NoWindowDue → w.windows = s.windows) := by
  have hdrive : (s.formed event).drive = s.drive := drive_of_setup (formed_setup s event)
  intro w
  refine ⟨noWindowDue_of_windows (started_windows _) (endDueWindows_none _), ?_, ?_, ?_, ?_, ?_, fun h => ?_⟩
  · rw [started_step, formed_step]
  · rw [started_drive, hdrive]
  · rw [started_driveInEffect, hdrive]
  · rw [started_tally, formed_tally]
  · rw [started_setup, formed_setup]
  · rw [started_windows, endDueWindows_idle (noWindowDue_of_windows (formed_windows s event) h), formed_windows]

theorem row_of_setup (h : t.setup = s.setup) (n : LaneId) : (t.lane n).row = (s.lane n).row :=
  congrFun (congrArg Setup.lanes h) n

theorem checks_of_windows (h : t.windows = s.windows) (n : LaneId) :
    (t.lane n).prbs = (s.lane n).prbs ∧ (t.lane n).watch = (s.lane n).watch :=
  Prod.mk.inj (congrFun h n)

/-- A starting promotion is the first cycle of what it formed, with the vector chosen and the DRIVE rows taken (R128, R133). -/
theorem promote_begins (hu : s.promote event = u) (hidle : s.engine.state = .stopped)
    (hsource : s.step.promoted.cur.source ≠ .none) :
    ∃ (w : State) (sense : BitVec 64), u = w.startCycle sense ∧ w.NoWindowDue ∧ w.step = u.step ∧
      w.drive = s.drive ∧ w.driveInEffect = s.drive ∧ u.driveInEffect = s.drive ∧
      w.engine = { s.engine with
        state := u.engine.state, loopIndex := 0, cycle := 0, period := u.step.cur.period
        prbsA := BitVec.allOnes 9, prbsB := BitVec.allOnes 15, clockPhase := false } ∧
      (∀ z : ZoneId, (w.zone z).rail = (u.zone z).rail ∧ (u.zone z).driving = (u.zone z).rail.state.ungated) ∧
      (∀ i : SocketId, (w.socket i).running = (s.socket i).running ∧ (w.socket i).firstFail = (s.socket i).firstFail) ∧
      ∀ n : LaneId, (w.lane n).row = (s.lane n).row ∧
        (s.NoWindowDue → (w.lane n).prbs = (s.lane n).prbs ∧ (w.lane n).watch = (s.lane n).watch) := by
  have hcur : u.step = s.step.promoted := by rw [← hu, promote_step]
  obtain ⟨sense, hbegun⟩ := promote_start (event := event) hidle hsource
  have hu : u = (s.formed event).started.startCycle sense := hu.symm.trans hbegun
  obtain ⟨hdue, hstep, hdrive, heffect, htally, hsetup, hwindows⟩ := formed_started s event
  have hrail : ∀ z, ((s.formed event).started.zone z).rail = (u.zone z).rail := fun z => by
    rw [hu, works_rail (startCycle_works ..)]
  have hdriving : ∀ z, (u.zone z).driving = ((s.formed event).started.zone z).rail.state.ungated := fun z => by
    rw [hu, startCycle_zone, driveCycle_zone]
  have hscores : ∀ i, ((s.formed event).started.socket i).running = (s.socket i).running ∧
      ((s.formed event).started.socket i).firstFail = (s.socket i).firstFail := fun i =>
    Prod.mk.inj (congrFun htally i)
  have hlanes : ∀ n, ((s.formed event).started.lane n).row = (s.lane n).row ∧
      (s.NoWindowDue → ((s.formed event).started.lane n).prbs = (s.lane n).prbs ∧
        ((s.formed event).started.lane n).watch = (s.lane n).watch) := fun n =>
    ⟨row_of_setup hsetup n, fun h => checks_of_windows (hwindows h) n⟩
  have hengine := started_engine (s.formed event)
  rw [formed_engine, formed_step, ← startCycle_state _ sense, ← hu, ← hcur] at hengine
  refine ⟨_, sense, hu, hdue, hstep.trans hcur.symm, hdrive, heffect, ?_, hengine,
    fun z => ⟨hrail z, by rw [hdriving, hrail]⟩, hscores, hlanes⟩
  rw [hu, startCycle_drive, hdrive]

/-- Settles O36: a promotion as the parts above say it, by STEP_START and by STAGE_SETTLE. -/
theorem promotionMakesStagedCurrent : Obligations.PromotionMakesStagedCurrent := by
  intro src tag s hready hrails hheat hnumber g c number promoted
  have hkey : ∀ (f : StepCtl → StepCtl) (event : StepEvent), (f s.step).staged = g → (f s.step).cur = c →
      promoted ((s.updStep f).promote event) event := by
    intro f event hstaged hcur
    have hnum : (s.updStep f).step.cur.number + 1 = number := congrArg (·.number + 1) hcur
    have hstep := promote_step (s.updStep f) event
    have hpromoted : (s.updStep f).step.promoted =
        { state := .running, cur := g.inherit c number, elapsed := 0, staged := {}, stagedState := .empty } := by
      rw [← hstaged, ← hnum, ← hcur]; rfl
    have hcur' : ((s.updStep f).promote event).step.cur = g.inherit c number := by rw [hstep, hpromoted]
    have hgoal := promote_goal (event := event) (s := s.updStep f) hrails
    have htarget := promote_target (event := event) (s := s.updStep f) hheat
    have hengine := promote_engine (s.updStep f) event
    have hbegins := promote_begins (event := event) (s := s.updStep f) rfl
    have hdrive := promote_drive (event := event) (s := s.updStep f)
    have hrecord := promote_record (event := event) (s := s.updStep f)
    have hsource : (s.updStep f).step.cur.source = c.source := congrArg StepRec.source hcur
    rw [hsource, hpromoted, ← hcur'] at hengine
    rw [hpromoted, ← hcur'] at hbegins hdrive
    rw [hnum] at hrecord
    refine ⟨by rw [hcur', hstep, hpromoted], by rw [hcur']; rfl, by rw [hcur']; rfl, by rw [hcur']; rfl, by rw [hcur']; rfl,
      by rw [hcur']; rfl, by rw [hcur']; rfl, fun z => ⟨?_, ?_, ?_, ?_⟩, hengine, hbegins, hdrive,
      promote_rails (s := s.updStep f) hrails, hrecord⟩
    · rw [hcur']; exact Table.get_ofFn ..
    · rw [hcur']; exact Table.get_ofFn ..
    · rw [hgoal, State.promotedGoals, hpromoted, hcur']; rfl
    · rw [htarget, hpromoted, hcur']; rfl
  have hfree : s.step.numberFree = true := decide_eq_true hnumber
  refine ⟨fun hsettled hstate => ⟨(s.updStep id).promote .started, ?_, hkey id .started rfl rfl⟩, fun hopen hholding hadvance =>
    ⟨(s.updStep fun c => { c with stagedState := .settled }).promote .advanced, ?_, hkey _ .advanced rfl rfl⟩⟩
  · have hexec : exec (.stepStart src tag) s = .next (s.deliver src tag 18 State.startStep) := rfl
    have hstart : s.startStep = (s.promote .started).accept := by
      rcases hstate with e | e <;> simp [State.startStep, e, hsettled, hfree]
    rw [hexec, deliver_ready hready, hstart]
    rfl
  · have hexec : exec (.stageSettle src tag) s = .next (s.deliver src tag 16 State.settleStage) := rfl
    have hsettle : s.settleStage = ((s.updStep fun c => { c with stagedState := .settled }).promote .advanced).accept := by
      rw [State.settleStage, if_neg hopen]
      exact if_pos ⟨hholding, hadvance, hfree⟩
    rw [hexec, deliver_ready hready, hsettle]
    rfl

end Sys2Proof.Machine
end
